-- ==== Sys2Proof/Word.lean ====
section
/-!
DEFINITION. Word.lean: the word of the YR4824 and its plainest arithmetic (spec/00_scope.md, spec/07_ibben_machine_model.md R239).
-/
namespace Sys2Proof

/-- A 48-bit word of memory, of a register or of a peripheral register (R239). -/
abbrev Word := BitVec 48
/-- A 96-bit accumulator (R229). -/
abbrev Acc := BitVec 96
/-- A 24-bit word address (R160). -/
abbrev Addr := BitVec 24

/-- The s48 reading of a word (R239). -/
def Word.s48 (w : Word) : Int := w.toInt
/-- The word holding the low 48 bits of an exact integer. -/
def Word.ofS (i : Int) : Word := BitVec.ofInt 48 i
/-- The word holding the low 48 bits of a natural number. -/
abbrev Word.ofN (n : Nat) : Word := BitVec.ofNat 48 n

/-- Greatest and least s48 values (R239). -/
def s48Max : Int := 2 ^ 47 - 1
def s48Min : Int := -2 ^ 47

end Sys2Proof
end

