-- ==== Sys2Proof/Syntax.lean ====
section
/-!
DEFINITION. Syntax.lean: the commands of the YR4824 block, one constructor per row of spec/opcode_table.json, with the
operand types they carry. A command that is a write of a register with a row of its own names its master and the value;
a command that is an event carries the facts of the world outside the chip that decide what it does.
-/
namespace Sys2Proof

/-- A strand number (R195). -/
abbrev StrandId := Fin 64
/-- A course number (R25). -/
abbrev Course := Fin 8
/-- A half-bridge number (R25). -/
abbrev HB := Fin 24
/-- A gate-supply domain, and the die sensor of that domain. -/
abbrev Dom := Fin 4
/-- A filter engine or acquisition unit number. -/
abbrev Engine := Fin 4
/-- A chain position of a cascade (R764). -/
abbrev Chip := Fin 4

/-- Who performs a register or memory access (R162, R195, R571, R629, R769, R787). -/
inductive Master where
  | strand (s : StrandId)
  | host
  | remote (p : Chip)
  | debug
  deriving DecidableEq, Repr

/-- Which request of a remote access it is: the chain position it comes from and its number there (R306). -/
structure RemoteReq where
  chip : Chip
  seq : Nat
  deriving DecidableEq, Repr

/-- Format A, register (R249); FN is the constructor. -/
structure FmtA where
  rd : BitVec 5
  ra : BitVec 5
  rb : BitVec 5
  f : Bool
  s : Bool
  u : Bool
  ac : Bool
  am : BitVec 2
  imm : BitVec 10
  deriving DecidableEq, Repr

/-- Format I, immediate (R249). -/
structure FmtI where
  rd : BitVec 5
  ra : BitVec 5
  f : Bool
  s : Bool
  u : Bool
  imm : BitVec 29
  deriving DecidableEq, Repr

/-- Format M, memory (R249). -/
structure FmtM where
  rt : BitVec 5
  ra : BitVec 5
  mode : BitVec 3
  ri : BitVec 5
  disp : BitVec 24
  deriving DecidableEq, Repr

/-- Format B, branch (R249); rsv is the reserved field 32:24. -/
structure FmtB where
  cond : BitVec 4
  rl : BitVec 5
  rsv : BitVec 9
  off : BitVec 24
  deriving DecidableEq, Repr

/-- Format K, constant (R249); rsv holds the reserved bits 34:24. -/
structure FmtK where
  rd : BitVec 5
  p : BitVec 2
  rsv : BitVec 11
  imm : BitVec 24
  deriving DecidableEq, Repr

/-- Format X, extended (R249); rsv is the reserved field 20:16; XFN is the constructor. -/
structure FmtX where
  rd : BitVec 5
  ra : BitVec 5
  rb : BitVec 5
  rsv : BitVec 5
  imm : BitVec 16
  deriving DecidableEq, Repr

/-- The six flash bytes of a word, in the order of their addresses (R189). -/
abbrev FlashBytes : Type := Vector (BitVec 8) 6

/-- What a try of an image source reads from the flash: the bytes of its words from byte 0 on, and the word whose read times out (R149 to
R154, R158). -/
structure ImageTry where
  words : List FlashBytes
  timeout : Option Nat
  deriving DecidableEq, Repr

/-- The reply to a remote access (R305, R769, R770): performed with a word, or refused there. -/
inductive RemoteReply where
  | ok (w : Word)
  | addr
  | prot
  deriving DecidableEq, Repr

/-- A valid CAN frame as the controller received it (R669 to R673): word 0 of R665 up to DLC, with its ESI bit, the frame's
CRC, the DTIME of its SOF stamp and its payload. -/
structure CanFrame where
  id : BitVec 29
  ide : Bool
  fdf : Bool
  brs : Bool
  rtr : Bool
  dlc : BitVec 4
  esi : Bool
  crc : BitVec 16
  sof : Word
  data : List (BitVec 8)
  deriving DecidableEq, Repr

/-- A LIN frame that has ended (R681): its identifier, response length, checksum verdict and error, the DTIME of its break's
falling edge, its data, and the transmit buffer whose frame it was. -/
structure LinFrame where
  id : BitVec 6
  len : BitVec 4
  cks : BitVec 2
  err : BitVec 4
  brk : Word
  data : List (BitVec 8)
  own : Option (Fin 4)
  deriving DecidableEq, Repr

/-- An RCP request as its frame carries it (R686 to R690, R715): the CAN identifier (the LIN frame ID for the reduced form),
the payload bytes, and the DTIME of its SOF stamp or break. -/
structure RcpRequest where
  lin : Bool
  id : BitVec 29
  bytes : List (BitVec 8)
  t : Word
  deriving DecidableEq, Repr

/-- What a controller has received, as a twin pair carries it (R737, R755): a frame for a ring, an RCP request, a RETURN or RESYNC
credit frame, a SYNC or FOLLOW beacon, or the bytes of a control frame of the rest engine (R714), each with its stamp. -/
inductive RxEvent where
  | can (f : CanFrame)
  | lin (f : LinFrame)
  | rcp (q : RcpRequest)
  | credit (d : Word) (src : BitVec 4) (n : List (BitVec 8))
  | resync (d : Word) (src : BitVec 4) (n : BitVec 16)
  | sync (d : Word) (bn : BitVec 8)
  | follow (d : Word) (bn : BitVec 8) (tm : BitVec 64)
  | control (d : Word) (src : BitVec 4) (bytes : List (BitVec 8))
  deriving DecidableEq, Repr

/-- One item of a twin journal frame (R737): KIND, the beat OFS within its window, and its content: as words, or for RXREC as what
was received. -/
structure TwinItem where
  kind : BitVec 5
  ofs : BitVec 11
  data : List Word
  rx : Option RxEvent
  deriving DecidableEq, Repr

/-- A twin journal frame (R736, R739): FSEQ, WIN, whether its CRC is good, and its items. -/
structure TwinFrame where
  seq : BitVec 16
  win : BitVec 40
  good : Bool
  items : List TwinItem
  deriving DecidableEq, Repr

/-- What the pair start brings a chip over port A (R757, R759, R760): the start beat M; for the shadow the word of
TIME_SYNC, the RAM words and MRAM words that differ, and the register words of keep classes N, A and W. -/
structure PairData where
  start : Word
  trim : Word
  ram : List (BitVec 24 × Word)
  mram : List (BitVec 24 × List Word)
  regs : List (BitVec 24 × Word)
  deriving DecidableEq, Repr

/-- One command of the block for each row of the opcode table, with its operands (spec/opcode_table.json). -/
inductive Instr where
  /-- REGISTER_WRITE (R258): A store, host, remote or debug write to a register that has no row of its own takes effect field by field by its
  access codes. -/
  | registerWrite (m : Master) (a : BitVec 24) (v : Word)
  /-- POWER_ON (R134): VSUP rises through the power-on threshold and a POR begins. -/
  | powerOn
  /-- BROWNOUT (R854): VREG5, VIO or VCORE falls below its threshold in RUN, DOZE or a valid wake and a BOR begins. -/
  | brownout (src : BitVec 2)
  /-- SUPPLY_LOSS_OFF (R113): VSUP falls below 3.6 V and the device enters OFF. -/
  | supplyLossOff
  /-- OFF_LATCH_RELEASE (R113): VBAT rises from 4.0 V or below to above it and the OFF latch ends in a POR. -/
  | offLatchRelease
  /-- VSUP_SOURCE_SWITCH (R102): VSUP changes between VBAT and VRSV as their difference crosses 50 mV. -/
  | vsupSourceSwitch (toVrsv : Bool)
  /-- VBATUV_SET (R105): VBAT has stayed below TH for 2 ms and VBATUV becomes 1. -/
  | vbatuvSet
  /-- VBATUV_CLEAR (R105): VBAT has stayed above TH plus HYST for 2 ms and VBATUV becomes 0. -/
  | vbatuvClear
  /-- SRR_HOLD_END (R143): VBATUV has read 0 for 10 ms in the SRR hold and an SRR follows. -/
  | srrHoldEnd
  /-- RESET_PIN_ASSERT (R136): RESET_N low for 2 always-on periods causes a PIN reset. -/
  | resetPinAssert
  /-- RESET_PIN_RELEASE (R136): RESET_N has been high for one always-on period and the PIN reset ends. -/
  | resetPinRelease
  /-- SOFTWARE_RESET (R134): A write of RST_CTL with SWR 1 and the correct KEY starts an SWR escalation. -/
  | softwareReset (m : Master) (v : Word)
  /-- BOOT_FLOW (R153): The boot ROM begins its flow after a reset or a wake from REST. -/
  | bootFlow (s1 s2 s3 : BitVec 8)
  /-- IMAGE_TRY_END (R153): A try of an image source ends with its code and the next source is tried or the image started. -/
  | imageTryEnd (t : ImageTry)
  /-- HOST_GO (R157): A write of RST_HOSTGO ends a waiting host try or starts one in the boot-fail hold. -/
  | hostGo (m : Master)
  /-- HOST_TRY_TIMEOUT (R157): HOSTTO milliseconds pass without RST_HOSTGO and the host try ends HOST_TIMEOUT. -/
  | hostTryTimeout
  /-- REFERENCE_VALID (R61): The reference has given 88 to 104 cycles in 64 consecutive always-on periods and becomes valid. -/
  | referenceValid
  /-- REFERENCE_LOST (R64): The reference count leaves its range; REFLOST is set, the PLL held and the all-off reaction applied if enabled. -/
  | referenceLost
  /-- BEAT_RELEASE (R62): After PLL lock the first beat is delivered to the logic. -/
  | beatRelease
  /-- DLL_CORRECTION (R69): Every 256 beats each delay line is corrected by at most one step. -/
  | dllCorrection (line : Fin 2) (drift : Fin 3)
  /-- DTIME_HANDOFF (R79): At the next always-on edge after beat release DTIME is loaded from the always-on count. -/
  | dtimeHandoff (k : Nat) (qr qb : Word)
  /-- SYNC_EDGE (R82): A REFIN-role chip detects a SYNC rising edge and loads DTIME with the announced value plus SYNCDLY. -/
  | syncEdge (announced : Word)
  /-- BEACON_SAMPLE (R90): A beacon sample is processed into a step or slew and a rate update. -/
  | beaconSample (fwd : Option (BitVec 64 × Word))
  /-- BEACON_TIMEOUT (R86): No beacon sample for BTO milliseconds moves network time to HOLDOVER. -/
  | beaconTimeout
  /-- HOLDOVER_EXPIRY (R86): HOLDOVER has lasted HOLD seconds and network time becomes FREE. -/
  | holdoverExpiry
  /-- TPULSE_BOUNDARY (R98): NTIME reaches a whole pulse period and TPULSE rises, or the pulse is skipped and TPSKIP counted. -/
  | tpulseBoundary
  /-- TPULSE_END (R99): The high time fixed by the state at the rising edge ends and TPULSE falls. -/
  | tpulseEnd
  /-- REQ_RUN (R129): A write of PWR_CTL.REQ = RUN returns the device from DOZE to RUN. -/
  | reqRun (m : Master)
  /-- REQ_DOZE (R119): A write of REQ = DOZE enters DOZE unless a course has outputs enabled. -/
  | reqDoze (m : Master)
  /-- REQ_STANDBY (R121): A write of REQ = STANDBY starts the entry at step E1 drain, through DOZE if in RUN. -/
  | reqStandby (m : Master)
  /-- REQ_REST (R121): A write of REQ = REST starts the entry at step E1 drain, through DOZE if in RUN. -/
  | reqRest (m : Master)
  /-- ENTRY_DRAIN_END (R121): E1 ends once nothing is in flight and every persist committed; E2 arms wake sources. -/
  | entryDrainEnd
  /-- DRAIN_LIMIT_EXPIRY (R122): E1 has not ended within 240,000 beats and the entry is abandoned. -/
  | drainLimitExpiry
  /-- POINT_OF_NO_RETURN (R121): At P0 the beat stops and the position counters pass to the Hall sampler. -/
  | pointOfNoReturn
  /-- ENTRY_COMPLETE (R124): At P10 the entry completes and any latched wake starts its sequence. -/
  | entryComplete
  /-- STANDBY_DEEPEN (R125): STANDBY has lasted DEEPEN minutes and deepens to REST. -/
  | standbyDeepen
  /-- WAKE_PIN_EDGE (R115): An edge held for the filter time on WAKE0 to WAKE3 is detected as a wake. -/
  | wakePinEdge (k : Fin 4)
  /-- WAKE_TIMER_EXPIRY (R117): The wake timer reaches PERIOD milliseconds after the last entry and wakes the device. -/
  | wakeTimerExpiry
  /-- PEER_ACTIVITY_WAKE (R115): Signal activity on the port A receive pair wakes the device. -/
  | peerActivityWake
  /-- LP_HALL_SAMPLE (R130): Every LPINTd the sampler pulses HSUPd, samples the Hall inputs and updates the low-power delta. -/
  | lpHallSample (d : Dom) (levels : BitVec 24)
  /-- RAM_WRITEBACK (R164): A corrected RAM word is written back in a free beat of the RAM port. -/
  | ramWriteback (a : BitVec 24)
  /-- MRAM_WRITEBACK (R177): An MRAM word corrected in at least MWTH bits is written back. -/
  | mramWriteback (a : BitVec 24)
  /-- RAM_SCRUB (R179): Every RAMINT × 16 beats the scrubber reads the next RAM word. -/
  | ramScrub (bits : BitVec 3)
  /-- MRAM_SCRUB (R179): Every MRAMINT × 256 beats the scrubber reads the next MRAM word. -/
  | mramScrub (bits : BitVec 3)
  /-- PERSIST_PHASE1_START (R301): A waiting persist begins staging once its slot is retired and the write engine is free. -/
  | persistPhase1Start
  /-- PERSIST_COMMIT (R171): A persist's commit marker is written and the issuing operation completes. -/
  | persistCommit
  /-- PERSIST_RETIRE (R170): Phase 2 writes the target words and the retire mark of a slot. -/
  | persistRetire
  /-- JOURNAL_PERIOD (R184): Every PER milliseconds a position record is written when a counter has changed. -/
  | journalPeriod
  /-- JOURNAL_REQUEST (R184): A write of MEM_JCTL.REQ requests a position record. -/
  | journalRequest (m : Master)
  /-- PROGRAM_BOOT_KEY (R187): MEM_WOCTL.OP 0x1 programs the boot key unless already set. -/
  | programBootKey (m : Master)
  /-- PROGRAM_UNLOCK_CODE (R187): MEM_WOCTL.OP 0x2 programs the debug unlock code unless already programmed. -/
  | programUnlockCode (m : Master)
  /-- SET_LOCK_WORD (R187): MEM_WOCTL.OP 0x3 sets the lock word when the unlock code is programmed. -/
  | setLockWord (m : Master)
  /-- CLRCNT (R178): A write of MEM_CTL.CLRCNT clears every MEM_ERRCNT field. -/
  | clrcnt (m : Master)
  /-- STRAND_RUNNABLE (R213): Five beats after an ending event a waiting strand becomes RUNNABLE and its wait completes. -/
  | strandRunnable (s : StrandId)
  /-- DEADLINE_REACHED (R311): DTIME reaches a wait's deadline and the wait completes with 0x100. -/
  | deadlineReached (s : StrandId)
  /-- STRAND_DRAIN_END (R199): A DRAINING strand's last operation completes and it becomes WAITING, PARKED or FREE. -/
  | strandDrainEnd (s : StrandId)
  /-- EVSET (R215): A write of SCH_EVSET asserts the software event lines whose bits are set. -/
  | evset (m : Master) (v : Word)
  /-- WDKICK (R217): A write of SCH_WDKICK counts as a kick or, if wrong, causes watchdog expiry. -/
  | wdkick (m : Master) (v : Word)
  /-- WATCHDOG_WINDOW_OPEN (R221): The watchdog count reaches WDMIN and the WDOG event line is asserted. -/
  | watchdogWindowOpen
  /-- WATCHDOG_EXPIRY (R218): The watchdog count reaches WDTO and an escalation to WDR begins. -/
  | watchdogExpiry
  /-- ESCALATION_DRAIN_END (R327): G2 ends when begun operations complete or 2,048 beats pass, and the snapshot is written. -/
  | escalationDrainEnd
  /-- ESCALATION_LOG_TIMEOUT (R328): The escalation entry has not committed by D + 639 and the reset begins without it. -/
  | escalationLogTimeout
  /-- REGISTER_FILE_PARITY_ERROR (R325): A parity error in strand state is the RFERR machine fault and escalates. -/
  | registerFileParityError (s : StrandId)
  /-- ADD (R265): rd := ra + rb, wrapping or saturating. -/
  | add (s : StrandId) (x : FmtA)
  /-- SUB (R265): rd := ra − rb, wrapping or saturating. -/
  | sub (s : StrandId) (x : FmtA)
  /-- ADC (R265): rd := ra + rb + C. -/
  | adc (s : StrandId) (x : FmtA)
  /-- SBC (R265): rd := ra − rb − C. -/
  | sbc (s : StrandId) (x : FmtA)
  /-- NEG (R266): rd := 0 − ra. -/
  | neg (s : StrandId) (x : FmtA)
  /-- ABS (R266): rd := |ra|. -/
  | abs (s : StrandId) (x : FmtA)
  /-- MIN (R264): rd := the lesser of ra and rb. -/
  | min (s : StrandId) (x : FmtA)
  /-- MAX (R264): rd := the greater of ra and rb. -/
  | max (s : StrandId) (x : FmtA)
  /-- AND (R267): rd := ra AND rb. -/
  | and (s : StrandId) (x : FmtA)
  /-- OR (R267): rd := ra OR rb. -/
  | or (s : StrandId) (x : FmtA)
  /-- XOR (R267): rd := ra XOR rb. -/
  | xor (s : StrandId) (x : FmtA)
  /-- ANDN (R267): rd := ra AND NOT rb. -/
  | andn (s : StrandId) (x : FmtA)
  /-- ORN (R267): rd := ra OR NOT rb. -/
  | orn (s : StrandId) (x : FmtA)
  /-- XNOR (R267): rd := NOT (ra XOR rb). -/
  | xnor (s : StrandId) (x : FmtA)
  /-- SHL (R268): Left shift, optionally saturating. -/
  | shl (s : StrandId) (x : FmtA)
  /-- SHR (R268): Logical right shift. -/
  | shr (s : StrandId) (x : FmtA)
  /-- ASR (R268): Arithmetic right shift. -/
  | asr (s : StrandId) (x : FmtA)
  /-- ROR (R269): Rotate right by count mod 48. -/
  | ror (s : StrandId) (x : FmtA)
  /-- ASRR (R269): Arithmetic right shift rounded by RM. -/
  | asrr (s : StrandId) (x : FmtA)
  /-- EXTU (R270): Extracts a bit field zero-extended. -/
  | extu (s : StrandId) (len : BitVec 6) (x : FmtA)
  /-- EXTS (R270): Extracts a bit field sign-extended. -/
  | exts (s : StrandId) (len : BitVec 6) (x : FmtA)
  /-- INS (R270): Inserts a bit field into rd. -/
  | ins (s : StrandId) (len : BitVec 6) (x : FmtA)
  /-- CLZ (R270): Counts leading zero bits. -/
  | clz (s : StrandId) (len : BitVec 6) (x : FmtA)
  /-- CTZ (R270): Counts trailing zero bits. -/
  | ctz (s : StrandId) (len : BitVec 6) (x : FmtA)
  /-- POPC (R270): Counts one bits. -/
  | popc (s : StrandId) (len : BitVec 6) (x : FmtA)
  /-- BREV (R270): Reverses the bit order. -/
  | brev (s : StrandId) (len : BitVec 6) (x : FmtA)
  /-- ADDI (R271): rd := ra + immediate. -/
  | addi (s : StrandId) (x : FmtI)
  /-- SUBI (R271): rd := ra − immediate. -/
  | subi (s : StrandId) (x : FmtI)
  /-- ANDI (R271): rd := ra AND immediate. -/
  | andi (s : StrandId) (x : FmtI)
  /-- ORI (R271): rd := ra OR immediate. -/
  | ori (s : StrandId) (x : FmtI)
  /-- XORI (R271): rd := ra XOR immediate. -/
  | xori (s : StrandId) (x : FmtI)
  /-- SHI (R271): Shift of the OP 0x03 type with an immediate count. -/
  | shi (s : StrandId) (x : FmtI)
  /-- RSBI (R271): rd := immediate − ra. -/
  | rsbi (s : StrandId) (x : FmtI)
  /-- MUL (R272): Multiplies to a word by the AM alignment. -/
  | mul (s : StrandId) (x : FmtA)
  /-- MULH (R272): rd := high 48 bits of the 96-bit product. -/
  | mulh (s : StrandId) (x : FmtA)
  /-- MULA (R273): Accumulator := aligned product. -/
  | mula (s : StrandId) (x : FmtA)
  /-- MAC (R273): Adds the aligned product to the accumulator, saturating. -/
  | mac (s : StrandId) (x : FmtA)
  /-- MSU (R273): Subtracts the aligned product from the accumulator, saturating. -/
  | msu (s : StrandId) (x : FmtA)
  /-- CLRA (R273): Clears the accumulator. -/
  | clra (s : StrandId) (x : FmtA)
  /-- NARW (R274): Narrows the accumulator to a word by R244. -/
  | narw (s : StrandId) (x : FmtA)
  /-- MFAH (R274): rd := accumulator bits 95:48. -/
  | mfah (s : StrandId) (x : FmtA)
  /-- MFAL (R274): rd := accumulator bits 47:0. -/
  | mfal (s : StrandId) (x : FmtA)
  /-- MTA (R274): Loads the accumulator from ra and rb. -/
  | mta (s : StrandId) (x : FmtA)
  /-- CVQ24 (R275): Converts Q1.47 to Q24.24. -/
  | cvq24 (s : StrandId) (x : FmtA)
  /-- CVQ47 (R275): Converts Q24.24 to Q1.47. -/
  | cvq47 (s : StrandId) (x : FmtA)
  /-- CVI24 (R275): Converts s48 to Q24.24. -/
  | cvi24 (s : StrandId) (x : FmtA)
  /-- CV24I (R275): Converts Q24.24 to s48. -/
  | cv24i (s : StrandId) (x : FmtA)
  /-- LI (R253): Writes a 24-bit constant into rd by P. -/
  | li (s : StrandId) (x : FmtK)
  /-- LIPC (R276): rd := PC plus a signed offset. -/
  | lipc (s : StrandId) (x : FmtK)
  /-- LD (R277): Loads the word at the effective address into rt. -/
  | ld (s : StrandId) (x : FmtM)
  /-- ST (R277): Stores rt to the word at the effective address. -/
  | st (s : StrandId) (x : FmtM)
  /-- LEA (R278): rt := the effective address, with no access. -/
  | lea (s : StrandId) (x : FmtM)
  /-- B (R252): Conditional PC-relative branch with optional link. -/
  | b (s : StrandId) (x : FmtB)
  /-- BR (R281): Conditional indirect branch through ra with optional link. -/
  | br (s : StrandId) (x : FmtA)
  /-- CMP (R282): Sets the flags for ra − rb. -/
  | cmp (s : StrandId) (x : FmtA)
  /-- CMN (R282): Sets the flags for ra + rb. -/
  | cmn (s : StrandId) (x : FmtA)
  /-- TST (R282): Sets the flags for ra AND rb. -/
  | tst (s : StrandId) (x : FmtA)
  /-- SEL (R282): rd := ra or rb by COND. -/
  | sel (s : StrandId) (x : FmtA)
  /-- SETC (R282): rd := 1 when COND is true, else 0. -/
  | setc (s : StrandId) (x : FmtA)
  /-- MFST (R282): rd := ST. -/
  | mfst (s : StrandId) (x : FmtA)
  /-- MTST (R282): ST := ra. -/
  | mtst (s : StrandId) (x : FmtA)
  /-- STCLR (R282): Clears the ST bits named by a mask. -/
  | stclr (s : StrandId) (x : FmtA)
  /-- STSET (R282): Sets the ST bits named by a mask. -/
  | stset (s : StrandId) (x : FmtA)
  /-- DIVS (R292): Signed division, 26 beats. -/
  | divs (s : StrandId) (x : FmtX)
  /-- DIVU (R292): Unsigned division, 26 beats. -/
  | divu (s : StrandId) (x : FmtX)
  /-- REMS (R292): Signed remainder, 26 beats. -/
  | rems (s : StrandId) (x : FmtX)
  /-- REMU (R292): Unsigned remainder, 26 beats. -/
  | remu (s : StrandId) (x : FmtX)
  /-- DIVQ24 (R292): Q24.24 division, 28 beats. -/
  | divq24 (s : StrandId) (x : FmtX)
  /-- DIVQ47 (R292): Q1.47 division, 28 beats. -/
  | divq47 (s : StrandId) (x : FmtX)
  /-- ISQRT (R292): Integer square root, 26 beats. -/
  | isqrt (s : StrandId) (x : FmtX)
  /-- SQRTQ24 (R292): Q24.24 square root, 26 beats. -/
  | sqrtq24 (s : StrandId) (x : FmtX)
  /-- SQRTQ47 (R292): Q1.47 square root, 26 beats. -/
  | sqrtq47 (s : StrandId) (x : FmtX)
  /-- SINCOS (R294): Writes rb cos θ and rb sin θ to a register pair, 32 beats. -/
  | sincos (s : StrandId) (x : FmtX)
  /-- POLAR (R294): Writes the angle and magnitude of (x, y), 32 beats. -/
  | polar (s : StrandId) (x : FmtX)
  /-- ROTV (R294): Rotates the vector in rd, rd + 1 by angle ra, 32 beats. -/
  | rotv (s : StrandId) (x : FmtX)
  /-- AMSWAP (R296): Atomically swaps a RAM word with rb. -/
  | amswap (s : StrandId) (x : FmtX)
  /-- AMADD (R296): Atomically adds rb to a RAM word. -/
  | amadd (s : StrandId) (x : FmtX)
  /-- AMAND (R296): Atomically ANDs rb into a RAM word. -/
  | amand (s : StrandId) (x : FmtX)
  /-- AMOR (R296): Atomically ORs rb into a RAM word. -/
  | amor (s : StrandId) (x : FmtX)
  /-- AMXOR (R296): Atomically XORs rb into a RAM word. -/
  | amxor (s : StrandId) (x : FmtX)
  /-- AMCAS (R296): Atomically compares a RAM word with rd and swaps in rb on equality. -/
  | amcas (s : StrandId) (x : FmtX)
  /-- PERSIST (R298): Persists 1 to 16 RAM words into MRAM as one two-phase persist. -/
  | persist (s : StrandId) (x : FmtX)
  /-- RLD (R304): Reads a register of another cascade chip over the peer link. -/
  | rld (s : StrandId) (x : FmtX)
  /-- RST (R304): Writes a register of another cascade chip over the peer link. -/
  | rst (s : StrandId) (x : FmtX)
  /-- NSEND (R307): Hands a frame descriptor to the CAN or LIN controller. -/
  | nsend (s : StrandId) (x : FmtX)
  /-- SIG (R310): Asserts a software event line. -/
  | sig (s : StrandId) (x : FmtX)
  /-- WAIT (R212): Consumes the lowest pending event or waits, optionally with a deadline. -/
  | wait (s : StrandId) (x : FmtX)
  /-- WMON (R310): Sets a line's bit in the strand's wait mask. -/
  | wmon (s : StrandId) (x : FmtX)
  /-- WMOFF (R310): Clears a line's mask bit and its pending bit. -/
  | wmoff (s : StrandId) (x : FmtX)
  /-- SYNC (R312): Issues only once the strand has nothing in flight. -/
  | sync (s : StrandId) (x : FmtX)
  /-- SPAWN (R198): Starts a FREE user strand at an entry address and class. -/
  | spawn (s : StrandId) (x : FmtX)
  /-- END (R313): The strand ends to DRAINING or FREE. -/
  | endStrand (s : StrandId) (x : FmtX)
  /-- PARK (R313): The strand parks to DRAINING or PARKED. -/
  | park (s : StrandId) (x : FmtX)
  /-- RESUME (R323): Makes a PARKED or FAULTED strand RUNNABLE. -/
  | resume (s : StrandId) (x : FmtX)
  /-- FREE (R313): Frees a PARKED or FAULTED strand. -/
  | free (s : StrandId) (x : FmtX)
  /-- SETCLS (R200): Changes the class of a strand. -/
  | setcls (s : StrandId) (x : FmtX)
  /-- SELF (R313): rd := the strand's own number. -/
  | self (s : StrandId) (x : FmtX)
  /-- RDT (R313): rd := DTIME of the issue beat. -/
  | rdt (s : StrandId) (x : FmtX)
  /-- TAKE (R572): Service TAKE requests a course for SPLIT or USER. -/
  | takeCourse (s : StrandId) (x : FmtX)
  /-- GIVE (R573): Service GIVE returns a course to the supervisor. -/
  | giveCourse (s : StrandId) (x : FmtX)
  /-- QUERY_STATE (R578): Service QUERY_STATE returns the newest call record of a service. -/
  | queryState (s : StrandId) (x : FmtX)
  /-- TUNE (R582): Service TUNE starts motor identification. -/
  | tuneMotor (s : StrandId) (x : FmtX)
  /-- MOVE_TO (R577): Service MOVE_TO starts a motion to a target position. -/
  | moveTo (s : StrandId) (x : FmtX)
  /-- MOVE_VEL (R577): Service MOVE_VEL starts a motion at a speed. -/
  | moveVel (s : StrandId) (x : FmtX)
  /-- STOP (R575): Service STOP brings a course to STOPPING. -/
  | stopMotion (s : StrandId) (x : FmtX)
  /-- HOLD (R575): Service HOLD puts a course in capo hold. -/
  | holdCapo (s : StrandId) (x : FmtX)
  /-- RELEASE (R575): Service RELEASE ends a hold and returns the course to IDLE. -/
  | releaseHold (s : StrandId) (x : FmtX)
  /-- PROFCLR (R596): Service PROFCLR sets every profile bin unlearned and stores it. -/
  | profclr (s : StrandId) (x : FmtX)
  /-- LIMIT (R587): Service LIMIT sets or removes the current limit override. -/
  | limitCurrent (s : StrandId) (x : FmtX)
  /-- CLEAR (R579): Service CLEAR returns a course from FAULT to IDLE once no source is latched. -/
  | clearFault (s : StrandId) (x : FmtX) (present : BitVec 13)
  /-- PARGET (R575): Service PARGET returns a word of a policy section. -/
  | parget (s : StrandId) (x : FmtX)
  /-- PARSET (R575): Service PARSET changes a word of the supervisor's policy copy. -/
  | parset (s : StrandId) (x : FmtX)
  /-- MRECGET (R575): Service MRECGET returns a word of the motor record. -/
  | mrecget (s : StrandId) (x : FmtX)
  /-- POLRELOAD (R565): Service POLRELOAD rereads the policy table. -/
  | polreload (s : StrandId) (x : FmtX)
  /-- LONG_OP_COMPLETE (R286): A long operation completes, writing its destinations or CSW, or raising a deferred fault. -/
  | longOpComplete (s : StrandId) (k : Fin 2)
  /-- PERIPHERAL_SERVICE (R303): A peripheral transaction begins its 4-beat service in machine-wide order. -/
  | peripheralService
  /-- REMOTE_ACCESS_REPLY (R305): The reply to a remote access arrives and completes it with its CSW. -/
  | remoteAccessReply (s : StrandId) (k : Fin 2) (r : RemoteReply)
  /-- REMOTE_ACCESS_TIMEOUT (R305): No reply within 4,800 beats and the remote access completes TIMEOUT. -/
  | remoteAccessTimeout (s : StrandId) (k : Fin 2)
  /-- PERIOD_BOUNDARY (R341): A course counter returns to 0; shadows transfer, stops and sync loads act, and ZERO is raised. -/
  | periodBoundary (c : Course)
  /-- COUNTER_PER_MATCH (R352): The counter enters PER and the PER event is raised. -/
  | counterPerMatch (c : Course)
  /-- COMPARE_EDGE (R343): The counter reaches CMPk and the reference signal falls at its tap. -/
  | compareEdge (c : Course) (k : Fin 3)
  /-- AUX_MATCH (R354): The counter reaches AUX; the owner's urgent request or blanking window starts. -/
  | auxMatch (c : Course)
  /-- DEAD_TIME_RISE (R356): A delayed H or L rise takes place after its dead time. -/
  | deadTimeRise (h : HB) (high : Bool) (held : Bool)
  /-- COURSE_START (R349): A START bit of PWM_GSTART starts a course at PHASE. -/
  | courseStart (m : Master) (c : Course)
  /-- COURSE_STOP (R348): A STOP bit of PWM_GSTART stops a course at its next boundary. -/
  | courseStop (m : Master) (c : Course)
  /-- TIMED_START (R350): A write with AT = 1 arms a timed start at PWM_GAT.DT. -/
  | timedStart (m : Master) (v : Word)
  /-- TIMED_START_REACHED (R349): DTIME equals PWM_GAT.DT and the pending courses start. -/
  | timedStartReached
  /-- MASK_SET (R364): PWMc_MCMD with SET raises a commutation to index IDX. -/
  | maskSet (m : Master) (c : Course) (idx : BitVec 3)
  /-- MASK_ADVANCE (R364): PWMc_MCMD with ADV raises a commutation to index + 1. -/
  | maskAdvance (m : Master) (c : Course)
  /-- MASK_RETREAT (R364): PWMc_MCMD with RET raises a commutation to index − 1. -/
  | maskRetreat (m : Master) (c : Course)
  /-- COMMUTATION_TAKE_EFFECT (R368): A waiting commutation takes effect by MTAKE and COMc is asserted. -/
  | commutationTakeEffect (c : Course)
  /-- BEMF_CROSSING (R366): A back-EMF comparator crossing arms the BEMF delay or makes a crossing request. -/
  | bemfCrossing (c : Course) (k : Fin 3) (rising : Bool)
  /-- BEMF_DELAY_EXPIRY (R364): CDLY beats after an armed crossing a BEMF commutation is raised. -/
  | bemfDelayExpiry (c : Course)
  /-- SINGLE_SHUNT_SAMPLE (R380): At S1 or S2 of a period the course issues a single-shunt urgent request. -/
  | singleShuntSample (c : Course) (second : Bool)
  /-- GATE_SUPPLY_READY (R389): Both supplies of a domain have stayed above threshold for 3,840 beats and RDY sets. -/
  | gateSupplyReady (d : Dom)
  /-- GATE_SUPPLY_LOCKOUT (R392): A gate supply stays below its falling threshold for 480 beats and the domain locks out. -/
  | gateSupplyLockout (d : Dom) (vgl : Bool)
  /-- GATE_SUPPLY_RECOVERY (R394): A locked-out supply has recovered and, with ARST, the lock-out ends. -/
  | gateSupplyRecovery (d : Dom) (vgl : Bool)
  /-- UVCLR (R394): A write of GDRV_DOMd_CTL.UVCLR ends a latched lock-out once recovered. -/
  | uvclr (m : Master) (d : Dom)
  /-- INTERLOCK_RISE (R396): A rise held by the interlock begins once the opposite gate falls below 2.0 V. -/
  | interlockRise (h : HB) (high : Bool)
  /-- EXTERNAL_PIN_LEVEL (R400): A change of XPh or XEh commands the half-bridge from three beats later. -/
  | externalPinLevel (h : HB) (enable : Bool) (level : Bool)
  /-- SERIAL_GATE_COMMAND (R401): A write of GDRV_SGCc with a new token sets the serial commands of the course. -/
  | serialGateCommand (m : Master) (c : Course) (v : Word)
  /-- SERIAL_GATE_TIMEOUT (R403): No accepted serial write for SGTO µs switches the course's serial half-bridges off. -/
  | serialGateTimeout (c : Course)
  /-- SOURCE_GUARD_END (R404): The off guard after a source change ends and the new source governs. -/
  | sourceGuardEnd (h : HB)
  /-- GATE_FAULT (R407): A gate edge fails its check within GFT beats; the reaction and record follow. -/
  | gateFault (h : HB) (high : Bool) (kind : BitVec 2)
  /-- VDS_TRIP (R417): A VDS monitor's condition lasts the filter length and trips. -/
  | vdsTrip (h : HB) (high : Bool)
  /-- OC_TRIP (R416): A shunt comparator condition lasts the filter length and trips. -/
  | ocTrip (c : Course)
  /-- OV_TRIP (R420): VBAT stays above the OV threshold for the filter length and trips. -/
  | ovTrip
  /-- UV_TRIP (R420): VBAT stays below the UV threshold for the filter length and trips. -/
  | uvTrip
  /-- THERM_TRIP (R421): A die sensor stays above DTH for 2,400 beats and trips THERM. -/
  | thermTrip (k : Dom)
  /-- TSD_TRIP (R422): A die sensor stays above 170 °C for 2,400 beats and every course goes OFF. -/
  | tsdTrip (k : Dom)
  /-- NTC_STALE (R423): No result of an enabled NTC for 100 ms sets NTCSTALE. -/
  | ntcStale (k : Fin 4)
  /-- BLANKING_WINDOW_END (R418): A blanking window from another course closes after AUXLEN beats. -/
  | blankingWindowEnd (c : Course)
  /-- PROTECTION_CLEAR (R432): A write of PROTc_CLR clears latched sources whose condition is absent. -/
  | protectionClear (m : Master) (c : Course) (present : BitVec 13)
  /-- SLOT_ASSIGNMENT (R447): Two beats before each slot the converter assigns it to an urgent, crossing or scan conversion. -/
  | slotAssignment
  /-- CONVERSION_RESULT (R439): A completed conversion's corrected result enters the result queue, or is counted in QDROP. -/
  | conversionResult (raw : BitVec 12)
  /-- SPARE_ROTATION (R440): Every 65,536 beats the next slice becomes the spare. -/
  | spareRotation (ofs : BitVec 10) (gain : BitVec 16) (skew : BitVec 7)
  /-- SCAN_GO (R454): A write of FADC_SCTL.GO starts a scan sequence in SMODE 0b01. -/
  | scanGo (m : Master)
  /-- QPOP (R464): A load of FADC_QPOP takes the oldest entry for the program. -/
  | qpop (m : Master)
  /-- QDCLR (R466): A write of FADC_CTL.QDCLR moves the QDROP count into DROPTOT. -/
  | qdclr (m : Master)
  /-- IC_WINDOW_CLOSE (R476): An integrating unit closes a window and its results enter the queue and result registers. -/
  | icWindowClose (unit : Fin 3) (cnt : BitVec 20) (n : BitVec 19) (short : Bool)
  /-- IC_OVER_RANGE (R474): An IC0 input exceeds full scale; the integrator clamps and CHG_GAP is set. -/
  | icOverRange (qb : Bool)
  /-- COUNTER_LOAD (R485): A write of ICONV_QLOADR or QLOADB loads a charge counter unless it counts. -/
  | counterLoad (m : Master) (qb : Bool) (v : Word)
  /-- IC1_PASS_GO (R479): A write of ICONV_IC1CFG.GO starts one IC1 pass. -/
  | ic1PassGo (m : Master)
  /-- ENGINE_TAKE_ENTRY (R495): A filter engine takes a queue entry as a sample or ignores it. -/
  | engineTakeEntry (n : Engine)
  /-- ENGINE_OUTPUT (R501): An engine's computation ends; the output feeds the detectors and events. -/
  | engineOutput (n : Engine)
  /-- ENGINE_OUTPUT_WRITE (R506): An engine writes an output word to its RAM ring when the port is free. -/
  | engineOutputWrite (n : Engine)
  /-- BANK_LOAD (R504): A write of FEn_BANK.LOAD starts copying coefficients into the inactive bank. -/
  | bankLoad (m : Master) (n : Engine)
  /-- BANK_COPY_END (R504): A coefficient copy ends and the LOAD event is raised. -/
  | bankCopyEnd (n : Engine)
  /-- BANK_SWAP (R505): A write of FEn_BANK.SWAP makes the inactive bank active at the next sample. -/
  | bankSwap (m : Master) (n : Engine)
  /-- HALL_REGISTRATION (R519): A filtered Hall input changes; the state is registered and the count updated. -/
  | hallRegistration (c : Course) (levels : BitVec 3)
  /-- POS_SET (R522): A write of POSc_SET loads the position counter. -/
  | posSet (m : Master) (c : Course) (v : Word)
  /-- POS_ADD (R522): A write of POSc_ADD adds a signed value to the counter. -/
  | posAdd (m : Master) (c : Course) (v : Word)
  /-- CAPTURE_EDGE (R535): A capture source edge is stamped and produces a stamp or interval record. -/
  | captureEdge (n : Fin 16) (partner : Bool) (rising : Bool) (tap : BitVec 5)
  /-- CAPTURE_POP (R537): A load of TCn_POP takes the oldest capture record. -/
  | capturePop (m : Master) (n : Fin 16)
  /-- NTIME_READ (R96): A read of TIME_NTIME latches fraction, state, epoch and uncertainty. -/
  | ntimeRead (m : Master)
  /-- AQ_TAKE_SAMPLE (R552): An acquisition unit takes a sample, records it and evaluates its conditions. -/
  | aqTakeSample (n : Engine)
  /-- AQ_CAPTURE_DONE (R549): The descriptor words are written, SEQ increments and the unit enters DONE or re-arms. -/
  | aqCaptureDone (n : Engine)
  /-- AQ_ARM (R547): A write of AQn_CMD.ARM reads the descriptor and arms the unit. -/
  | aqArm (m : Master) (n : Engine)
  /-- AQ_STOP (R548): A write of AQn_CMD.STOP disarms or truncates the capture. -/
  | aqStop (m : Master) (n : Engine)
  /-- AQ_FORCE (R553): A write of AQn_CMD.FORCE makes the next sample the trigger. -/
  | aqForce (m : Master) (n : Engine)
  /-- GLOBAL_ARM_GO (R559): A write of AQ_GARM.GO on the lead or primary sends a global arm time. -/
  | globalArmGo (m : Master)
  /-- GLOBAL_ARM_RECEIVED (R559): A chip receives a global arm time, arming late if it has passed. -/
  | globalArmReceived (t : Word)
  /-- GLOBAL_ARM_TIME (R559): DTIME equals the global arm time and group units arm. -/
  | globalArmTime
  /-- FIRE_PULSE_END (R560): FIRE has been driven for 240 beats and is released. -/
  | firePulseEnd
  /-- FIRE_MESSAGE (R561): A fire message is received and entered in the fire record. -/
  | fireMessage (p : Chip) (dt : Word)
  /-- FIRE_EDGE (R562): A rising edge of FIRE is detected for FIRE conditions. -/
  | fireEdge
  /-- ARRANGEMENT_CHANGE (R572): At the course's boundary a TAKE or GIVE takes effect and the call completes. -/
  | arrangementChange (c : Course)
  /-- TUNING_STEP_END (R582): A tuning step ends; the next starts or the record is persisted or tuning fails. -/
  | tuningStepEnd (c : Course) (ok : Bool) (v v2 : Word)
  /-- MOTION_END (R580): A motion ends and the supervisor writes its CAUSE and asserts SUPV. -/
  | motionEnd (c : Course) (cause : BitVec 4)
  /-- PINCH_JUDGMENT (R592): The supervisor judges a PFE output for pinch and at PCNT reverses the course. -/
  | pinchJudgment (c : Course) (ma ia : Word)
  /-- STALL_DECISION (R591): The stall condition has held for TSTALL and the motion ends as end stop or stall. -/
  | stallDecision (c : Course)
  /-- STALL_RETRY (R591): 500 ms after a stall the course enters IDLE and may retry. -/
  | stallRetry (c : Course)
  /-- DERATING_UPDATE (R587): Every DERMS milliseconds the derating factor and OCTH are recomputed. -/
  | deratingUpdate (c : Course)
  /-- SENSE_WIRE_CHECK_GO (R608): A write of RSV_OWCFG.GO starts a sense-wire check. -/
  | senseWireCheckGo (m : Master)
  /-- SENSE_WIRE_SETTLE_END (R608): OWSET ms after a test current is switched on, the adjacent cells are converted. -/
  | senseWireSettleEnd
  /-- SHUTDOWN_PARK_END (R612): S2 ends when every course is stopped and ledger persists issued; S3 begins. -/
  | shutdownParkEnd
  /-- SHUTDOWN_PARK_LIMIT (R613): S2MAX expires and remaining courses are forced off. -/
  | shutdownParkLimit
  /-- RESERVE_TIME_EXPIRY (R612): TRSV seconds after S4 began, S4 ends and S5 starts. -/
  | reserveTimeExpiry
  /-- STACK_BELOW_VEND (R612): The stack falls below VEND and S4 ends. -/
  | stackBelowVend
  /-- RESERVE_CONNECT (R614): A write of RSV_SDCTL.CONN connects the stack in S4. -/
  | reserveConnect (m : Master)
  /-- CONNECT_RELEASE (R614): Every reserve course has been stopped 10 ms with CONN 0 and CHGST leaves CONNECT. -/
  | connectRelease
  /-- HOST_SELECT (R623): HSCS_N falls; the status byte is fixed and a wake raised in low power if enabled. -/
  | hostSelect
  /-- NOP (R628): Host command NOP polls the previous frame's result. -/
  | hostNop (tok : BitVec 4) (bs : List (BitVec 8))
  /-- RD (R628): Host command RD reads one word. -/
  | hostRd (tok : BitVec 4) (bs : List (BitVec 8))
  /-- WR (R630): Host command WR writes one word. -/
  | hostWr (tok : BitVec 4) (bs : List (BitVec 8))
  /-- WRT (R631): Host command WRT writes one word unless its token repeats. -/
  | hostWrt (tok : BitVec 4) (bs : List (BitVec 8))
  /-- RDM (R628): Host command RDM reads 1 to 16 words. -/
  | hostRdm (tok : BitVec 4) (bs : List (BitVec 8))
  /-- STW (R632): Host command STW streams words into RAM. -/
  | hostStw (tok : BitVec 4) (bs : List (BitVec 8)) (fin : Option (Fin 6))
  /-- HOST_STREAM_WORD (R632): A stream word's sixth byte arrives and the word is written through the buffer. -/
  | hostStreamWord (v : Word) (fin : Option (Fin 6))
  /-- XIP_WORD_DELIVERED (R648): A fill frame delivers a flash word to its line and waiting strand. -/
  | xipWordDelivered (w : FlashBytes)
  /-- XIP_MISS_TIMEOUT (R650): A miss not delivered within XTO µs faults the strand with XIPERR. -/
  | xipMissTimeout (s : StrandId)
  /-- INV (R650): A write of XSP_CTL.INV invalidates every prefetch line. -/
  | xspInv (m : Master)
  /-- SOFTWARE_FRAME_GO (R651): A write of XSP_SFCTL.GO starts a software flash frame. -/
  | softwareFrameGo (m : Master)
  /-- SOFTWARE_FRAME_END (R654): A software frame ends; SFDONE is set and XSP asserted. -/
  | softwareFrameEnd (data : List (BitVec 8))
  /-- LOCK_REQUEST (R655): A write of XSP_LOCK.REQ requests the bus lock for software. -/
  | lockRequest (m : Master)
  /-- LOCK_GRANT (R655): The XIP frame in progress ends and the lock is granted to software. -/
  | lockGrant
  /-- LOCK_RELEASE (R656): A write of XSP_LOCK.REL returns the lock to XIP. -/
  | lockRelease (m : Master)
  /-- CAN_FRAME_VALID (R673): A CAN frame becomes valid; it is filtered and recorded in a receive ring. -/
  | canFrameValid (f : CanFrame)
  /-- CAN_PROTOCOL_EXCEPTION (R662): A frame with recessive res bit causes a protocol exception. -/
  | canProtocolException
  /-- CAN_TX_END (R668): A transmit buffer's frame ends and its RESULT is written. -/
  | canTxEnd (k : Fin 8) (ok : Bool)
  /-- TXABORT (R668): A write of CAN_TXABORT aborts buffers not being transmitted. -/
  | canTxAbort (m : Master) (mask : BitVec 8)
  /-- CAN_BUS_ERROR (R674): A bus error updates the error counters and state. -/
  | canBusError (lec : BitVec 3) (tx : Bool)
  /-- RECOVER (R674): A write of CAN_CTL.RECOVER starts bus-off recovery. -/
  | canRecover (m : Master)
  /-- BUS_OFF_RECOVERY_END (R674): 128 occurrences of 11 recessive bits end bus-off. -/
  | busOffRecoveryEnd
  /-- CAN_WAKEUP_PATTERN (R677): A dominant, recessive, dominant pattern is detected as wake source 0x6. -/
  | canWakeupPattern
  /-- CAN_SELECTIVE_WAKE_FRAME (R676): A wake frame or 32 errors in selective wake is wake source 0x7. -/
  | canSelectiveWakeFrame (f : Option CanFrame)
  /-- CAN_WAKE_TRANSMIT (R678): A write of CAN_WAKETX.GO sends the wake frames through buffer 7. -/
  | canWakeTransmit (m : Master)
  /-- LIN_FRAME_RECEIVED (R681): A LIN frame ends and is recorded in the LIN ring. -/
  | linFrameReceived (f : LinFrame)
  /-- LIN_BUS_WAKE (R682): A dominant LIN level over 150 µs in low power is wake source 0x8. -/
  | linBusWake
  /-- LIN_WAKE (R682): A write of LIN_CTL.WAKE drives a LIN wake pulse. -/
  | linWake (m : Master)
  /-- RCP_REQUEST (R695): An RCP request is judged by the checks and accepted, answered or rejected. -/
  | rcpRequest (q : RcpRequest)
  /-- TIME_BEACON_SYNC (R710): A SYNC beacon frame latches d and nl at its SOF. -/
  | timeBeaconSync (bn : BitVec 8)
  /-- TIME_BEACON_FOLLOW (R710): A matching FOLLOW completes a beacon sample. -/
  | timeBeaconFollow (bn : BitVec 8) (tm : BitVec 64)
  /-- BEACON_SEND (R711): Every PER milliseconds the time master sends a SYNC beacon. -/
  | beaconSend
  /-- CREDIT_RETURN (R707): A RETURN credit frame increases R up to HOLD. -/
  | creditReturn (src : BitVec 4) (n1 n2 n3 : BitVec 8)
  /-- CREDIT_RESYNC (R704): A RESYNC credit frame anchors the originator's window and settles its credits. -/
  | creditResync (src : BitVec 4) (n : BitVec 16)
  /-- CREDIT_GRANT (R708): Owed grants are sent in one GRANT frame within 1 ms. -/
  | creditGrant (dst : BitVec 4)
  /-- LEDG_STEP (R693): A write of LEDG_STEP records a request's progress. -/
  | ledgStep (m : Master) (v : Word)
  /-- LEDG_END (R693): A write of LEDG_END ends a request DONE or ABORTED. -/
  | ledgEnd (m : Master) (v : Word)
  /-- QUERY (R719): A write of PWR_RVCMD.QUERY on the coordinator starts a rest vote. -/
  | queryRest (m : Master) (tgt : Bool)
  /-- ABORT (R722): A write of PWR_RVCMD.ABORT aborts the rest in the commit interval. -/
  | abortRest (m : Master)
  /-- REST_QUERY (R717): A node receives REST_QUERY and answers READY or BUSY. -/
  | restQuery (src : BitVec 4) (vn : BitVec 8) (tgt : Bool)
  /-- READY (R719): The coordinator receives READY and commits when every node has answered. -/
  | readyMsg (src : BitVec 4) (vn : BitVec 8)
  /-- BUSY (R719): The coordinator receives BUSY and cancels the vote. -/
  | busyMsg (src : BitVec 4) (vn : BitVec 8)
  /-- REST_COMMIT (R720): A voted node receives REST_COMMIT and enters DOZE and the commit interval. -/
  | restCommit (src : BitVec 4) (vn : BitVec 8) (tgt : Bool) (ci : BitVec 16) (sof : Word)
  /-- REST_CANCEL (R718): A voted node receives REST_CANCEL and returns to IDLE. -/
  | restCancel (src : BitVec 4) (vn : BitVec 8)
  /-- WAKE_ABORT (R721): A WAKE_ABORT of the node's vote aborts the rest or wakes the node. -/
  | wakeAbort (src : BitVec 4) (vn : BitVec 8) (cause : BitVec 4)
  /-- WAKE (R721): A WAKE control frame acts as a network wake frame. -/
  | wakeFrame (src : BitVec 4) (code : BitVec 8)
  /-- VOTE_TIMEOUT (R718): No decision within TVOTE returns a voted node to IDLE. -/
  | voteTimeout
  /-- ANSWER_TIMEOUT (R719): TANS passes without a decision and the coordinator cancels. -/
  | answerTimeout
  /-- COMMIT_INTERVAL_END (R720): The commit interval ends and HOLD begins. -/
  | commitIntervalEnd
  /-- HOLD_END (R723): HOLD ends and the node requests the target state or stays awake. -/
  | holdEnd
  /-- LATE_WAKE_REPEAT (R724): At T_late the wake transmission is performed once more. -/
  | lateWakeRepeat
  /-- JOURNAL_WINDOW_END (R739): A journal window ends and the primary sends its frame. -/
  | journalWindowEnd (late : Bool)
  /-- JOURNAL_FRAME (R739): The shadow receives a journal frame and replays its items. -/
  | journalFrame (f : TwinFrame)
  /-- NAK (R739): The primary receives a NAK and retransmits from the named frame. -/
  | twinNak (n : BitVec 16)
  /-- STATUS_FRAME (R739): The primary receives a shadow status frame with ASEQ. -/
  | statusFrame (aseq : BitVec 16) (div : Bool)
  /-- FRAME_MISSING (R740): A journal frame is not received by its deadline; three in a row are a heartbeat loss. -/
  | frameMissing
  /-- STATUS_LOSS (R742): No status frame for three windows and the primary enters SOLO. -/
  | statusLoss
  /-- CHECKPOINT (R746): At a checkpoint the digest is journaled or compared and reset. -/
  | twinCheckpoint (b : Word)
  /-- TWFAIL_RISE (R749): TWFAIL high for 48 beats triggers the shadow's claim rules. -/
  | twfailRise
  /-- HANDOVER (R751): A write of PEER_TWCMD.HANDOVER fixes the release beat H. -/
  | twinHandover (m : Master)
  /-- HANDOVER_RELEASE (R751): At H the primary releases its outputs and places HANDOVER. -/
  | handoverRelease
  /-- CLAIM (R752): The shadow claims at beat P and enters SOLO with guarded gates. -/
  | twinClaim
  /-- PAIR_START (R757): After image acceptance a twin chip runs training, alignment, memory and register steps. -/
  | pairStart (x : PairData)
  /-- PAIR_START_TIMEOUT (R758): The pair start has not ended within PAIRTO and each chip enters SOLO or UNSYNC. -/
  | pairStartTimeout
  /-- RESUME_TIMEOUT (R762): No RESUME within PAIRTO with TWFAIL high and the shadow claims. -/
  | resumeTimeout
  /-- CASCADE_START (R765): After image acceptance a cascade chip trains, aligns and reports in the census. -/
  | cascadeStart (pres : BitVec 4) (aligned : BitVec 4)
  /-- CHAIN_TIMEOUT (R766): The cascade start has not ended within CHAINTO and each chip starts anyway. -/
  | chainTimeout
  /-- REMOTE_ACCESS_SERVE (R769): A target chip serves a remote access as a user-strand access. -/
  | remoteAccessServe (p : RemoteReq) (a : BitVec 24) (w : Option Word)
  /-- LINK_FRAME_CRC_ERROR (R768): A link frame with a bad CRC is discarded and NAKed for one retransmission. -/
  | linkFrameCrcError (portB : Bool)
  /-- PORT_DOWN (R775): A port receives no valid symbol for 240 beats and goes down. -/
  | portDown (portB : Bool)
  /-- LOSS_REPORT (R776): The lead receives a loss report and marks positions lost. -/
  | lossReport (p : Chip)
  /-- REALIGN (R778): A write of PEER_CSCMD.REALIGN on the lead reruns C1 to C3. -/
  | cascadeRealign (m : Master)
  /-- RSVCGO (R773): A store of PEER_RSVCGO from the lead passes a call to the follower's supervisor. -/
  | rsvcgo (m : Master) (v : Word)
  /-- REMOTE_CALL_COMPLETE (R774): A remote supervisor call completes and its result is posted. -/
  | remoteCallComplete
  /-- TAP_RESET (R782): TRST_N low or five TMS-high clocks reset the TAP controller. -/
  | tapReset
  /-- EXTEST (R785): Boundary cells drive the pins and a machine halt is in force. -/
  | tapExtest
  /-- SAMPLE_PRELOAD (R783): Samples the pins and loads the boundary cells. -/
  | tapSamplePreload (pins : BitVec 450)
  /-- IDCODE (R783): Captures the 32-bit identification code. -/
  | tapIdcode
  /-- CLAMP (R785): Pins hold the boundary values and a machine halt is in force. -/
  | tapClamp
  /-- HIGHZ (R785): Every output is high-impedance and a machine halt is in force. -/
  | tapHighz
  /-- BYPASS (R783): Selects the one-bit bypass register. -/
  | tapBypass
  /-- UNLOCK (R788): Compares a 64-bit value with the unlock code and opens debug access on a match. -/
  | tapUnlock (code : BitVec 64)
  /-- DEBUG_POLL (R786): DBGACC op poll returns the result of the last access. -/
  | debugPoll
  /-- DEBUG_READ (R787): DBGACC op read reads a word through the debug port. -/
  | debugRead (a : BitVec 24)
  /-- DEBUG_WRITE (R787): DBGACC op write writes a word through the debug port. -/
  | debugWrite (a : BitVec 24) (v : Word)
  /-- MHALT (R790): A write of DBG_CTL.MHALT starts a machine halt. -/
  | mhalt (m : Master)
  /-- DBG_RESUME (R790): A write of DBG_CTL.RESUME ends the machine halt. -/
  | dbgResume (m : Master)
  /-- STEP (R792): A write of DBG_CTL.STEP lets a halted strand issue one instruction. -/
  | stepStrand (m : Master) (s : StrandId)
  /-- STRAND_HALT (R789): A write of DBG_SHALT0 or DBG_SHALT1 halts or releases strands. -/
  | strandHalt (m : Master) (hi : Bool) (v : Word)
  /-- DBG_RDATA_WRITE (R793): A write of DBG_RDATA changes the selected register of a halted strand. -/
  | dbgRdataWrite (m : Master) (v : Word)
  /-- TRACE_POP (R795): A read of DBG_TRPOP takes the oldest trace entry. -/
  | tracePop (m : Master)
  /-- REGULATORS_VALID (R855): VREG5, VIO and VCORE become valid after POR, a wake from REST or the VCORE return of X1, and strap sampling and
  the oscillator start proceed. -/
  | regulatorsValid (s1 s2 s3 : BitVec 8)
  /-- PLL_LOCK_REGAINED (R731): A twin shadow that fell back to its crystal relocks its PLL, sets PLL_LOCK and may again begin CAN and LIN
  transmissions. -/
  | pllLockRegained
  /-- CONNECT_DELAY_EXPIRY (R617): 4 ms after CONNECT last ended in S4, VBATUV is tested again and a reading of 0 enters the SRR hold. -/
  | connectDelayExpiry
  /-- CAN_TRANSMISSION_START (R667): A pending transmit buffer's frame enters arbitration at its SOF, fixing its SOF stamp and making it no
  longer abortable. -/
  | canTransmissionStart (k : Fin 8)
  /-- LIN_HEADER_RECEIVED (R680): A LIN slave receives a break, sync and identifier and sends the placed response, or subscribes, for that ID. -/
  | linHeaderReceived (id : BitVec 6)
  /-- PORT_TRAINED (R781): A peer-link port gains symbol alignment, LINKA or LINKB sets, and the lead runs C1 to C3 once every present follower
  has trained. -/
  | portTrained (portB : Bool)
  /-- CASCADE_NAK (R768): A chip receives a NAK from its neighbour and retransmits the named link frame once. -/
  | cascadeNak (portB : Bool)
  /-- AQ_RECORD_WRITE (R557): An acquisition unit writes a waiting record or descriptor word to RAM in a free beat of the RAM port. -/
  | aqRecordWrite (n : Engine)
  /-- GPIO_INPUT_CHANGE (R738): A GPIO input level changes, updates GPIO_IN and is journaled as a COND item on a twin primary. -/
  | gpioInputChange (n : Fin 48) (level : Bool)
  /-- CBC_CONDITION_ABSENT (R429): The condition of a CBC trip becomes absent and half-bridges not on the internal source are released from
  their hold. -/
  | cbcConditionAbsent (c : Course)
  /-- ILLEGAL_INSTRUCTION (R251): A strand issues a word whose OP, FN or XFN is unassigned and faults with cause ILL. -/
  | illegalInstruction (s : StrandId) (w : Word)
  /-- FETCH_FAULT (R318): A strand's fetch at its PC faults with ADDR, PROT, MEMERR or XIPERR before anything issues. -/
  | fetchFault (s : StrandId) (cause : BitVec 3)
  deriving DecidableEq, Repr

end Sys2Proof
end

