-- ==== Sys2Proof/Decode.lean ====
section
/-!
DEFINITION. Decode.lean: the command that a word of the opcode table spells (the rows of spec/opcode_table.json give no bits, so no
word does), and the encoding of Ibben-48: the words of its instructions, their decoder and their encoder (R249, R250, spec/08, spec/09).
-/
namespace Sys2Proof

/-- The rows of the table give no bits: no word spells a command. -/
def decodeTableWord (_nbits _w : Nat) : Option Instr := none

/-! ## The fields of the formats (R249) -/

/-- OP, bits 47:42. -/
def opOf (w : Word) : Nat := (w.extractLsb' 42 6).toNat
/-- FN of format A, bits 26:16. -/
def fnOf (w : Word) : BitVec 11 := w.extractLsb' 16 11
/-- XFN of format X, bits 26:21. -/
def xfnOf (w : Word) : Nat := (w.extractLsb' 21 6).toNat
/-- The fields of format A. -/
def FmtA.ofWord (w : Word) : FmtA :=
  { rd := w.extractLsb' 37 5, ra := w.extractLsb' 32 5, rb := w.extractLsb' 27 5, f := w.getLsbD 15, s := w.getLsbD 14
    u := w.getLsbD 13, ac := w.getLsbD 12, am := w.extractLsb' 10 2, imm := w.extractLsb' 0 10 }
/-- The fields of format I. -/
def FmtI.ofWord (w : Word) : FmtI :=
  { rd := w.extractLsb' 37 5, ra := w.extractLsb' 32 5, f := w.getLsbD 31, s := w.getLsbD 30, u := w.getLsbD 29, imm := w.extractLsb' 0 29 }
/-- The fields of format M. -/
def FmtM.ofWord (w : Word) : FmtM :=
  { rt := w.extractLsb' 37 5, ra := w.extractLsb' 32 5, mode := w.extractLsb' 29 3, ri := w.extractLsb' 24 5, disp := w.extractLsb' 0 24 }
/-- The fields of format B. -/
def FmtB.ofWord (w : Word) : FmtB :=
  { cond := w.extractLsb' 38 4, rl := w.extractLsb' 33 5, rsv := w.extractLsb' 24 9, off := w.extractLsb' 0 24 }
/-- The fields of format K. -/
def FmtK.ofWord (w : Word) : FmtK :=
  { rd := w.extractLsb' 37 5, p := w.extractLsb' 35 2, rsv := w.extractLsb' 24 11, imm := w.extractLsb' 0 24 }
/-- The fields of format X. -/
def FmtX.ofWord (w : Word) : FmtX :=
  { rd := w.extractLsb' 37 5, ra := w.extractLsb' 32 5, rb := w.extractLsb' 27 5, rsv := w.extractLsb' 16 5, imm := w.extractLsb' 0 16 }

/-- The word of format A. -/
def FmtA.word (op : BitVec 6) (fn : BitVec 11) (x : FmtA) : Word :=
  op ++ x.rd ++ x.ra ++ x.rb ++ fn ++ BitVec.ofBool x.f ++ BitVec.ofBool x.s ++ BitVec.ofBool x.u ++ BitVec.ofBool x.ac ++ x.am ++ x.imm
/-- The word of format I. -/
def FmtI.word (op : BitVec 6) (x : FmtI) : Word :=
  op ++ x.rd ++ x.ra ++ BitVec.ofBool x.f ++ BitVec.ofBool x.s ++ BitVec.ofBool x.u ++ x.imm
/-- The word of format M. -/
def FmtM.word (op : BitVec 6) (x : FmtM) : Word := op ++ x.rt ++ x.ra ++ x.mode ++ x.ri ++ x.disp
/-- The word of format B. -/
def FmtB.word (op : BitVec 6) (x : FmtB) : Word := op ++ x.cond ++ x.rl ++ x.rsv ++ x.off
/-- The word of format K. -/
def FmtK.word (op : BitVec 6) (x : FmtK) : Word := op ++ x.rd ++ x.p ++ x.rsv ++ x.imm
/-- The word of format X. -/
def FmtX.word (op xfn : BitVec 6) (x : FmtX) : Word := op ++ x.rd ++ x.ra ++ x.rb ++ xfn ++ x.rsv ++ x.imm

/-! ## The decoder -/

/-- The integer arithmetic, OP 0x01 (R264). -/
def decode01 (i : StrandId) (w : Word) : Option Instr :=
  match (fnOf w).toNat with
  | 0x000 => some (.add i (.ofWord w))
  | 0x001 => some (.sub i (.ofWord w))
  | 0x002 => some (.adc i (.ofWord w))
  | 0x003 => some (.sbc i (.ofWord w))
  | 0x004 => some (.neg i (.ofWord w))
  | 0x005 => some (.abs i (.ofWord w))
  | 0x006 => some (.min i (.ofWord w))
  | 0x007 => some (.max i (.ofWord w))
  | _ => none

/-- The logical, OP 0x02 (R267). -/
def decode02 (i : StrandId) (w : Word) : Option Instr :=
  match (fnOf w).toNat with
  | 0x000 => some (.and i (.ofWord w))
  | 0x001 => some (.or i (.ofWord w))
  | 0x002 => some (.xor i (.ofWord w))
  | 0x003 => some (.andn i (.ofWord w))
  | 0x004 => some (.orn i (.ofWord w))
  | 0x005 => some (.xnor i (.ofWord w))
  | _ => none

/-- The shifts, OP 0x03 (R268). -/
def decode03 (i : StrandId) (w : Word) : Option Instr :=
  match (fnOf w).toNat with
  | 0x000 => some (.shl i (.ofWord w))
  | 0x001 => some (.shr i (.ofWord w))
  | 0x002 => some (.asr i (.ofWord w))
  | 0x003 => some (.ror i (.ofWord w))
  | 0x004 => some (.asrr i (.ofWord w))
  | _ => none

/-- The bit fields, OP 0x04, with LEN in FN 10:5 (R270). -/
def decode04 (i : StrandId) (w : Word) : Option Instr :=
  let len : BitVec 6 := (fnOf w).extractLsb' 5 6
  match ((fnOf w).extractLsb' 0 5).toNat with
  | 0x00 => some (.extu i len (.ofWord w))
  | 0x01 => some (.exts i len (.ofWord w))
  | 0x02 => some (.ins i len (.ofWord w))
  | 0x03 => some (.clz i len (.ofWord w))
  | 0x04 => some (.ctz i len (.ofWord w))
  | 0x05 => some (.popc i len (.ofWord w))
  | 0x06 => some (.brev i len (.ofWord w))
  | _ => none

/-- The multiply to a word, OP 0x10 (R272). -/
def decode10 (i : StrandId) (w : Word) : Option Instr :=
  match (fnOf w).toNat with
  | 0x000 => some (.mul i (.ofWord w))
  | 0x001 => some (.mulh i (.ofWord w))
  | _ => none

/-- The accumulators, OP 0x11 (R273). -/
def decode11 (i : StrandId) (w : Word) : Option Instr :=
  match (fnOf w).toNat with
  | 0x000 => some (.mula i (.ofWord w))
  | 0x001 => some (.mac i (.ofWord w))
  | 0x002 => some (.msu i (.ofWord w))
  | 0x003 => some (.clra i (.ofWord w))
  | _ => none

/-- The accumulators and words, OP 0x12 (R274). -/
def decode12 (i : StrandId) (w : Word) : Option Instr :=
  match (fnOf w).toNat with
  | 0x000 => some (.narw i (.ofWord w))
  | 0x001 => some (.mfah i (.ofWord w))
  | 0x002 => some (.mfal i (.ofWord w))
  | 0x003 => some (.mta i (.ofWord w))
  | _ => none

/-- The conversions, OP 0x13 (R275). -/
def decode13 (i : StrandId) (w : Word) : Option Instr :=
  match (fnOf w).toNat with
  | 0x000 => some (.cvq24 i (.ofWord w))
  | 0x001 => some (.cvq47 i (.ofWord w))
  | 0x002 => some (.cvi24 i (.ofWord w))
  | 0x003 => some (.cv24i i (.ofWord w))
  | _ => none

/-- The indirect branch, OP 0x21 (R281). -/
def decode21 (i : StrandId) (w : Word) : Option Instr :=
  match (fnOf w).toNat with
  | 0x000 => some (.br i (.ofWord w))
  | _ => none

/-- The compares, selects and status, OP 0x24 (R282). -/
def decode24 (i : StrandId) (w : Word) : Option Instr :=
  match (fnOf w).toNat with
  | 0x000 => some (.cmp i (.ofWord w))
  | 0x001 => some (.cmn i (.ofWord w))
  | 0x002 => some (.tst i (.ofWord w))
  | 0x003 => some (.sel i (.ofWord w))
  | 0x004 => some (.setc i (.ofWord w))
  | 0x010 => some (.mfst i (.ofWord w))
  | 0x011 => some (.mtst i (.ofWord w))
  | 0x012 => some (.stclr i (.ofWord w))
  | 0x013 => some (.stset i (.ofWord w))
  | _ => none

/-- The division and square root, OP 0x28 (R292). -/
def decode28 (i : StrandId) (w : Word) : Option Instr :=
  match xfnOf w with
  | 0x00 => some (.divs i (.ofWord w))
  | 0x01 => some (.divu i (.ofWord w))
  | 0x02 => some (.rems i (.ofWord w))
  | 0x03 => some (.remu i (.ofWord w))
  | 0x04 => some (.divq24 i (.ofWord w))
  | 0x05 => some (.divq47 i (.ofWord w))
  | 0x08 => some (.isqrt i (.ofWord w))
  | 0x09 => some (.sqrtq24 i (.ofWord w))
  | 0x0A => some (.sqrtq47 i (.ofWord w))
  | _ => none

/-- The rotation, OP 0x29 (R294). -/
def decode29 (i : StrandId) (w : Word) : Option Instr :=
  match xfnOf w with
  | 0x00 => some (.sincos i (.ofWord w))
  | 0x01 => some (.polar i (.ofWord w))
  | 0x02 => some (.rotv i (.ofWord w))
  | _ => none

/-- The RAM atomics, OP 0x2A (R296). -/
def decode2A (i : StrandId) (w : Word) : Option Instr :=
  match xfnOf w with
  | 0x00 => some (.amswap i (.ofWord w))
  | 0x01 => some (.amadd i (.ofWord w))
  | 0x02 => some (.amand i (.ofWord w))
  | 0x03 => some (.amor i (.ofWord w))
  | 0x04 => some (.amxor i (.ofWord w))
  | 0x05 => some (.amcas i (.ofWord w))
  | _ => none

/-- The persist, OP 0x2B (R298). -/
def decode2B (i : StrandId) (w : Word) : Option Instr :=
  match xfnOf w with
  | 0x00 => some (.persist i (.ofWord w))
  | _ => none

/-- The remote access, OP 0x2C (R304). -/
def decode2C (i : StrandId) (w : Word) : Option Instr :=
  match xfnOf w with
  | 0x00 => some (.rld i (.ofWord w))
  | 0x01 => some (.rst i (.ofWord w))
  | _ => none

/-- The network send, OP 0x2D (R307). -/
def decode2D (i : StrandId) (w : Word) : Option Instr :=
  match xfnOf w with
  | 0x00 => some (.nsend i (.ofWord w))
  | _ => none

/-- The events, OP 0x2E (R310). -/
def decode2E (i : StrandId) (w : Word) : Option Instr :=
  match xfnOf w with
  | 0x00 => some (.sig i (.ofWord w))
  | 0x01 => some (.wait i (.ofWord w))
  | 0x02 => some (.wmon i (.ofWord w))
  | 0x03 => some (.wmoff i (.ofWord w))
  | 0x04 => some (.sync i (.ofWord w))
  | _ => none

/-- The strands and time, OP 0x2F (R313). -/
def decode2F (i : StrandId) (w : Word) : Option Instr :=
  match xfnOf w with
  | 0x00 => some (.spawn i (.ofWord w))
  | 0x01 => some (.endStrand i (.ofWord w))
  | 0x02 => some (.park i (.ofWord w))
  | 0x03 => some (.resume i (.ofWord w))
  | 0x04 => some (.free i (.ofWord w))
  | 0x05 => some (.setcls i (.ofWord w))
  | 0x06 => some (.self i (.ofWord w))
  | 0x07 => some (.rdt i (.ofWord w))
  | _ => none

/-- The supervisor call of a service, OP 0x30 (R315), by IMM16; present is the operand of CLEAR that comes from outside the word. A
word whose IMM16 is no assigned service spells a TAKE with that IMM16, which R315 refuses or R251 faults. Log entry 13, DEDUCED. -/
def decode30 (i : StrandId) (present : BitVec 13) (w : Word) : Option Instr :=
  let x := FmtX.ofWord w
  if xfnOf w ≠ 0 then none
  else match x.imm.toNat with
  | 0x002 => some (.giveCourse i x)
  | 0x003 => some (.queryState i x)
  | 0x010 => some (.tuneMotor i x)
  | 0x011 => some (.moveTo i x)
  | 0x012 => some (.moveVel i x)
  | 0x013 => some (.stopMotion i x)
  | 0x014 => some (.holdCapo i x)
  | 0x015 => some (.releaseHold i x)
  | 0x016 => some (.profclr i x)
  | 0x017 => some (.limitCurrent i x)
  | 0x018 => some (.clearFault i x present)
  | 0x020 => some (.parget i x)
  | 0x021 => some (.parset i x)
  | 0x022 => some (.mrecget i x)
  | 0x023 => some (.polreload i x)
  | _ => some (.takeCourse i x)

/-- The instruction that a strand's word spells (R250); none where OP, FN or XFN is not assigned (R251, R317). Log entry 3, DESIGN CHOICE. -/
def decodeIbben (i : StrandId) (present : BitVec 13) (w : Word) : Option Instr :=
  match opOf w with
  | 0x01 => decode01 i w
  | 0x02 => decode02 i w
  | 0x03 => decode03 i w
  | 0x04 => decode04 i w
  | 0x08 => some (.addi i (.ofWord w))
  | 0x09 => some (.subi i (.ofWord w))
  | 0x0A => some (.andi i (.ofWord w))
  | 0x0B => some (.ori i (.ofWord w))
  | 0x0C => some (.xori i (.ofWord w))
  | 0x0D => some (.shi i (.ofWord w))
  | 0x0E => some (.rsbi i (.ofWord w))
  | 0x10 => decode10 i w
  | 0x11 => decode11 i w
  | 0x12 => decode12 i w
  | 0x13 => decode13 i w
  | 0x14 => some (.li i (.ofWord w))
  | 0x15 => some (.lipc i (.ofWord w))
  | 0x18 => some (.ld i (.ofWord w))
  | 0x19 => some (.st i (.ofWord w))
  | 0x1A => some (.lea i (.ofWord w))
  | 0x20 => some (.b i (.ofWord w))
  | 0x21 => decode21 i w
  | 0x24 => decode24 i w
  | 0x28 => decode28 i w
  | 0x29 => decode29 i w
  | 0x2A => decode2A i w
  | 0x2B => decode2B i w
  | 0x2C => decode2C i w
  | 0x2D => decode2D i w
  | 0x2E => decode2E i w
  | 0x2F => decode2F i w
  | 0x30 => decode30 i present w
  | _ => none

/-! ## The encoder -/

/-- The strand and the word of a command that is an Ibben-48 instruction. -/
def encodeIbben : Instr → Option (StrandId × Word)
  | .add i x => some (i, x.word 0x01 0x000)
  | .sub i x => some (i, x.word 0x01 0x001)
  | .adc i x => some (i, x.word 0x01 0x002)
  | .sbc i x => some (i, x.word 0x01 0x003)
  | .neg i x => some (i, x.word 0x01 0x004)
  | .abs i x => some (i, x.word 0x01 0x005)
  | .min i x => some (i, x.word 0x01 0x006)
  | .max i x => some (i, x.word 0x01 0x007)
  | .and i x => some (i, x.word 0x02 0x000)
  | .or i x => some (i, x.word 0x02 0x001)
  | .xor i x => some (i, x.word 0x02 0x002)
  | .andn i x => some (i, x.word 0x02 0x003)
  | .orn i x => some (i, x.word 0x02 0x004)
  | .xnor i x => some (i, x.word 0x02 0x005)
  | .shl i x => some (i, x.word 0x03 0x000)
  | .shr i x => some (i, x.word 0x03 0x001)
  | .asr i x => some (i, x.word 0x03 0x002)
  | .ror i x => some (i, x.word 0x03 0x003)
  | .asrr i x => some (i, x.word 0x03 0x004)
  | .extu i len x => some (i, x.word 0x04 (len ++ (0x00 : BitVec 5)))
  | .exts i len x => some (i, x.word 0x04 (len ++ (0x01 : BitVec 5)))
  | .ins i len x => some (i, x.word 0x04 (len ++ (0x02 : BitVec 5)))
  | .clz i len x => some (i, x.word 0x04 (len ++ (0x03 : BitVec 5)))
  | .ctz i len x => some (i, x.word 0x04 (len ++ (0x04 : BitVec 5)))
  | .popc i len x => some (i, x.word 0x04 (len ++ (0x05 : BitVec 5)))
  | .brev i len x => some (i, x.word 0x04 (len ++ (0x06 : BitVec 5)))
  | .mul i x => some (i, x.word 0x10 0x000)
  | .mulh i x => some (i, x.word 0x10 0x001)
  | .mula i x => some (i, x.word 0x11 0x000)
  | .mac i x => some (i, x.word 0x11 0x001)
  | .msu i x => some (i, x.word 0x11 0x002)
  | .clra i x => some (i, x.word 0x11 0x003)
  | .narw i x => some (i, x.word 0x12 0x000)
  | .mfah i x => some (i, x.word 0x12 0x001)
  | .mfal i x => some (i, x.word 0x12 0x002)
  | .mta i x => some (i, x.word 0x12 0x003)
  | .cvq24 i x => some (i, x.word 0x13 0x000)
  | .cvq47 i x => some (i, x.word 0x13 0x001)
  | .cvi24 i x => some (i, x.word 0x13 0x002)
  | .cv24i i x => some (i, x.word 0x13 0x003)
  | .br i x => some (i, x.word 0x21 0x000)
  | .cmp i x => some (i, x.word 0x24 0x000)
  | .cmn i x => some (i, x.word 0x24 0x001)
  | .tst i x => some (i, x.word 0x24 0x002)
  | .sel i x => some (i, x.word 0x24 0x003)
  | .setc i x => some (i, x.word 0x24 0x004)
  | .mfst i x => some (i, x.word 0x24 0x010)
  | .mtst i x => some (i, x.word 0x24 0x011)
  | .stclr i x => some (i, x.word 0x24 0x012)
  | .stset i x => some (i, x.word 0x24 0x013)
  | .addi i x => some (i, x.word 0x08)
  | .subi i x => some (i, x.word 0x09)
  | .andi i x => some (i, x.word 0x0A)
  | .ori i x => some (i, x.word 0x0B)
  | .xori i x => some (i, x.word 0x0C)
  | .shi i x => some (i, x.word 0x0D)
  | .rsbi i x => some (i, x.word 0x0E)
  | .li i x => some (i, x.word 0x14)
  | .lipc i x => some (i, x.word 0x15)
  | .ld i x => some (i, x.word 0x18)
  | .st i x => some (i, x.word 0x19)
  | .lea i x => some (i, x.word 0x1A)
  | .b i x => some (i, x.word 0x20)
  | .divs i x => some (i, x.word 0x28 0x00)
  | .divu i x => some (i, x.word 0x28 0x01)
  | .rems i x => some (i, x.word 0x28 0x02)
  | .remu i x => some (i, x.word 0x28 0x03)
  | .divq24 i x => some (i, x.word 0x28 0x04)
  | .divq47 i x => some (i, x.word 0x28 0x05)
  | .isqrt i x => some (i, x.word 0x28 0x08)
  | .sqrtq24 i x => some (i, x.word 0x28 0x09)
  | .sqrtq47 i x => some (i, x.word 0x28 0x0A)
  | .sincos i x => some (i, x.word 0x29 0x00)
  | .polar i x => some (i, x.word 0x29 0x01)
  | .rotv i x => some (i, x.word 0x29 0x02)
  | .amswap i x => some (i, x.word 0x2A 0x00)
  | .amadd i x => some (i, x.word 0x2A 0x01)
  | .amand i x => some (i, x.word 0x2A 0x02)
  | .amor i x => some (i, x.word 0x2A 0x03)
  | .amxor i x => some (i, x.word 0x2A 0x04)
  | .amcas i x => some (i, x.word 0x2A 0x05)
  | .persist i x => some (i, x.word 0x2B 0x00)
  | .rld i x => some (i, x.word 0x2C 0x00)
  | .rst i x => some (i, x.word 0x2C 0x01)
  | .nsend i x => some (i, x.word 0x2D 0x00)
  | .sig i x => some (i, x.word 0x2E 0x00)
  | .wait i x => some (i, x.word 0x2E 0x01)
  | .wmon i x => some (i, x.word 0x2E 0x02)
  | .wmoff i x => some (i, x.word 0x2E 0x03)
  | .sync i x => some (i, x.word 0x2E 0x04)
  | .spawn i x => some (i, x.word 0x2F 0x00)
  | .endStrand i x => some (i, x.word 0x2F 0x01)
  | .park i x => some (i, x.word 0x2F 0x02)
  | .resume i x => some (i, x.word 0x2F 0x03)
  | .free i x => some (i, x.word 0x2F 0x04)
  | .setcls i x => some (i, x.word 0x2F 0x05)
  | .self i x => some (i, x.word 0x2F 0x06)
  | .rdt i x => some (i, x.word 0x2F 0x07)
  | .takeCourse i x => some (i, x.word 0x30 0)
  | .giveCourse i x => some (i, x.word 0x30 0)
  | .queryState i x => some (i, x.word 0x30 0)
  | .tuneMotor i x => some (i, x.word 0x30 0)
  | .moveTo i x => some (i, x.word 0x30 0)
  | .moveVel i x => some (i, x.word 0x30 0)
  | .stopMotion i x => some (i, x.word 0x30 0)
  | .holdCapo i x => some (i, x.word 0x30 0)
  | .releaseHold i x => some (i, x.word 0x30 0)
  | .profclr i x => some (i, x.word 0x30 0)
  | .limitCurrent i x => some (i, x.word 0x30 0)
  | .clearFault i x _ => some (i, x.word 0x30 0)
  | .parget i x => some (i, x.word 0x30 0)
  | .parset i x => some (i, x.word 0x30 0)
  | .mrecget i x => some (i, x.word 0x30 0)
  | .polreload i x => some (i, x.word 0x30 0)
  | _ => none

/-- The service number of a supervisor call's row (spec/20). -/
def Instr.service : Instr → Option (BitVec 16 × FmtX)
  | .takeCourse _ x => some (0x001, x)
  | .giveCourse _ x => some (0x002, x)
  | .queryState _ x => some (0x003, x)
  | .tuneMotor _ x => some (0x010, x)
  | .moveTo _ x => some (0x011, x)
  | .moveVel _ x => some (0x012, x)
  | .stopMotion _ x => some (0x013, x)
  | .holdCapo _ x => some (0x014, x)
  | .releaseHold _ x => some (0x015, x)
  | .profclr _ x => some (0x016, x)
  | .limitCurrent _ x => some (0x017, x)
  | .clearFault _ x _ => some (0x018, x)
  | .parget _ x => some (0x020, x)
  | .parset _ x => some (0x021, x)
  | .mrecget _ x => some (0x022, x)
  | .polreload _ x => some (0x023, x)
  | _ => none

/-- The registers that a word names as a source or a destination (R231), by its format; a field that its entry leaves unused names w0
in every word that does not fault. -/
def wordRegs (w : Word) : List (BitVec 5) :=
  let op := opOf w
  let rd : BitVec 5 := w.extractLsb' 37 5
  let ra : BitVec 5 := w.extractLsb' 32 5
  let rb : BitVec 5 := w.extractLsb' 27 5
  if op < 0x08 ∨ (0x10 ≤ op ∧ op < 0x14) ∨ op = 0x21 ∨ op = 0x24 then [rd, ra, rb]
  else if op < 0x10 then [rd, ra]
  else if op < 0x18 then [rd]
  else if op < 0x20 then [rd, ra, w.extractLsb' 24 5]
  else if op = 0x20 then [w.extractLsb' 33 5]
  else if op = 0x29 ∨ (op = 0x2C ∧ xfnOf w = 0) then [rd, rd + 1, ra, rb]
  else [rd, ra, rb]

end Sys2Proof
end

