-- ==== Sys2Proof/Machine/Cmac.lean ====
section
/-!
DEFINITION. Machine/Cmac.lean: the CMAC of an image (R150) by NIST SP 800-38B over AES-128, the standard that R25 names. A block is
a list of 16 bytes, each below 256, in the order of the message.
-/
namespace Sys2Proof.Machine

/-! ## The field of AES -/

/-- Multiplication by x modulo x^8 + x^4 + x^3 + x + 1. -/
def aesTwice (a : Nat) : Nat := if a < 128 then 2 * a else (2 * a) ^^^ 0x11B

/-- The product of two bytes, over n bits of the second. -/
def aesMul : Nat → Nat → Nat → Nat
  | 0, _, _ => 0
  | n + 1, a, b => (if b % 2 = 1 then a else 0) ^^^ aesMul n (aesTwice a) (b / 2)

/-- The inverse of a byte as its 254th power, 0 for 0. -/
def aesInv (a : Nat) : Nat :=
  let sq (x : Nat) : Nat := aesMul 8 x x
  let a2 := sq a
  let a3 := aesMul 8 a2 a
  let a12 := sq (sq a3)
  let a15 := aesMul 8 a12 a3
  let a240 := sq (sq (sq (sq a15)))
  aesMul 8 (aesMul 8 a240 a12) a2

/-- Rotate a byte left. -/
def rotByte (a k : Nat) : Nat := (a <<< k) % 256 ||| (a >>> (8 - k))

/-- The substitution of a byte. -/
def aesSub (a : Nat) : Nat :=
  let v := aesInv a
  v ^^^ rotByte v 1 ^^^ rotByte v 2 ^^^ rotByte v 3 ^^^ rotByte v 4 ^^^ 0x63

/-! ## The cipher -/

/-- The bytes of two lists added. -/
def xorBytes (a b : List Nat) : List Nat := List.zipWith (· ^^^ ·) a b

/-- Every row r of the state moves left by r columns; the state is held column by column. -/
def aesShiftRows (b : List Nat) : List Nat := (List.range 16).map (fun i => b.getD ((i + 4 * (i % 4)) % 16) 0)

/-- Every column is multiplied by the matrix of the cipher. -/
def aesMixColumns (b : List Nat) : List Nat :=
  (List.range 16).map (fun i =>
    let x (k : Nat) : Nat := b.getD (i / 4 * 4 + (i + k) % 4) 0
    aesTwice (x 0) ^^^ (aesTwice (x 1) ^^^ x 1) ^^^ x 2 ^^^ x 3)

/-- The next round key, with the round's constant. -/
def aesNextKey (k : List Nat) (rc : Nat) : List Nat :=
  let w (i : Nat) : List Nat := (k.drop (4 * i)).take 4
  let last := w 3
  let t := (List.range 4).map (fun i => aesSub (last.getD ((i + 1) % 4) 0) ^^^ (if i = 0 then rc else 0))
  let k0 := xorBytes (w 0) t
  let k1 := xorBytes (w 1) k0
  let k2 := xorBytes (w 2) k1
  k0 ++ k1 ++ k2 ++ xorBytes (w 3) k2

/-- The rounds of a block from round key k on, n of them still to run. -/
def aesRounds : Nat → List Nat → Nat → List Nat → List Nat
  | 0, _, _, b => b
  | n + 1, k, rc, b =>
    let k' := aesNextKey k rc
    let s := aesShiftRows (b.map aesSub)
    aesRounds n k' (aesTwice rc) (xorBytes (if n = 0 then s else aesMixColumns s) k')

/-- AES-128 of a block. -/
def aes128 (key b : List Nat) : List Nat := aesRounds 10 key 1 (xorBytes b key)

/-! ## CMAC -/

/-- The bytes of a number, most significant first. -/
def msgBytes (n v : Nat) : List Nat := (List.range n).map (fun i => v / 256 ^ (n - 1 - i) % 256)

/-- The number that bytes spell, most significant first. -/
def msgNum (b : List Nat) : Nat := b.foldl (fun v x => v * 256 + x) 0

/-- A subkey from the value before it. -/
def cmacDouble (b : List Nat) : List Nat :=
  let v := msgNum b
  msgBytes 16 (if v < 2 ^ 127 then 2 * v else (2 * v) % 2 ^ 128 ^^^ 0x87)

/-- The chain of blocks: n bounds their number; the last is completed or padded and added to its subkey. -/
def cmacChain (key k1 k2 : List Nat) : Nat → List Nat → List Nat → List Nat
  | 0, c, _ => c
  | n + 1, c, m =>
    if m.length ≤ 16 then
      let last := if m.length = 16 then xorBytes m k1 else xorBytes (m ++ [0x80] ++ List.replicate (15 - m.length) 0) k2
      aes128 key (xorBytes c last)
    else cmacChain key k1 k2 n (aes128 key (xorBytes c (m.take 16))) (m.drop 16)

/-- The CMAC of a message of bytes. -/
def cmacBytes (key : BitVec 128) (m : List Nat) : BitVec 128 :=
  let k := msgBytes 16 key.toNat
  let k1 := cmacDouble (aes128 k (List.replicate 16 0))
  let k2 := cmacDouble k1
  BitVec.ofNat 128 (msgNum (cmacChain k k1 k2 (m.length / 16 + 1) (List.replicate 16 0) m))

/-- The CMAC of words under a key, each word as six bytes, most significant first (R150). -/
def cmac (key : BitVec 128) (ws : List (BitVec 48)) : BitVec 128 := cmacBytes key (ws.flatMap (fun w => msgBytes 6 w.toNat))

end Sys2Proof.Machine
end

