-- ==== Sys2Proof/Machine/Sparse.lean ====
section
/-!
DEFINITION. Machine/Sparse.lean: sparse total maps from addresses to words as plain data. An address that is not listed
reads as its default; the list is strictly rising in its addresses and lists no entry equal to its default, so that equal
maps are equal lists.
-/
namespace Sys2Proof.Machine

/-- A sparse store: (address, value) pairs. -/
abbrev Sparse (α : Type) := List (Nat × α)

/-- The value at k, `d k` where k is not listed. Log entry 4, DEDUCED. -/
def spGet {α : Type} (d : Nat → α) : Sparse α → Nat → α
  | [], k => d k
  | (j, v) :: t, k => if j = k then v else spGet d t k

/-- Put v at k in front of a list whose addresses are all above k, unless v is the default. -/
def spCons {α : Type} [DecidableEq α] (d : Nat → α) (k : Nat) (v : α) (t : Sparse α) : Sparse α :=
  if v = d k then t else (k, v) :: t

/-- Set the value at k, keeping the canonical form. Log entry 4, DEDUCED. -/
def spSet {α : Type} [DecidableEq α] (d : Nat → α) : Sparse α → Nat → α → Sparse α
  | [], k, v => spCons d k v []
  | (j, x) :: t, k, v =>
    if k < j then spCons d k v ((j, x) :: t)
    else if k = j then spCons d k v t
    else (j, x) :: spSet d t k v

/-- Change every listed value by f, keeping the canonical form. -/
def spMap {α : Type} [DecidableEq α] (d : Nat → α) (f : Nat → α → α) : Sparse α → Sparse α
  | [] => []
  | (j, x) :: t => spCons d j (f j x) (spMap d f t)

/-- Every address of the list is above k. -/
def spAbove {α : Type} (k : Nat) (t : Sparse α) : Bool := t.all (fun p => decide (k < p.1))

/-- The canonical form: addresses strictly rising, no entry equal to its default. -/
def spWf {α : Type} [DecidableEq α] (d : Nat → α) : Sparse α → Bool
  | [] => true
  | (j, x) :: t => decide (x ≠ d j) && spAbove j t && spWf d t

end Sys2Proof.Machine
end

