-- ==== Sys2Proof/Machine/RegMap.lean ====
section
/-!
DEFINITION. Machine/RegMap.lean: the registers of the peripheral region, each with its address, its fields, and each
field's access code, keep class, value after reset and reserved encodings, transcribed from the register tables of the
chapters of spec/ and from the register map R815 (spec/31_register_directory.md). A field whose After reset column names
the straps, the MRAM or the factory has 0 here and is filled by the boot flow (Machine/Boot.lean); see log entry 8, DESIGN CHOICE.
-/
namespace Sys2Proof.Machine

/-- Access codes (R16). -/
inductive Access where
  | rw | ro | wo | w1c | rwt
  deriving DecidableEq, Repr

/-- Keep classes (R22). -/
inductive Keep where
  | n | a | w | s | v
  deriving DecidableEq, Repr

/-- The encodings of a field that are not reserved (R20). -/
inductive Legal where
  | any
  | range (lo hi : Nat)
  | zeroOr (lo hi : Nat)
  | even (lo hi : Nat)
  deriving DecidableEq, Repr

/-- One field of a register. -/
structure FieldRow where
  name : String
  lo : Nat
  len : Nat
  acc : Access
  keep : Keep
  reset : Nat
  legal : Legal
  deriving DecidableEq, Repr

/-- One register, or one indexed family of registers: idx lists the strides and counts of its indices (R815). -/
structure RegRow where
  name : String
  base : Nat
  idx : List (Nat × Nat)
  fields : List FieldRow
  deriving DecidableEq, Repr

/-- Whether an offset is reached by the indices of a row. -/
def idxHas : List (Nat × Nat) → Nat → Bool
  | [], off => off == 0
  | (stride, count) :: t, off => decide (off / stride < count) && idxHas t (off % stride)

/-- Whether the row holds the word at address a. -/
def RegRow.has (r : RegRow) (a : Nat) : Bool :=
  decide (r.base ≤ a) && idxHas r.idx (a - r.base)

/-- Registers of block SYS, 0x400000 (R815). -/
def regSys : List RegRow := [
  ⟨"SYS_ID", 0x400000, [], [
    ⟨"STEP", 0, 4, .ro, .n, 1, .any⟩,
    ⟨"PART", 4, 16, .ro, .n, 18468, .any⟩]⟩,
  ⟨"SYS_GSTAT", 0x400010, [], [
    ⟨"POS_UNC", 0, 8, .ro, .n, 0, .any⟩,
    ⟨"CHG_GAP", 8, 1, .ro, .n, 0, .any⟩,
    ⟨"LEDG_LOST", 9, 1, .ro, .n, 0, .any⟩,
    ⟨"QDROP_NZ", 10, 1, .ro, .a, 0, .any⟩,
    ⟨"C0_OVER", 11, 1, .w1c, .w, 0, .any⟩]⟩,
  ⟨"SYS_CONFLICT", 0x400011, [], [
    ⟨"VALID", 0, 1, .w1c, .w, 0, .any⟩,
    ⟨"KIND", 4, 4, .ro, .w, 0, .any⟩,
    ⟨"INDEX", 8, 8, .ro, .w, 0, .any⟩,
    ⟨"CLAIMANT", 16, 8, .ro, .w, 0, .any⟩,
    ⟨"COUNT", 24, 16, .ro, .w, 0, .any⟩]⟩,
  ⟨"SYS_SVARR", 0x400020, [], [
    ⟨"ARR0", 0, 2, .ro, .s, 0, .any⟩,
    ⟨"ARR1", 2, 2, .ro, .s, 0, .any⟩,
    ⟨"ARR2", 4, 2, .ro, .s, 0, .any⟩,
    ⟨"ARR3", 6, 2, .ro, .s, 0, .any⟩,
    ⟨"ARR4", 8, 2, .ro, .s, 0, .any⟩,
    ⟨"ARR5", 10, 2, .ro, .s, 0, .any⟩,
    ⟨"ARR6", 12, 2, .ro, .s, 0, .any⟩,
    ⟨"ARR7", 14, 2, .ro, .s, 0, .any⟩]⟩,
  ⟨"SYS_SVGLB", 0x400021, [], [
    ⟨"POLSRC", 0, 2, .ro, .s, 0, .any⟩,
    ⟨"FEREJ", 2, 1, .w1c, .w, 0, .any⟩,
    ⟨"POLBAD", 8, 8, .ro, .s, 0, .any⟩,
    ⟨"QSTEAL", 16, 16, .ro, .w, 0, .any⟩,
    ⟨"PEND", 32, 5, .ro, .v, 0, .any⟩]⟩,
  ⟨"SYS_SVQWP", 0x400022, [], [
    ⟨"COUNT", 0, 48, .ro, .s, 0, .any⟩]⟩,
  ⟨"SYS_SVST", 0x400028, [(1, 8)], [
    ⟨"STATE", 0, 4, .ro, .s, 0, .any⟩,
    ⟨"CAUSE", 4, 4, .ro, .s, 0, .any⟩,
    ⟨"MODE", 8, 3, .ro, .s, 0, .any⟩,
    ⟨"NTCST", 11, 1, .ro, .s, 0, .any⟩,
    ⟨"K", 16, 8, .ro, .s, 255, .any⟩,
    ⟨"ILIMEFF", 24, 24, .ro, .s, 0, .any⟩]⟩,
  ⟨"SYS_SVCALL", 0x400030, [(1, 8)], [
    ⟨"SVC", 0, 12, .ro, .w, 0, .any⟩,
    ⟨"COURSE", 12, 3, .ro, .w, 0, .any⟩,
    ⟨"OUTCOME", 15, 3, .ro, .w, 0, .any⟩,
    ⟨"STRAND", 18, 6, .ro, .w, 0, .any⟩,
    ⟨"TIME", 24, 24, .ro, .w, 0, .any⟩]⟩]

/-- Registers of block TIME, 0x401000 (R815). -/
def regTime0 : List RegRow := [
  ⟨"TIME_STAT", 0x401000, [], [
    ⟨"PLL_LOCK", 0, 1, .ro, .v, 0, .any⟩,
    ⟨"DL0_LOCK", 1, 1, .ro, .v, 0, .any⟩,
    ⟨"DL1_LOCK", 2, 1, .ro, .v, 0, .any⟩,
    ⟨"REF_SRC", 3, 1, .ro, .a, 0, .any⟩,
    ⟨"REFLOST", 4, 1, .w1c, .a, 0, .any⟩,
    ⟨"DT_REF", 5, 1, .w1c, .a, 0, .any⟩,
    ⟨"DT_LP", 6, 1, .w1c, .a, 0, .any⟩,
    ⟨"RATE_LIM", 7, 1, .w1c, .a, 0, .any⟩,
    ⟨"NT_STATE", 8, 2, .ro, .a, 0, .any⟩]⟩,
  ⟨"TIME_CLKCTL", 0x401001, [], [
    ⟨"REFOUT_EN", 0, 1, .rw, .w, 0, .any⟩,
    ⟨"REFLOST_ACT", 1, 1, .rw, .w, 1, .any⟩]⟩,
  ⟨"TIME_DTIME", 0x401002, [], [
    ⟨"DTIME", 0, 48, .ro, .a, 0, .any⟩]⟩,
  ⟨"TIME_NTIME", 0x401003, [], [
    ⟨"NTIME", 0, 48, .ro, .a, 0, .any⟩]⟩,
  ⟨"TIME_NTAUX", 0x401004, [], [
    ⟨"NTFRAC", 0, 16, .ro, .a, 0, .any⟩,
    ⟨"STATE", 16, 2, .ro, .a, 0, .any⟩,
    ⟨"EPOCH", 18, 16, .ro, .a, 0, .any⟩]⟩,
  ⟨"TIME_NTUNC", 0x401005, [], [
    ⟨"UNC", 0, 32, .ro, .a, 4294967295, .any⟩]⟩,
  ⟨"TIME_NTCTL", 0x401006, [], [
    ⟨"TP_EN", 0, 1, .rw, .w, 1, .any⟩,
    ⟨"TP_PER", 1, 1, .rw, .w, 0, .any⟩,
    ⟨"HGROW", 8, 8, .rw, .w, 2, .any⟩,
    ⟨"UFLOOR", 16, 8, .rw, .w, 2, .any⟩]⟩,
  ⟨"TIME_NTLIM", 0x401007, [], [
    ⟨"BTO", 0, 16, .rw, .w, 1000, (.range 10 65535)⟩,
    ⟨"HOLD", 16, 16, .rw, .w, 60, (.range 1 65535)⟩]⟩,
  ⟨"TIME_RATE", 0x401008, [], [
    ⟨"R", 0, 24, .ro, .a, 0, .any⟩]⟩,
  ⟨"TIME_AOCAL", 0x401009, [], [
    ⟨"K", 0, 24, .ro, .a, 245760, .any⟩]⟩,
  ⟨"TIME_LPERR", 0x40100A, [], [
    ⟨"BOUND", 0, 48, .ro, .a, 0, .any⟩]⟩,
  ⟨"TIME_SYNC", 0x40100B, [], [
    ⟨"REFTRIM", 0, 5, .rw, .w, 0, .any⟩,
    ⟨"SYNCDLY", 8, 8, .rw, .w, 0, .any⟩]⟩]

/-- Registers of block TIME, 0x401000 (R815). -/
def regTime1 : List RegRow := [
  ⟨"TIME_CNT", 0x40100C, [], [
    ⟨"TPSKIP", 0, 16, .ro, .w, 0, .any⟩,
    ⟨"BDROP", 16, 16, .ro, .w, 0, .any⟩]⟩]

/-- Registers of block TIME (R815). -/
def regTime : List RegRow := regTime0 ++ regTime1

/-- Registers of block PWR, 0x402000 (R815). -/
def regPwr0 : List RegRow := [
  ⟨"PWR_STAT", 0x402000, [], [
    ⟨"STATE", 0, 2, .ro, .v, 0, .any⟩,
    ⟨"LAST", 2, 2, .ro, .a, 0, .any⟩,
    ⟨"ENTRY", 4, 4, .ro, .a, 0, .any⟩,
    ⟨"LATCHED", 8, 1, .w1c, .a, 0, .any⟩,
    ⟨"WSRC", 9, 4, .ro, .a, 0, .any⟩,
    ⟨"VSRC", 13, 1, .ro, .v, 0, .any⟩,
    ⟨"VBATUV", 14, 1, .ro, .a, 0, .any⟩,
    ⟨"VREG5_OK", 15, 1, .ro, .v, 0, .any⟩,
    ⟨"VIO_OK", 16, 1, .ro, .v, 0, .any⟩,
    ⟨"VCORE_OK", 17, 1, .ro, .v, 0, .any⟩]⟩,
  ⟨"PWR_CTL", 0x402001, [], [
    ⟨"REQ", 0, 3, .wo, .v, 0, (.range 0 3)⟩]⟩,
  ⟨"PWR_LPCTL", 0x402002, [], [
    ⟨"XTAL_KEEP", 0, 1, .rw, .a, 1, .any⟩,
    ⟨"IC0_KEEP", 1, 1, .rw, .a, 0, .any⟩,
    ⟨"CAN_PN", 2, 1, .rw, .a, 0, .any⟩,
    ⟨"DEEPEN", 8, 8, .rw, .a, 0, .any⟩]⟩,
  ⟨"PWR_WAKEEN", 0x402003, [], [
    ⟨"WK", 0, 4, .rw, .a, 0, .any⟩,
    ⟨"HALL", 4, 1, .rw, .a, 1, .any⟩,
    ⟨"CANWUP", 5, 1, .rw, .a, 1, .any⟩,
    ⟨"CANSW", 6, 1, .rw, .a, 0, .any⟩,
    ⟨"LINWK", 7, 1, .rw, .a, 1, .any⟩,
    ⟨"HOST", 8, 1, .rw, .a, 0, .any⟩,
    ⟨"TIMER", 9, 1, .rw, .a, 0, .any⟩,
    ⟨"PEER", 10, 1, .rw, .a, 0, .any⟩,
    ⟨"VBATUV", 11, 1, .rw, .a, 1, .any⟩]⟩,
  ⟨"PWR_WAKECFG", 0x402004, [], [
    ⟨"WKPOL", 0, 4, .rw, .a, 0, .any⟩,
    ⟨"WKFILT", 4, 4, .rw, .a, 3, .any⟩]⟩,
  ⟨"PWR_HALLLP", 0x402005, [], [
    ⟨"LPINT0", 0, 12, .rw, .a, 500, (.range 16 4095)⟩,
    ⟨"LPINT1", 12, 12, .rw, .a, 500, (.range 16 4095)⟩,
    ⟨"LPINT2", 24, 12, .rw, .a, 500, (.range 16 4095)⟩,
    ⟨"LPINT3", 36, 12, .rw, .a, 500, (.range 16 4095)⟩]⟩,
  ⟨"PWR_WTIMER", 0x402006, [], [
    ⟨"PERIOD", 0, 24, .rw, .a, 0, .any⟩]⟩,
  ⟨"PWR_HSUP", 0x402007, [], [
    ⟨"HSUPEN", 0, 4, .rw, .a, 0, .any⟩,
    ⟨"LPEN", 4, 4, .rw, .a, 15, .any⟩,
    ⟨"HON", 8, 5, .rw, .a, 10, (.range 2 31)⟩]⟩,
  ⟨"PWR_WAKEHALL", 0x402008, [], [
    ⟨"TH0", 0, 6, .rw, .a, 0, .any⟩,
    ⟨"TH1", 6, 6, .rw, .a, 0, .any⟩,
    ⟨"TH2", 12, 6, .rw, .a, 0, .any⟩,
    ⟨"TH3", 18, 6, .rw, .a, 0, .any⟩,
    ⟨"TH4", 24, 6, .rw, .a, 0, .any⟩,
    ⟨"TH5", 30, 6, .rw, .a, 0, .any⟩,
    ⟨"TH6", 36, 6, .rw, .a, 0, .any⟩,
    ⟨"TH7", 42, 6, .rw, .a, 0, .any⟩]⟩,
  ⟨"PWR_VBATUV", 0x402009, [], [
    ⟨"TH", 0, 4, .rw, .a, 4, .any⟩,
    ⟨"HYST", 4, 2, .rw, .a, 1, .any⟩]⟩,
  ⟨"PWR_WLHDR", 0x402010, [], [
    ⟨"COUNT", 0, 16, .ro, .a, 0, .any⟩]⟩,
  ⟨"PWR_WLE0", 0x402012, [(2, 7)], [
    ⟨"DT", 0, 48, .ro, .a, 0, .any⟩]⟩]

/-- Registers of block PWR, 0x402000 (R815). -/
def regPwr1 : List RegRow := [
  ⟨"PWR_WLE1", 0x402013, [(2, 7)], [
    ⟨"KIND", 0, 2, .ro, .a, 0, .any⟩,
    ⟨"LP", 2, 1, .ro, .a, 0, .any⟩,
    ⟨"LATCHED", 3, 1, .ro, .a, 0, .any⟩,
    ⟨"CODE", 4, 4, .ro, .a, 0, .any⟩,
    ⟨"FROM", 8, 3, .ro, .a, 0, .any⟩,
    ⟨"SRCNODE", 12, 4, .ro, .a, 0, .any⟩,
    ⟨"VN", 16, 8, .ro, .a, 0, .any⟩]⟩,
  ⟨"PWR_RVCFG", 0x402020, [], [
    ⟨"EN", 0, 1, .rw, .a, 0, .any⟩,
    ⟨"WKTX", 1, 1, .rw, .a, 1, .any⟩,
    ⟨"WKLIN", 2, 1, .rw, .a, 0, .any⟩,
    ⟨"LOCMASK", 4, 12, .rw, .a, 287, .any⟩,
    ⟨"THOLD", 16, 8, .rw, .a, 2, (.range 1 255)⟩,
    ⟨"TVOTE", 24, 8, .rw, .a, 100, (.range 10 255)⟩]⟩,
  ⟨"PWR_RVCOORD", 0x402021, [], [
    ⟨"NODES", 0, 12, .rw, .a, 0, .any⟩,
    ⟨"TANS", 16, 8, .rw, .a, 20, (.range 1 255)⟩,
    ⟨"CI", 32, 16, .rw, .a, 50, (.range 1 65535)⟩]⟩,
  ⟨"PWR_RVCMD", 0x402022, [], [
    ⟨"QUERY", 0, 1, .wo, .v, 0, .any⟩,
    ⟨"TGT", 1, 1, .wo, .v, 0, .any⟩,
    ⟨"ABORT", 2, 1, .wo, .v, 0, .any⟩]⟩,
  ⟨"PWR_RVCTL", 0x402023, [], [
    ⟨"HOLD", 0, 8, .rw, .w, 0, .any⟩]⟩,
  ⟨"PWR_RVSTAT", 0x402024, [], [
    ⟨"PHASE", 0, 3, .ro, .v, 0, .any⟩,
    ⟨"TGT", 3, 1, .ro, .v, 0, .any⟩,
    ⟨"VN", 4, 8, .ro, .a, 0, .any⟩,
    ⟨"OUTCOME", 12, 4, .ro, .a, 0, .any⟩,
    ⟨"TXPEND", 16, 1, .ro, .a, 0, .any⟩,
    ⟨"ABORTS", 24, 16, .ro, .w, 0, .any⟩]⟩,
  ⟨"PWR_RVRES", 0x402025, [], [
    ⟨"READY", 0, 13, .ro, .a, 0, .any⟩,
    ⟨"BUSY", 16, 13, .ro, .a, 0, .any⟩,
    ⟨"MISS", 32, 13, .ro, .a, 0, .any⟩]⟩,
  ⟨"PWR_RVEND", 0x402026, [], [
    ⟨"T", 0, 48, .ro, .a, 0, .any⟩]⟩]

/-- Registers of block PWR (R815). -/
def regPwr : List RegRow := regPwr0 ++ regPwr1

/-- Registers of block RST, 0x403000 (R815). -/
def regRst : List RegRow := [
  ⟨"RST_STAT", 0x403000, [], [
    ⟨"KIND", 0, 3, .ro, .a, 1, .any⟩,
    ⟨"HIST", 8, 7, .w1c, .a, 1, .any⟩,
    ⟨"STRAPCHG", 15, 1, .w1c, .a, 0, .any⟩,
    ⟨"BORSRC", 16, 2, .ro, .a, 0, .any⟩,
    ⟨"WDRSRC", 18, 2, .ro, .a, 0, .any⟩,
    ⟨"COUNT", 32, 16, .ro, .a, 0, .any⟩]⟩,
  ⟨"RST_CTL", 0x403001, [], [
    ⟨"KEY", 0, 16, .wo, .v, 0, .any⟩,
    ⟨"SWR", 16, 1, .wo, .v, 0, .any⟩,
    ⟨"FAULTOUT", 17, 1, .rw, .w, 0, .any⟩]⟩,
  ⟨"RST_STRAP", 0x403002, [], [
    ⟨"ROLE", 0, 2, .ro, .a, 0, .any⟩,
    ⟨"BOOT", 2, 2, .ro, .s, 0, .any⟩,
    ⟨"NODE", 4, 4, .ro, .s, 0, .any⟩,
    ⟨"SROLE", 8, 2, .ro, .s, 0, .any⟩,
    ⟨"SBOOT", 10, 2, .ro, .s, 0, .any⟩,
    ⟨"SNODE", 12, 4, .ro, .s, 0, .any⟩]⟩,
  ⟨"RST_BOOTST", 0x403003, [], [
    ⟨"SRC", 0, 2, .ro, .s, 3, .any⟩,
    ⟨"UNAUTH", 2, 1, .ro, .s, 0, .any⟩,
    ⟨"STRAPERR", 3, 1, .ro, .s, 0, .any⟩,
    ⟨"FMRAM", 4, 4, .ro, .s, 0, .any⟩,
    ⟨"FFLASH", 8, 4, .ro, .s, 0, .any⟩,
    ⟨"FHOST", 12, 4, .ro, .s, 0, .any⟩,
    ⟨"IMGVER", 16, 16, .ro, .s, 0, .any⟩]⟩,
  ⟨"RST_BOOTCFG", 0x403004, [], [
    ⟨"HOSTTO", 0, 16, .rw, .n, 1000, .any⟩]⟩,
  ⟨"RST_HOSTGO", 0x403005, [], [
    ⟨"GO", 0, 1, .wo, .v, 0, .any⟩]⟩,
  ⟨"RST_KEYST", 0x403006, [], [
    ⟨"KEYSET", 0, 1, .ro, .n, 0, .any⟩,
    ⟨"LOCKED", 1, 1, .ro, .n, 0, .any⟩,
    ⟨"OPEN", 2, 1, .ro, .v, 1, .any⟩]⟩]

/-- Registers of block MEM, 0x404000 (R815). -/
def regMem : List RegRow := [
  ⟨"MEM_ERRCNT", 0x404000, [], [
    ⟨"RAMCE", 0, 16, .ro, .w, 0, .any⟩,
    ⟨"RAMUE", 16, 8, .ro, .w, 0, .any⟩,
    ⟨"MRAMCE", 24, 16, .ro, .w, 0, .any⟩,
    ⟨"MRAMUE", 40, 8, .ro, .w, 0, .any⟩]⟩,
  ⟨"MEM_ERRADDR", 0x404001, [], [
    ⟨"ADDR", 0, 24, .ro, .w, 0, .any⟩,
    ⟨"SRC", 24, 4, .ro, .w, 0, .any⟩,
    ⟨"STRAND", 28, 6, .ro, .w, 0, .any⟩,
    ⟨"VALID", 34, 1, .w1c, .w, 0, .any⟩]⟩,
  ⟨"MEM_SCRUB", 0x404002, [], [
    ⟨"RAMEN", 0, 1, .rw, .a, 1, .any⟩,
    ⟨"MRAMEN", 1, 1, .rw, .a, 1, .any⟩,
    ⟨"MWTH", 2, 2, .rw, .a, 2, (.range 1 2)⟩,
    ⟨"RAMINT", 8, 8, .rw, .a, 4, (.range 1 255)⟩,
    ⟨"MRAMINT", 16, 8, .rw, .a, 16, (.range 1 255)⟩]⟩,
  ⟨"MEM_PSTAT", 0x404003, [], [
    ⟨"STAGED", 0, 10, .ro, .v, 0, .any⟩,
    ⟨"NPEND", 10, 1, .ro, .v, 0, .any⟩]⟩,
  ⟨"MEM_WEAR", 0x404004, [], [
    ⟨"PCOUNT", 0, 48, .ro, .n, 0, .any⟩]⟩,
  ⟨"MEM_JCTL", 0x404005, [], [
    ⟨"PER", 0, 16, .rw, .a, 1000, (.zeroOr 10 65535)⟩,
    ⟨"REQ", 16, 1, .wo, .v, 0, .any⟩]⟩,
  ⟨"MEM_JSEQ", 0x404006, [], [
    ⟨"SEQ", 0, 40, .ro, .n, 0, .any⟩]⟩,
  ⟨"MEM_WOCTL", 0x404007, [], [
    ⟨"OP", 0, 2, .wo, .v, 0, .any⟩,
    ⟨"RESULT", 4, 2, .ro, .v, 0, .any⟩]⟩,
  ⟨"MEM_WODATA", 0x404008, [(1, 3)], [
    ⟨"DATA", 0, 48, .wo, .v, 0, .any⟩]⟩,
  ⟨"MEM_CTL", 0x40400B, [], [
    ⟨"CLRCNT", 0, 1, .wo, .v, 0, .any⟩]⟩,
  ⟨"MEM_FENCE", 0x404010, [(1, 8)], [
    ⟨"BASE", 6, 18, .rw, .w, 16384, .any⟩,
    ⟨"LEN", 24, 15, .rw, .w, 0, (.range 0 16384)⟩,
    ⟨"OWNER", 40, 8, .rw, .w, 0, .any⟩]⟩]

/-- Registers of block SCH, 0x405000 (R815). -/
def regSch0 : List RegRow := [
  ⟨"SCH_STAT", 0x405000, [], [
    ⟨"INFLIGHT", 0, 8, .ro, .v, 0, .any⟩,
    ⟨"C0RUN", 8, 7, .ro, .v, 0, .any⟩,
    ⟨"RUN", 16, 7, .ro, .v, 0, .any⟩]⟩,
  ⟨"SCH_FRETMAP", 0x405001, [], [
    ⟨"HOME0", 0, 2, .ro, .w, 0, .any⟩,
    ⟨"HOME1", 2, 2, .rw, .w, 1, (.range 1 3)⟩,
    ⟨"HOME2", 4, 2, .rw, .w, 1, (.range 1 3)⟩,
    ⟨"HOME3", 6, 2, .rw, .w, 2, (.range 1 3)⟩,
    ⟨"HOME4", 8, 2, .ro, .w, 0, .any⟩,
    ⟨"HOME5", 10, 2, .rw, .w, 1, (.range 1 3)⟩,
    ⟨"HOME6", 12, 2, .rw, .w, 1, (.range 1 3)⟩,
    ⟨"HOME7", 14, 2, .rw, .w, 3, (.range 1 3)⟩,
    ⟨"HOME8", 16, 2, .ro, .w, 0, .any⟩,
    ⟨"HOME9", 18, 2, .rw, .w, 1, (.range 1 3)⟩,
    ⟨"HOME10", 20, 2, .rw, .w, 1, (.range 1 3)⟩,
    ⟨"HOME11", 22, 2, .rw, .w, 2, (.range 1 3)⟩,
    ⟨"HOME12", 24, 2, .ro, .w, 0, .any⟩,
    ⟨"HOME13", 26, 2, .rw, .w, 1, (.range 1 3)⟩,
    ⟨"HOME14", 28, 2, .rw, .w, 1, (.range 1 3)⟩,
    ⟨"HOME15", 30, 2, .rw, .w, 3, (.range 1 3)⟩]⟩,
  ⟨"SCH_CNT", 0x405002, [], [
    ⟨"IDLE", 0, 24, .ro, .w, 0, .any⟩,
    ⟨"LIMSTALL", 24, 24, .ro, .w, 0, .any⟩]⟩,
  ⟨"SCH_EVSET", 0x405003, [], [
    ⟨"EV", 0, 48, .wo, .v, 0, .any⟩]⟩,
  ⟨"SCH_WDCFG", 0x405008, [], [
    ⟨"STRAND", 0, 6, .rw, .w, 0, .any⟩,
    ⟨"WDTO", 8, 16, .rw, .w, 1000, (.range 1 65535)⟩,
    ⟨"WDMIN", 24, 16, .rw, .w, 0, .any⟩,
    ⟨"LOCK", 40, 1, .ro, .s, 0, .any⟩]⟩,
  ⟨"SCH_WDKICK", 0x405009, [], [
    ⟨"KEY", 0, 16, .wo, .v, 0, .any⟩]⟩,
  ⟨"SCH_WDSTAT", 0x40500A, [], [
    ⟨"COUNT", 0, 16, .ro, .v, 0, .any⟩,
    ⟨"EXPECT", 16, 1, .ro, .s, 0, .any⟩,
    ⟨"LAST", 17, 3, .ro, .a, 0, .any⟩]⟩,
  ⟨"SCH_FLTSUM0", 0x405010, [], [
    ⟨"F", 0, 48, .ro, .s, 0, .any⟩]⟩,
  ⟨"SCH_FLTSUM1", 0x405011, [], [
    ⟨"F", 0, 16, .ro, .s, 0, .any⟩]⟩,
  ⟨"SCH_FLTCFG", 0x405012, [], [
    ⟨"STORM", 0, 8, .rw, .w, 16, .any⟩,
    ⟨"STORMACT", 8, 1, .rw, .w, 1, .any⟩,
    ⟨"LOGUSER", 9, 1, .rw, .w, 1, .any⟩]⟩,
  ⟨"SCH_FLTSTAT", 0x405013, [], [
    ⟨"COUNT", 0, 16, .ro, .w, 0, .any⟩,
    ⟨"STORMS", 16, 8, .ro, .w, 0, .any⟩,
    ⟨"LOGSKIP", 24, 16, .ro, .w, 0, .any⟩]⟩,
  ⟨"SCH_FLOGSEQ", 0x405014, [], [
    ⟨"SEQ", 0, 40, .ro, .n, 0, .any⟩]⟩]

/-- Registers of block SCH, 0x405000 (R815). -/
def regSch1 : List RegRow := [
  ⟨"SCH_SNAPHDR", 0x405600, [], [
    ⟨"NENT", 0, 8, .ro, .w, 0, .any⟩,
    ⟨"RCOUNT", 8, 16, .ro, .w, 0, .any⟩,
    ⟨"SRC", 24, 2, .ro, .w, 0, .any⟩,
    ⟨"DRAINFULL", 26, 1, .ro, .w, 0, .any⟩]⟩,
  ⟨"SCH_SNAPTIME", 0x405601, [], [
    ⟨"F", 0, 48, .ro, .w, 0, .any⟩]⟩,
  ⟨"SCH_S_STAT", 0x405100, [(8, 64)], [
    ⟨"STATE", 0, 3, .ro, .s, 0, .any⟩,
    ⟨"CLASS", 4, 2, .ro, .s, 0, .any⟩,
    ⟨"INFL", 6, 2, .ro, .s, 0, .any⟩,
    ⟨"SUPV", 8, 1, .ro, .s, 0, .any⟩,
    ⟨"EVMERGE", 9, 1, .w1c, .s, 0, .any⟩,
    ⟨"PC", 24, 24, .ro, .s, 0, .any⟩]⟩,
  ⟨"SCH_S_WMASK", 0x405101, [(8, 64), (1, 6)], [
    ⟨"MASK", 0, 48, .rw, .s, 0, .any⟩]⟩,
  ⟨"SCH_S_PEND", 0x405300, [(8, 64), (1, 6)], [
    ⟨"PEND", 0, 48, .w1c, .s, 0, .any⟩]⟩,
  ⟨"SCH_S_FLT0", 0x405500, [(2, 64)], [
    ⟨"CAUSE", 0, 4, .ro, .s, 0, .any⟩,
    ⟨"DEFER", 4, 1, .ro, .s, 0, .any⟩,
    ⟨"FETCH", 5, 1, .ro, .s, 0, .any⟩,
    ⟨"MORE", 6, 1, .ro, .s, 0, .any⟩,
    ⟨"RESV", 7, 1, .rw, .s, 0, .any⟩,
    ⟨"IPC", 24, 24, .ro, .s, 0, .any⟩]⟩,
  ⟨"SCH_S_FLT1", 0x405501, [(2, 64)], [
    ⟨"EA", 0, 24, .ro, .s, 0, .any⟩,
    ⟨"RESPC", 24, 24, .rw, .s, 0, .any⟩]⟩,
  ⟨"SCH_SNAPE0", 0x405700, [(2, 128)], [
    ⟨"W", 0, 48, .ro, .w, 0, .any⟩]⟩,
  ⟨"SCH_SNAPE1", 0x405701, [(2, 128)], [
    ⟨"W", 0, 48, .ro, .w, 0, .any⟩]⟩]

/-- Registers of block SCH (R815). -/
def regSch : List RegRow := regSch0 ++ regSch1

/-- Registers of block PWM, 0x408000 (R815). -/
def regPwm0 : List RegRow := [
  ⟨"PWM_CTL", 0x408000, [(512, 8)], [
    ⟨"PRE", 0, 3, .rwt, .w, 0, .any⟩,
    ⟨"SHOLD", 3, 1, .rw, .w, 0, .any⟩,
    ⟨"EVPRE", 8, 4, .rwt, .w, 0, .any⟩,
    ⟨"EVSEL", 12, 6, .rw, .w, 0, .any⟩]⟩,
  ⟨"PWM_PER", 0x408001, [(512, 8)], [
    ⟨"PER", 0, 16, .rwt, .w, 11999, (.range 7 65534)⟩]⟩,
  ⟨"PWM_AUX", 0x408005, [(512, 8)], [
    ⟨"AUX", 0, 16, .rwt, .w, 0, .any⟩,
    ⟨"AUXLEN", 16, 10, .rwt, .w, 0, .any⟩]⟩,
  ⟨"PWM_AUXOWN", 0x408006, [(512, 8)], [
    ⟨"OWNER", 0, 8, .rw, .w, 0, .any⟩]⟩,
  ⟨"PWM_DT", 0x408007, [(512, 8)], [
    ⟨"DTHL", 0, 10, .rwt, .w, 48, .any⟩,
    ⟨"DTLH", 16, 10, .rwt, .w, 48, .any⟩]⟩,
  ⟨"PWM_MINP", 0x408008, [(512, 8)], [
    ⟨"MINP", 0, 8, .rwt, .w, 0, .any⟩,
    ⟨"MODE", 8, 1, .rwt, .w, 0, .any⟩]⟩,
  ⟨"PWM_SYNC", 0x408009, [(512, 8)], [
    ⟨"SEN", 0, 1, .rw, .w, 0, .any⟩,
    ⟨"MASTER", 1, 3, .rw, .w, 0, .any⟩,
    ⟨"PHASE", 16, 16, .rw, .w, 0, .any⟩]⟩,
  ⟨"PWM_CNT", 0x40800A, [(512, 8)], [
    ⟨"CNT", 0, 16, .ro, .v, 0, .any⟩,
    ⟨"PCNT", 16, 32, .ro, .v, 0, .any⟩]⟩,
  ⟨"PWM_STAT", 0x40800B, [(512, 8)], [
    ⟨"RUN", 0, 1, .ro, .v, 0, .any⟩,
    ⟨"SYNCSLIP", 1, 1, .w1c, .w, 0, .any⟩,
    ⟨"MPCFG", 2, 1, .w1c, .w, 0, .any⟩,
    ⟨"WREJ", 3, 1, .w1c, .w, 0, .any⟩,
    ⟨"MPCNT", 8, 16, .ro, .w, 0, .any⟩]⟩,
  ⟨"PWM_EVSTAT", 0x40800C, [(512, 8)], [
    ⟨"SRC", 0, 6, .w1c, .v, 0, .any⟩]⟩,
  ⟨"PWM_OUT", 0x408010, [(512, 8)], [
    ⟨"OUTEN", 0, 2, .rw, .s, 0, (.range 0 2)⟩,
    ⟨"COMP", 2, 1, .rw, .w, 1, .any⟩,
    ⟨"CAPO", 4, 2, .rw, .w, 0, .any⟩,
    ⟨"DCH", 6, 2, .rw, .w, 0, (.range 0 2)⟩,
    ⟨"PAIR", 8, 2, .rw, .w, 0, (.range 0 1)⟩,
    ⟨"PDRV", 10, 2, .rw, .w, 0, .any⟩,
    ⟨"PBRK", 12, 4, .rw, .w, 0, .any⟩]⟩,
  ⟨"PWM_MCFG", 0x408011, [(512, 8)], [
    ⟨"MSRC", 0, 2, .rw, .w, 0, (.range 0 2)⟩,
    ⟨"MTAKE", 2, 2, .rw, .w, 0, (.range 0 2)⟩,
    ⟨"RLEN", 4, 3, .rw, .w, 5, .any⟩,
    ⟨"MOFS", 8, 3, .rw, .w, 0, (.range 0 5)⟩,
    ⟨"HINVF", 11, 1, .rw, .w, 1, .any⟩,
    ⟨"BDIR", 12, 1, .rw, .w, 0, .any⟩,
    ⟨"CDLY", 16, 16, .rw, .w, 0, .any⟩,
    ⟨"BBLK", 32, 8, .rw, .w, 0, .any⟩]⟩]

/-- Registers of block PWM, 0x408000 (R815). -/
def regPwm1 : List RegRow := [
  ⟨"PWM_MCMD", 0x408012, [(512, 8)], [
    ⟨"IDX", 0, 3, .wo, .v, 0, .any⟩,
    ⟨"SET", 3, 1, .wo, .v, 0, .any⟩,
    ⟨"ADV", 4, 1, .wo, .v, 0, .any⟩,
    ⟨"RET", 5, 1, .wo, .v, 0, .any⟩]⟩,
  ⟨"PWM_MSTAT", 0x408013, [(512, 8)], [
    ⟨"IDX", 0, 3, .ro, .v, 0, .any⟩,
    ⟨"PEND", 3, 1, .ro, .v, 0, .any⟩,
    ⟨"MASK", 4, 6, .ro, .v, 21, .any⟩,
    ⟨"HINV", 10, 1, .w1c, .w, 0, .any⟩,
    ⟨"CFGREJ", 11, 1, .w1c, .w, 0, .any⟩,
    ⟨"MMERGE", 16, 16, .ro, .w, 0, .any⟩]⟩,
  ⟨"PWM_SSHUNT", 0x40801C, [(512, 8)], [
    ⟨"SSEN", 0, 1, .rw, .w, 0, .any⟩,
    ⟨"TSET", 4, 8, .rw, .w, 60, .any⟩,
    ⟨"SSMISS", 16, 16, .ro, .w, 0, .any⟩]⟩,
  ⟨"PWM_SSORD", 0x40801D, [(512, 8)], [
    ⟨"MIN", 0, 2, .ro, .v, 0, .any⟩,
    ⟨"MID", 2, 2, .ro, .v, 0, .any⟩,
    ⟨"MAX", 4, 2, .ro, .v, 0, .any⟩,
    ⟨"W1", 6, 1, .ro, .v, 0, .any⟩,
    ⟨"W2", 7, 1, .ro, .v, 0, .any⟩]⟩,
  ⟨"PWM_CMP", 0x408002, [(512, 4), (1, 3)], [
    ⟨"CMP", 0, 16, .rwt, .w, 0, .any⟩,
    ⟨"TAP", 16, 5, .rwt, .w, 0, .any⟩]⟩,
  ⟨"PWM_CMP", 0x408802, [(512, 4), (1, 3)], [
    ⟨"CMP", 0, 16, .rwt, .w, 0, .any⟩]⟩,
  ⟨"PWM_MTAB0", 0x408014, [(512, 8)], [
    ⟨"STATE", 0, 6, .rw, .w, 21, .any⟩]⟩,
  ⟨"PWM_MTAB", 0x408015, [(512, 8), (1, 7)], [
    ⟨"STATE", 0, 6, .rw, .w, 0, .any⟩]⟩]

/-- Registers of block PWM (R815). -/
def regPwm : List RegRow := regPwm0 ++ regPwm1

/-- Registers of block PWMG, 0x409000 (R815). -/
def regPwmG : List RegRow := [
  ⟨"PWM_GSTART", 0x409000, [], [
    ⟨"START", 0, 8, .wo, .v, 0, .any⟩,
    ⟨"STOP", 8, 8, .wo, .v, 0, .any⟩,
    ⟨"AT", 16, 1, .wo, .v, 0, .any⟩]⟩,
  ⟨"PWM_GAT", 0x409001, [], [
    ⟨"DT", 0, 48, .rw, .w, 0, .any⟩]⟩]

/-- Registers of block GDRV, 0x40A000 (R815). -/
def regGdrv : List RegRow := [
  ⟨"GDRV_DOM_CTL", 0x40A000, [(1, 4)], [
    ⟨"EN", 0, 1, .rw, .w, 0, .any⟩,
    ⟨"ARST", 1, 1, .rw, .w, 0, .any⟩,
    ⟨"UVCLR", 2, 1, .wo, .v, 0, .any⟩]⟩,
  ⟨"GDRV_DOM_STAT", 0x40A004, [(1, 4)], [
    ⟨"RDY", 0, 1, .ro, .v, 0, .any⟩,
    ⟨"VCPUV", 1, 1, .w1c, .w, 0, .any⟩,
    ⟨"VGLUV", 2, 1, .w1c, .w, 0, .any⟩,
    ⟨"LOCK", 3, 1, .ro, .v, 0, .any⟩,
    ⟨"UVCNT", 8, 16, .ro, .w, 0, .any⟩]⟩,
  ⟨"GDRV_SRC", 0x40A008, [], [
    ⟨"SRC0", 0, 2, .rw, .w, 0, .any⟩,
    ⟨"SRC1", 2, 2, .rw, .w, 0, .any⟩,
    ⟨"SRC2", 4, 2, .rw, .w, 0, .any⟩,
    ⟨"SRC3", 6, 2, .rw, .w, 0, .any⟩,
    ⟨"SRC4", 8, 2, .rw, .w, 0, .any⟩,
    ⟨"SRC5", 10, 2, .rw, .w, 0, .any⟩,
    ⟨"SRC6", 12, 2, .rw, .w, 0, .any⟩,
    ⟨"SRC7", 14, 2, .rw, .w, 0, .any⟩,
    ⟨"SRC8", 16, 2, .rw, .w, 0, .any⟩,
    ⟨"SRC9", 18, 2, .rw, .w, 0, .any⟩,
    ⟨"SRC10", 20, 2, .rw, .w, 0, .any⟩,
    ⟨"SRC11", 22, 2, .rw, .w, 0, .any⟩,
    ⟨"SRC12", 24, 2, .rw, .w, 0, .any⟩,
    ⟨"SRC13", 26, 2, .rw, .w, 0, .any⟩,
    ⟨"SRC14", 28, 2, .rw, .w, 0, .any⟩,
    ⟨"SRC15", 30, 2, .rw, .w, 0, .any⟩,
    ⟨"SRC16", 32, 2, .rw, .w, 0, .any⟩,
    ⟨"SRC17", 34, 2, .rw, .w, 0, .any⟩,
    ⟨"SRC18", 36, 2, .rw, .w, 0, .any⟩,
    ⟨"SRC19", 38, 2, .rw, .w, 0, .any⟩,
    ⟨"SRC20", 40, 2, .rw, .w, 0, .any⟩,
    ⟨"SRC21", 42, 2, .rw, .w, 0, .any⟩,
    ⟨"SRC22", 44, 2, .rw, .w, 0, .any⟩,
    ⟨"SRC23", 46, 2, .rw, .w, 0, .any⟩]⟩,
  ⟨"GDRV_HB_CFG", 0x40A010, [(1, 24)], [
    ⟨"ISRC", 0, 4, .rw, .w, 3, .any⟩,
    ⟨"ISNK", 4, 4, .rw, .w, 3, .any⟩,
    ⟨"GFT", 8, 8, .rw, .w, 96, .any⟩]⟩,
  ⟨"GDRV_SGC", 0x40A030, [(1, 8)], [
    ⟨"TOKEN", 8, 4, .rw, .w, 0, .any⟩,
    ⟨"STATE0", 0, 2, .rw, .w, 0, .any⟩,
    ⟨"STATE1", 2, 2, .rw, .w, 0, .any⟩,
    ⟨"STATE2", 4, 2, .rw, .w, 0, .any⟩]⟩,
  ⟨"GDRV_SGCFG", 0x40A038, [], [
    ⟨"SGTO", 0, 16, .rw, .w, 1000, .any⟩]⟩,
  ⟨"GDRV_GFLT", 0x40A040, [], [
    ⟨"VALID", 0, 1, .w1c, .w, 0, .any⟩,
    ⟨"KIND", 1, 2, .ro, .w, 0, .any⟩,
    ⟨"SIDE", 3, 1, .ro, .w, 0, .any⟩,
    ⟨"HB", 4, 5, .ro, .w, 0, .any⟩,
    ⟨"COUNT", 9, 7, .ro, .w, 0, .any⟩,
    ⟨"TIME", 16, 32, .ro, .w, 0, .any⟩]⟩,
  ⟨"GDRV_STAT", 0x40A041, [], [
    ⟨"WREJ", 0, 1, .w1c, .w, 0, .any⟩,
    ⟨"CFGREJ", 1, 1, .w1c, .w, 0, .any⟩,
    ⟨"SGTOUT", 8, 8, .w1c, .w, 0, .any⟩,
    ⟨"SGDUP", 16, 16, .ro, .w, 0, .any⟩]⟩]

/-- Registers of block PROT, 0x40B000 (R815). -/
def regProt0 : List RegRow := [
  ⟨"PROTC_VDS", 0x40B000, [(16, 8)], [
    ⟨"VEN", 0, 1, .rw, .w, 1, .any⟩,
    ⟨"VTHH", 4, 5, .rw, .w, 31, .any⟩,
    ⟨"VTHL", 9, 5, .rw, .w, 31, .any⟩,
    ⟨"VBLK", 16, 10, .rw, .w, 120, .any⟩,
    ⟨"VFILT", 32, 10, .rw, .w, 23, .any⟩]⟩,
  ⟨"PROTC_OC", 0x40B001, [(16, 8)], [
    ⟨"OCEN", 0, 1, .rw, .w, 0, .any⟩,
    ⟨"POS", 1, 1, .rw, .w, 1, .any⟩,
    ⟨"NEG", 2, 1, .rw, .w, 0, .any⟩,
    ⟨"OCTH", 4, 8, .rw, .w, 255, (.range 1 255)⟩,
    ⟨"OCBLK", 16, 10, .rw, .w, 96, .any⟩,
    ⟨"OCFILT", 32, 10, .rw, .w, 11, .any⟩]⟩,
  ⟨"PROTC_REACT", 0x40B002, [(16, 8)], [
    ⟨"VDS", 0, 3, .rw, .w, 2, (.range 0 4)⟩,
    ⟨"OC", 3, 3, .rw, .w, 1, (.range 0 4)⟩,
    ⟨"GFLT", 6, 3, .rw, .w, 2, (.zeroOr 2 4)⟩,
    ⟨"OV", 9, 3, .rw, .w, 3, (.zeroOr 2 4)⟩,
    ⟨"UV", 12, 3, .rw, .w, 0, (.zeroOr 2 4)⟩,
    ⟨"THERM", 15, 3, .rw, .w, 2, (.zeroOr 2 4)⟩,
    ⟨"NTC", 18, 3, .rw, .w, 0, (.zeroOr 2 4)⟩,
    ⟨"CBCMAX", 24, 4, .rw, .w, 0, .any⟩]⟩,
  ⟨"PROTC_BLK", 0x40B003, [(16, 8)], [
    ⟨"WEN", 0, 8, .rw, .w, 0, .any⟩,
    ⟨"WVDS", 8, 1, .rw, .w, 0, .any⟩,
    ⟨"WOC", 9, 1, .rw, .w, 0, .any⟩]⟩,
  ⟨"PROTC_CLR", 0x40B004, [(16, 8)], [
    ⟨"CLR", 0, 1, .wo, .v, 0, .any⟩]⟩,
  ⟨"PROTC_FSTAT", 0x40B005, [(16, 8)], [
    ⟨"SRC", 1, 12, .ro, .w, 0, .any⟩]⟩,
  ⟨"PROTC_STAT", 0x40B006, [(16, 8)], [
    ⟨"ACT", 0, 3, .ro, .v, 0, .any⟩,
    ⟨"CBCCNT", 16, 16, .ro, .w, 0, .any⟩]⟩,
  ⟨"PROT_VBAT", 0x40B080, [], [
    ⟨"OVEN", 0, 1, .rw, .w, 1, .any⟩,
    ⟨"UVEN", 1, 1, .rw, .w, 1, .any⟩,
    ⟨"OVTH", 4, 4, .rw, .w, 4, (.range 0 14)⟩,
    ⟨"UVTH", 8, 4, .rw, .w, 0, .any⟩,
    ⟨"OVFILT", 16, 10, .rw, .w, 239, .any⟩,
    ⟨"UVFILT", 32, 10, .rw, .w, 239, .any⟩]⟩,
  ⟨"PROT_THERM", 0x40B081, [], [
    ⟨"DTH", 0, 4, .rw, .w, 9, (.range 0 13)⟩]⟩,
  ⟨"PROT_NTC", 0x40B084, [(1, 4)], [
    ⟨"NTCTH", 0, 16, .rw, .w, 0, .any⟩,
    ⟨"NTCOPEN", 16, 16, .rw, .w, 65535, .any⟩,
    ⟨"MAP", 32, 8, .rw, .w, 0, .any⟩,
    ⟨"NCNT", 40, 4, .rw, .w, 3, (.range 1 15)⟩,
    ⟨"EN", 44, 1, .rw, .w, 0, .any⟩]⟩,
  ⟨"PROT_FREC", 0x40B090, [], [
    ⟨"VALID", 0, 1, .w1c, .w, 0, .any⟩,
    ⟨"SRC", 1, 4, .ro, .w, 0, .any⟩,
    ⟨"COURSE", 5, 3, .ro, .w, 0, .any⟩,
    ⟨"HB", 8, 5, .ro, .w, 0, .any⟩,
    ⟨"COUNT", 16, 16, .ro, .w, 0, .any⟩]⟩,
  ⟨"PROT_FTIME", 0x40B091, [], [
    ⟨"T", 0, 48, .ro, .w, 0, .any⟩]⟩]

/-- Registers of block PROT, 0x40B000 (R815). -/
def regProt1 : List RegRow := [
  ⟨"PROT_FNEN", 0x40B092, [], [
    ⟨"EN", 1, 12, .rw, .w, 4095, .any⟩]⟩,
  ⟨"PROT_STAT", 0x40B093, [], [
    ⟨"WREJ", 0, 1, .w1c, .w, 0, .any⟩,
    ⟨"CLRREJ", 1, 1, .w1c, .w, 0, .any⟩,
    ⟨"NTCOPEN", 4, 4, .w1c, .w, 0, .any⟩,
    ⟨"NTCSTALE", 8, 4, .w1c, .w, 0, .any⟩]⟩]

/-- Registers of block PROT (R815). -/
def regProt : List RegRow := regProt0 ++ regProt1

/-- Registers of block FADC, 0x40C000 (R815). -/
def regFadc0 : List RegRow := [
  ⟨"FADC_CTL", 0x40C000, [], [
    ⟨"EN", 0, 1, .rw, .w, 0, .any⟩,
    ⟨"QDCLR", 1, 1, .wo, .v, 0, .any⟩]⟩,
  ⟨"FADC_STAT", 0x40C001, [], [
    ⟨"RDY", 0, 1, .ro, .v, 0, .any⟩,
    ⟨"CALHOLD", 1, 1, .ro, .v, 0, .any⟩,
    ⟨"NOROUTE", 2, 1, .w1c, .w, 0, .any⟩,
    ⟨"DIAGBAD", 3, 1, .w1c, .w, 0, .any⟩,
    ⟨"SPARE", 4, 3, .ro, .v, 0, .any⟩,
    ⟨"UREJ", 16, 16, .ro, .w, 0, .any⟩,
    ⟨"XMERGE", 32, 16, .ro, .w, 0, .any⟩]⟩,
  ⟨"FADC_SMASK", 0x40C002, [], [
    ⟨"MASK", 0, 48, .rw, .w, 0, .any⟩]⟩,
  ⟨"FADC_SCTL", 0x40C003, [], [
    ⟨"SMODE", 0, 2, .rw, .w, 0, .any⟩,
    ⟨"STRIG", 2, 3, .rw, .w, 0, .any⟩,
    ⟨"GO", 5, 1, .wo, .v, 0, .any⟩,
    ⟨"SRUN", 6, 1, .ro, .v, 0, .any⟩,
    ⟨"SSKIP", 16, 16, .ro, .w, 0, .any⟩]⟩,
  ⟨"FADC_AMP", 0x40C004, [], [
    ⟨"GAIN0", 0, 2, .rw, .w, 0, .any⟩,
    ⟨"GAIN1", 2, 2, .rw, .w, 0, .any⟩,
    ⟨"GAIN2", 4, 2, .rw, .w, 0, .any⟩,
    ⟨"GAIN3", 6, 2, .rw, .w, 0, .any⟩,
    ⟨"GAIN4", 8, 2, .rw, .w, 0, .any⟩,
    ⟨"GAIN5", 10, 2, .rw, .w, 0, .any⟩,
    ⟨"GAIN6", 12, 2, .rw, .w, 0, .any⟩,
    ⟨"GAIN7", 14, 2, .rw, .w, 0, .any⟩]⟩,
  ⟨"FADC_XEN", 0x40C005, [], [
    ⟨"EN", 0, 24, .rw, .w, 0, .any⟩,
    ⟨"EDGE", 24, 2, .rw, .w, 3, (.range 1 3)⟩]⟩,
  ⟨"FADC_DACOWN", 0x40C006, [], [
    ⟨"OWNER", 0, 8, .rw, .w, 0, .any⟩]⟩,
  ⟨"FADC_DAC", 0x40C007, [], [
    ⟨"CODE", 0, 10, .rw, .w, 0, .any⟩,
    ⟨"DIAGEN", 10, 1, .rw, .w, 0, .any⟩,
    ⟨"DIAGCH", 16, 6, .rw, .w, 0, .any⟩]⟩,
  ⟨"FADC_UMASK0", 0x40C008, [], [
    ⟨"MASK", 0, 48, .rw, .w, 1, .any⟩]⟩,
  ⟨"FADC_UMASK1", 0x40C009, [], [
    ⟨"MASK", 0, 48, .rw, .w, 2, .any⟩]⟩,
  ⟨"FADC_UMASK2", 0x40C00A, [], [
    ⟨"MASK", 0, 48, .rw, .w, 4, .any⟩]⟩,
  ⟨"FADC_UMASK3", 0x40C00B, [], [
    ⟨"MASK", 0, 48, .rw, .w, 8, .any⟩]⟩]

/-- Registers of block FADC, 0x40C000 (R815). -/
def regFadc1 : List RegRow := [
  ⟨"FADC_UMASK4", 0x40C00C, [], [
    ⟨"MASK", 0, 48, .rw, .w, 16, .any⟩]⟩,
  ⟨"FADC_UMASK5", 0x40C00D, [], [
    ⟨"MASK", 0, 48, .rw, .w, 32, .any⟩]⟩,
  ⟨"FADC_UMASK6", 0x40C00E, [], [
    ⟨"MASK", 0, 48, .rw, .w, 64, .any⟩]⟩,
  ⟨"FADC_UMASK7", 0x40C00F, [], [
    ⟨"MASK", 0, 48, .rw, .w, 128, .any⟩]⟩,
  ⟨"FADC_QCFG", 0x40C010, [], [
    ⟨"THR", 0, 9, .rw, .w, 64, (.range 1 256)⟩]⟩,
  ⟨"FADC_QSTAT", 0x40C011, [], [
    ⟨"LEVEL", 0, 9, .ro, .s, 0, .any⟩,
    ⟨"PLEVEL", 16, 9, .ro, .s, 0, .any⟩]⟩,
  ⟨"FADC_QPOP", 0x40C012, [], [
    ⟨"ENTRY", 0, 48, .ro, .v, 281474976710655, .any⟩]⟩,
  ⟨"FADC_QPEEK", 0x40C013, [], [
    ⟨"ENTRY", 0, 48, .ro, .v, 281474976710655, .any⟩]⟩,
  ⟨"FADC_QDROP", 0x40C014, [], [
    ⟨"COUNT", 0, 48, .ro, .a, 0, .any⟩]⟩,
  ⟨"FADC_DROPTOT", 0x40C015, [], [
    ⟨"N", 0, 48, .ro, .a, 0, .any⟩]⟩,
  ⟨"FADC_DONE", 0x40C016, [], [
    ⟨"N", 0, 48, .ro, .a, 0, .any⟩]⟩,
  ⟨"FADC_DELIV", 0x40C017, [], [
    ⟨"N", 0, 48, .ro, .a, 0, .any⟩]⟩]

/-- Registers of block FADC, 0x40C000 (R815). -/
def regFadc2 : List RegRow := [
  ⟨"FADC_COEF", 0x40C018, [(1, 5)], [
    ⟨"OFS", 0, 10, .ro, .s, 0, .any⟩,
    ⟨"GAIN", 16, 16, .ro, .s, 0, .any⟩,
    ⟨"SKEW", 32, 7, .ro, .s, 0, .any⟩]⟩,
  ⟨"FADC_ROUTE", 0x40C020, [(1, 16)], [
    ⟨"ROUTE0", 0, 9, .rw, .w, 1, .any⟩,
    ⟨"ROUTE1", 12, 9, .rw, .w, 1, .any⟩,
    ⟨"ROUTE2", 24, 9, .rw, .w, 1, .any⟩,
    ⟨"ROUTE3", 36, 9, .rw, .w, 1, .any⟩]⟩]

/-- Registers of block FADC (R815). -/
def regFadc : List RegRow := regFadc0 ++ regFadc1 ++ regFadc2

/-- Registers of block ICONV, 0x40D000 (R815). -/
def regIconv0 : List RegRow := [
  ⟨"ICONV_IC0CFG", 0x40D000, [], [
    ⟨"EN", 0, 1, .rw, .w, 0, .any⟩,
    ⟨"REN", 1, 1, .rw, .w, 1, .any⟩,
    ⟨"BEN", 2, 1, .rw, .w, 0, .any⟩,
    ⟨"WMODE", 4, 1, .rw, .w, 1, .any⟩,
    ⟨"WCRS", 5, 3, .rw, .w, 0, .any⟩,
    ⟨"WDIV", 8, 4, .rw, .w, 0, .any⟩,
    ⟨"WLEN", 12, 19, .rw, .w, 50000, (.range 16 524287)⟩]⟩,
  ⟨"ICONV_IC1CFG", 0x40D001, [], [
    ⟨"EN", 0, 1, .rw, .w, 0, .any⟩,
    ⟨"CONT", 1, 1, .rw, .w, 1, .any⟩,
    ⟨"GO", 2, 1, .wo, .v, 0, .any⟩,
    ⟨"WMODE", 4, 1, .rw, .w, 0, .any⟩,
    ⟨"WCRS", 5, 3, .rw, .w, 0, .any⟩,
    ⟨"WDIV", 8, 4, .rw, .w, 0, .any⟩,
    ⟨"WLEN", 12, 19, .rw, .w, 50000, (.range 16 524287)⟩,
    ⟨"SETTLE", 31, 8, .rw, .w, 16, .any⟩]⟩,
  ⟨"ICONV_IC1MASK", 0x40D002, [], [
    ⟨"CODEL", 4, 7, .rw, .w, 0, .any⟩,
    ⟨"CODEH", 12, 4, .rw, .w, 0, .any⟩]⟩,
  ⟨"ICONV_STAT", 0x40D003, [], [
    ⟨"CHG_GAP", 0, 1, .w1c, .n, 1, .any⟩,
    ⟨"GAPSRC", 1, 3, .ro, .a, 5, .any⟩,
    ⟨"IC1BUSY", 4, 1, .ro, .v, 0, .any⟩,
    ⟨"ORR", 5, 1, .w1c, .w, 0, .any⟩,
    ⟨"ORB", 6, 1, .w1c, .w, 0, .any⟩,
    ⟨"CFGREJ", 7, 1, .w1c, .w, 0, .any⟩]⟩,
  ⟨"ICONV_QRSV", 0x40D004, [], [
    ⟨"Q", 0, 48, .ro, .a, 0, .any⟩]⟩,
  ⟨"ICONV_QBAT", 0x40D005, [], [
    ⟨"Q", 0, 48, .ro, .a, 0, .any⟩]⟩,
  ⟨"ICONV_QLOADR", 0x40D006, [], [
    ⟨"Q", 0, 48, .wo, .v, 0, .any⟩]⟩,
  ⟨"ICONV_QLOADB", 0x40D007, [], [
    ⟨"Q", 0, 48, .wo, .v, 0, .any⟩]⟩,
  ⟨"ICONV_LPQR", 0x40D008, [], [
    ⟨"Q", 0, 48, .ro, .w, 0, .any⟩]⟩,
  ⟨"ICONV_LPQB", 0x40D009, [], [
    ⟨"Q", 0, 48, .ro, .w, 0, .any⟩]⟩,
  ⟨"ICONV_TST", 0x40D00A, [], [
    ⟨"EN", 0, 1, .rw, .w, 0, .any⟩,
    ⟨"TGT", 1, 2, .rw, .w, 2, (.range 0 2)⟩]⟩,
  ⟨"ICONV_CALR", 0x40D00B, [], [
    ⟨"STEP", 0, 32, .ro, .n, 0, .any⟩]⟩]

/-- Registers of block ICONV, 0x40D000 (R815). -/
def regIconv1 : List RegRow := [
  ⟨"ICONV_CALB", 0x40D00C, [], [
    ⟨"STEP", 0, 32, .ro, .n, 0, .any⟩]⟩,
  ⟨"ICONV_RES", 0x40D010, [(1, 16)], [
    ⟨"RES", 0, 20, .ro, .v, 0, .any⟩,
    ⟨"N", 20, 19, .ro, .v, 0, .any⟩,
    ⟨"FLAGS", 39, 4, .ro, .v, 0, .any⟩]⟩]

/-- Registers of block ICONV (R815). -/
def regIconv : List RegRow := regIconv0 ++ regIconv1

/-- Registers of block FILT, 0x40E000 (R815). -/
def regFilt0 : List RegRow := [
  ⟨"FE_CFG", 0x40E000, [(32, 4)], [
    ⟨"EN", 0, 1, .rw, .s, 0, .any⟩,
    ⟨"MODE", 1, 1, .rw, .w, 0, .any⟩,
    ⟨"ICLS", 2, 1, .rw, .w, 0, .any⟩,
    ⟨"GAPRST", 3, 1, .rw, .w, 0, .any⟩,
    ⟨"ICHAN", 4, 6, .rw, .w, 0, .any⟩,
    ⟨"NTAPS", 10, 9, .rw, .w, 1, (.range 1 384)⟩,
    ⟨"MALEN", 19, 12, .rw, .w, 0, .any⟩,
    ⟨"DEC", 31, 10, .rw, .w, 0, .any⟩,
    ⟨"OSH", 41, 5, .rw, .w, 23, .any⟩,
    ⟨"OBEN", 46, 1, .rw, .w, 0, .any⟩]⟩,
  ⟨"FE_IOFS", 0x40E001, [(32, 4)], [
    ⟨"IOFS", 0, 17, .rw, .w, 0, .any⟩]⟩,
  ⟨"FE_BANK", 0x40E002, [(32, 4)], [
    ⟨"ACT", 0, 1, .ro, .s, 0, .any⟩,
    ⟨"SWAP", 1, 1, .wo, .v, 0, .any⟩,
    ⟨"LOAD", 2, 1, .wo, .v, 0, .any⟩,
    ⟨"LDBUSY", 3, 1, .ro, .s, 0, .any⟩,
    ⟨"SWPEND", 4, 1, .ro, .s, 0, .any⟩,
    ⟨"AVALID", 5, 1, .ro, .s, 1, .any⟩,
    ⟨"BVALID", 6, 1, .ro, .s, 1, .any⟩,
    ⟨"LADDR", 8, 24, .rw, .w, 1048576, .any⟩,
    ⟨"LCNT", 32, 9, .rw, .w, 384, (.range 1 384)⟩]⟩,
  ⟨"FE_OBUF", 0x40E003, [(32, 4)], [
    ⟨"BASE", 0, 24, .rw, .w, 1048576, .any⟩,
    ⟨"LEN", 24, 16, .rw, .w, 64, (.range 1 65535)⟩]⟩,
  ⟨"FE_OWP", 0x40E004, [(32, 4)], [
    ⟨"COUNT", 0, 48, .ro, .s, 0, .any⟩]⟩,
  ⟨"FE_DCFG", 0x40E005, [(32, 4)], [
    ⟨"DSRC", 0, 1, .rw, .w, 0, .any⟩,
    ⟨"DSH", 1, 4, .rw, .w, 0, .any⟩,
    ⟨"DWIN", 16, 16, .rw, .w, 256, (.range 1 65535)⟩,
    ⟨"EVSEL", 32, 8, .rw, .w, 0, .any⟩]⟩,
  ⟨"FE_ENVK", 0x40E006, [(32, 4)], [
    ⟨"KATT", 0, 16, .rw, .w, 4096, .any⟩,
    ⟨"KREL", 16, 16, .rw, .w, 256, .any⟩]⟩,
  ⟨"FE_ETH", 0x40E007, [(32, 4)], [
    ⟨"ETHH", 0, 24, .rw, .w, 16777215, .any⟩,
    ⟨"ETHL", 24, 24, .rw, .w, 0, .any⟩]⟩,
  ⟨"FE_PTH", 0x40E008, [(32, 4)], [
    ⟨"PTH", 0, 24, .rw, .w, 16777215, .any⟩]⟩,
  ⟨"FE_Y", 0x40E009, [(32, 4)], [
    ⟨"Y", 0, 28, .ro, .s, 0, .any⟩,
    ⟨"TIME", 28, 20, .ro, .s, 0, .any⟩]⟩,
  ⟨"FE_PK", 0x40E00A, [(32, 4)], [
    ⟨"PMAX", 0, 24, .ro, .s, 0, .any⟩,
    ⟨"PMIN", 24, 24, .ro, .s, 0, .any⟩]⟩,
  ⟨"FE_RMS", 0x40E00B, [(32, 4)], [
    ⟨"RMS", 0, 24, .ro, .s, 0, .any⟩,
    ⟨"WCNT", 24, 24, .ro, .s, 0, .any⟩]⟩]

/-- Registers of block FILT, 0x40E000 (R815). -/
def regFilt1 : List RegRow := [
  ⟨"FE_ENV", 0x40E00C, [(32, 4)], [
    ⟨"ENV", 0, 24, .ro, .s, 0, .any⟩,
    ⟨"ABOVE", 24, 1, .ro, .s, 0, .any⟩]⟩,
  ⟨"FE_STAT", 0x40E00D, [(32, 4)], [
    ⟨"FULL", 0, 1, .ro, .s, 0, .any⟩,
    ⟨"CLIPIN", 1, 1, .w1c, .w, 0, .any⟩,
    ⟨"GAPIN", 2, 1, .w1c, .w, 0, .any⟩,
    ⟨"MEMERR", 3, 1, .w1c, .w, 0, .any⟩,
    ⟨"CFGREJ", 4, 1, .w1c, .w, 0, .any⟩,
    ⟨"BANKREJ", 5, 1, .w1c, .w, 0, .any⟩,
    ⟨"OSAT", 6, 1, .w1c, .w, 0, .any⟩,
    ⟨"STALL", 16, 16, .ro, .w, 0, .any⟩,
    ⟨"MISMATCH", 32, 16, .ro, .w, 0, .any⟩]⟩,
  ⟨"FE_EVSTAT", 0x40E00E, [(32, 4)], [
    ⟨"SRC", 0, 8, .w1c, .v, 0, .any⟩]⟩]

/-- Registers of block FILT (R815). -/
def regFilt : List RegRow := regFilt0 ++ regFilt1

/-- Registers of block ACQ, 0x40F000 (R815). -/
def regAcq0 : List RegRow := [
  ⟨"AQ_CFG", 0x40F000, [(32, 4)], [
    ⟨"EN", 0, 1, .rw, .s, 0, .any⟩,
    ⟨"MODE", 1, 1, .rw, .w, 0, .any⟩,
    ⟨"ICLS", 2, 1, .rw, .w, 0, .any⟩,
    ⟨"ICHAN", 4, 6, .rw, .w, 0, .any⟩,
    ⟨"SRC", 10, 2, .rw, .w, 0, .any⟩,
    ⟨"FEN", 12, 2, .rw, .w, 0, .any⟩,
    ⟨"AUTO", 14, 1, .rw, .w, 0, .any⟩,
    ⟨"REDF", 16, 12, .rw, .w, 255, (.range 1 4095)⟩,
    ⟨"EVSEL", 28, 4, .rw, .w, 0, .any⟩]⟩,
  ⟨"AQ_DEPTH", 0x40F001, [(32, 4)], [
    ⟨"PRE", 0, 16, .rw, .w, 0, .any⟩,
    ⟨"POST", 16, 16, .rw, .w, 0, .any⟩]⟩,
  ⟨"AQ_DESC", 0x40F002, [(32, 4)], [
    ⟨"ADDR", 0, 24, .rw, .w, 1048576, .any⟩]⟩,
  ⟨"AQ_CMD", 0x40F003, [(32, 4)], [
    ⟨"ARM", 0, 1, .wo, .v, 0, .any⟩,
    ⟨"STOP", 1, 1, .wo, .v, 0, .any⟩,
    ⟨"FORCE", 2, 1, .wo, .v, 0, .any⟩]⟩,
  ⟨"AQ_STAT", 0x40F004, [(32, 4)], [
    ⟨"STATE", 0, 2, .ro, .s, 0, .any⟩,
    ⟨"STAGE", 2, 1, .ro, .s, 0, .any⟩,
    ⟨"CFGREJ", 3, 1, .w1c, .w, 0, .any⟩,
    ⟨"ARMERR", 4, 1, .w1c, .w, 0, .any⟩,
    ⟨"MEMERR", 5, 1, .w1c, .w, 0, .any⟩,
    ⟨"SEQ", 16, 16, .ro, .w, 0, .any⟩,
    ⟨"STALL", 32, 8, .ro, .w, 0, .any⟩,
    ⟨"LOST", 40, 4, .ro, .w, 0, .any⟩,
    ⟨"MISMATCH", 44, 4, .ro, .w, 0, .any⟩]⟩,
  ⟨"AQ_TDT", 0x40F005, [(32, 4)], [
    ⟨"DT", 0, 48, .ro, .s, 0, .any⟩]⟩,
  ⟨"AQ_TPOS", 0x40F006, [(32, 4)], [
    ⟨"W2", 0, 48, .ro, .s, 0, .any⟩]⟩,
  ⟨"AQ_TCAUSE", 0x40F007, [(32, 4)], [
    ⟨"W3", 0, 48, .ro, .s, 0, .any⟩]⟩,
  ⟨"AQ_TAT", 0x40F008, [(32, 4)], [
    ⟨"DT", 0, 48, .rw, .w, 0, .any⟩]⟩,
  ⟨"AQ_MC", 0x40F009, [(32, 4)], [
    ⟨"GRP", 0, 1, .rw, .w, 0, .any⟩,
    ⟨"FOUT", 1, 1, .rw, .w, 0, .any⟩]⟩,
  ⟨"AQ_EVSTAT", 0x40F00A, [(32, 4)], [
    ⟨"SRC", 0, 4, .w1c, .v, 0, .any⟩]⟩,
  ⟨"AQ_COND", 0x40F010, [(32, 4), (1, 4)], [
    ⟨"KIND", 0, 4, .rw, .w, 0, (.range 0 8)⟩,
    ⟨"ACT", 4, 2, .rw, .w, 0, (.range 0 2)⟩,
    ⟨"GATE", 6, 1, .rw, .w, 0, .any⟩,
    ⟨"TH", 8, 28, .rw, .w, 0, .any⟩,
    ⟨"EVL", 36, 8, .rw, .w, 0, .any⟩]⟩]

/-- Registers of block ACQ, 0x40F000 (R815). -/
def regAcq1 : List RegRow := [
  ⟨"AQ_GARMAT", 0x40F080, [], [
    ⟨"DT", 0, 48, .rw, .w, 0, .any⟩]⟩,
  ⟨"AQ_GARM", 0x40F081, [], [
    ⟨"GO", 0, 1, .wo, .v, 0, .any⟩]⟩,
  ⟨"AQ_FIRESTAT", 0x40F082, [], [
    ⟨"VALID", 0, 4, .w1c, .w, 0, .any⟩,
    ⟨"CAUSE", 4, 2, .ro, .w, 0, .any⟩,
    ⟨"MULTI", 6, 1, .ro, .w, 0, .any⟩]⟩,
  ⟨"AQ_MCSTAT", 0x40F083, [], [
    ⟨"LATEARM", 0, 1, .w1c, .w, 0, .any⟩,
    ⟨"GREJ", 1, 1, .w1c, .w, 0, .any⟩]⟩,
  ⟨"AQ_FIRET", 0x40F084, [(1, 4)], [
    ⟨"DT", 0, 48, .ro, .w, 0, .any⟩]⟩]

/-- Registers of block ACQ (R815). -/
def regAcq : List RegRow := regAcq0 ++ regAcq1

/-- Registers of block POS, 0x410000 (R815). -/
def regPos0 : List RegRow := [
  ⟨"POS_CFG", 0x410000, [(16, 8)], [
    ⟨"EN", 0, 1, .rw, .n, 0, .any⟩,
    ⟨"DIR", 1, 1, .rw, .n, 0, .any⟩,
    ⟨"HPOL", 4, 3, .rw, .n, 0, .any⟩,
    ⟨"HFILT", 8, 8, .rw, .n, 23, .any⟩,
    ⟨"EVT", 16, 1, .rw, .n, 0, .any⟩,
    ⟨"EVE", 17, 1, .rw, .n, 0, .any⟩]⟩,
  ⟨"POS_CNT", 0x410001, [(16, 8)], [
    ⟨"COUNT", 0, 48, .ro, .a, 0, .any⟩]⟩,
  ⟨"POS_SET", 0x410002, [(16, 8)], [
    ⟨"VALUE", 0, 48, .wo, .v, 0, .any⟩]⟩,
  ⟨"POS_ADD", 0x410003, [(16, 8)], [
    ⟨"DELTA", 0, 48, .wo, .v, 0, .any⟩]⟩,
  ⟨"POS_STAT", 0x410004, [(16, 8)], [
    ⟨"UNC", 0, 1, .w1c, .n, 0, .any⟩,
    ⟨"UNCSRC", 1, 3, .ro, .n, 0, .any⟩,
    ⟨"HSTATE", 4, 3, .ro, .v, 0, .any⟩,
    ⟨"SECT", 7, 3, .ro, .v, 7, .any⟩,
    ⟨"HINV", 10, 1, .w1c, .w, 0, .any⟩,
    ⟨"PWRREF", 11, 1, .w1c, .a, 1, .any⟩,
    ⟨"LDHIT", 12, 1, .w1c, .w, 0, .any⟩,
    ⟨"WREJ", 13, 1, .w1c, .w, 0, .any⟩,
    ⟨"HINVCNT", 16, 16, .ro, .w, 0, .any⟩,
    ⟨"SKIPCNT", 32, 16, .ro, .w, 0, .any⟩]⟩,
  ⟨"POS_LAST", 0x410005, [(16, 8)], [
    ⟨"T", 0, 48, .ro, .a, 0, .any⟩]⟩,
  ⟨"POS_TINT", 0x410006, [(16, 8)], [
    ⟨"INT", 0, 40, .ro, .a, 0, .any⟩,
    ⟨"DIR", 40, 1, .ro, .a, 0, .any⟩,
    ⟨"LP", 41, 1, .ro, .a, 0, .any⟩,
    ⟨"VALID", 42, 1, .ro, .a, 0, .any⟩]⟩,
  ⟨"POS_LPD", 0x410007, [(16, 8)], [
    ⟨"DELTA", 0, 24, .ro, .w, 0, .any⟩]⟩,
  ⟨"TC_CFG", 0x410100, [(16, 16)], [
    ⟨"EN", 0, 1, .rw, .w, 0, .any⟩,
    ⟨"MODE", 1, 1, .rw, .w, 0, .any⟩,
    ⟨"SEDGE", 2, 2, .rw, .w, 1, (.range 1 3)⟩,
    ⟨"PEDGE", 4, 2, .rw, .w, 1, (.range 1 3)⟩,
    ⟨"CHAIN", 6, 1, .rw, .w, 0, .any⟩,
    ⟨"SUBDIS", 7, 1, .rw, .w, 0, .any⟩,
    ⟨"SRC", 8, 7, .rw, .w, 0, (.range 0 98)⟩,
    ⟨"PSRC", 16, 7, .rw, .w, 0, (.range 0 98)⟩,
    ⟨"EVEN", 24, 1, .rw, .w, 0, .any⟩]⟩,
  ⟨"TC_POP", 0x410101, [(16, 16)], [
    ⟨"DT", 0, 48, .ro, .v, 281474976710655, .any⟩]⟩,
  ⟨"TC_AUX", 0x410102, [(16, 16)], [
    ⟨"W1", 0, 48, .ro, .v, 0, .any⟩]⟩,
  ⟨"TC_STAT", 0x410103, [(16, 16)], [
    ⟨"LEVEL", 0, 4, .ro, .s, 0, .any⟩,
    ⟨"OPEN", 4, 1, .ro, .v, 0, .any⟩,
    ⟨"OVR", 8, 16, .ro, .w, 0, .any⟩,
    ⟨"COARSE", 24, 24, .ro, .w, 0, .any⟩]⟩]

/-- Registers of block POS, 0x410000 (R815). -/
def regPos1 : List RegRow := [
  ⟨"TC_CNT", 0x410104, [(16, 16)], [
    ⟨"ORPHAN", 0, 16, .ro, .w, 0, .any⟩,
    ⟨"RESTART", 16, 16, .ro, .w, 0, .any⟩,
    ⟨"SUBCNT", 32, 16, .ro, .w, 0, .any⟩]⟩]

/-- Registers of block POS (R815). -/
def regPos : List RegRow := regPos0 ++ regPos1

/-- Registers of block RSV, 0x411000 (R815). -/
def regRsv : List RegRow := [
  ⟨"RSV_CFG", 0x411000, [], [
    ⟨"EN", 0, 1, .rw, .w, 0, .any⟩,
    ⟨"NCELL", 1, 2, .rw, .w, 2, (.range 0 2)⟩]⟩,
  ⟨"RSV_CHG", 0x411001, [], [
    ⟨"MODE", 0, 2, .rw, .w, 0, (.range 0 1)⟩,
    ⟨"ICHGV", 2, 8, .rw, .w, 40, (.range 1 255)⟩,
    ⟨"VCTGT", 10, 9, .rw, .w, 250, .any⟩,
    ⟨"VRHYS", 19, 8, .rw, .w, 10, .any⟩]⟩,
  ⟨"RSV_LIM", 0x411002, [], [
    ⟨"VCMAX", 0, 9, .rw, .w, 270, .any⟩,
    ⟨"VCMIN", 9, 9, .rw, .w, 50, .any⟩,
    ⟨"SUMTH", 18, 8, .rw, .w, 50, .any⟩,
    ⟨"BALTH", 26, 8, .rw, .w, 20, .any⟩,
    ⟨"BALEN", 34, 1, .rw, .w, 0, .any⟩,
    ⟨"BALPAUSE", 35, 1, .rw, .w, 1, .any⟩]⟩,
  ⟨"RSV_OWCFG", 0x411003, [], [
    ⟨"GO", 0, 1, .wo, .v, 0, .any⟩,
    ⟨"OWSET", 1, 8, .rw, .w, 5, (.range 1 255)⟩,
    ⟨"OWLO", 9, 9, .rw, .w, 20, .any⟩,
    ⟨"OWHI", 18, 9, .rw, .w, 300, .any⟩]⟩,
  ⟨"RSV_OWRES", 0x411004, [], [
    ⟨"BUSY", 18, 1, .ro, .v, 0, .any⟩,
    ⟨"VALID", 19, 1, .w1c, .w, 0, .any⟩,
    ⟨"PIN0", 0, 2, .ro, .w, 0, .any⟩,
    ⟨"PIN1", 2, 2, .ro, .w, 0, .any⟩,
    ⟨"PIN2", 4, 2, .ro, .w, 0, .any⟩,
    ⟨"PIN3", 6, 2, .ro, .w, 0, .any⟩,
    ⟨"PIN4", 8, 2, .ro, .w, 0, .any⟩,
    ⟨"CELL0", 10, 2, .ro, .w, 0, .any⟩,
    ⟨"CELL1", 12, 2, .ro, .w, 0, .any⟩,
    ⟨"CELL2", 14, 2, .ro, .w, 0, .any⟩,
    ⟨"CELL3", 16, 2, .ro, .w, 0, .any⟩]⟩,
  ⟨"RSV_OWMV", 0x411005, [], [
    ⟨"DELTA0", 0, 9, .ro, .w, 0, .any⟩,
    ⟨"DELTA1", 9, 9, .ro, .w, 0, .any⟩,
    ⟨"DELTA2", 18, 9, .ro, .w, 0, .any⟩,
    ⟨"DELTA3", 27, 9, .ro, .w, 0, .any⟩,
    ⟨"DELTA4", 36, 9, .ro, .w, 0, .any⟩]⟩,
  ⟨"RSV_STAT", 0x411006, [], [
    ⟨"CHGST", 0, 2, .ro, .v, 0, .any⟩,
    ⟨"OVC", 2, 4, .w1c, .w, 0, .any⟩,
    ⟨"UVC", 6, 4, .w1c, .w, 0, .any⟩,
    ⟨"SUMERR", 10, 1, .w1c, .w, 0, .any⟩,
    ⟨"BALON", 11, 4, .ro, .v, 0, .any⟩,
    ⟨"CFGREJ", 15, 1, .w1c, .w, 0, .any⟩]⟩,
  ⟨"RSV_SDCFG", 0x411007, [], [
    ⟨"S2MAX", 0, 6, .rw, .w, 50, (.range 0 50)⟩,
    ⟨"RCRS", 6, 8, .rw, .w, 0, .any⟩,
    ⟨"S5", 14, 1, .rw, .w, 0, .any⟩,
    ⟨"S4DOZE", 15, 1, .rw, .w, 0, .any⟩,
    ⟨"TRSV", 16, 16, .rw, .w, 0, .any⟩,
    ⟨"VEND", 32, 8, .rw, .w, 70, .any⟩]⟩,
  ⟨"RSV_SDCTL", 0x411008, [], [
    ⟨"CONN", 0, 1, .rw, .v, 0, .any⟩]⟩,
  ⟨"RSV_SDSTAT", 0x411009, [], [
    ⟨"STEP", 0, 3, .ro, .w, 0, .any⟩,
    ⟨"RESULT", 3, 3, .ro, .w, 0, .any⟩,
    ⟨"COMMIT", 6, 1, .ro, .w, 0, .any⟩,
    ⟨"FORCED", 7, 1, .ro, .w, 0, .any⟩,
    ⟨"TS3", 8, 24, .ro, .w, 0, .any⟩]⟩,
  ⟨"RSV_SDTIME", 0x41100A, [], [
    ⟨"T", 0, 48, .ro, .w, 0, .any⟩]⟩]

/-- Registers of block HSP, 0x412000 (R815). -/
def regHsp : List RegRow := [
  ⟨"HSP_CTL", 0x412000, [], [
    ⟨"ATTN", 0, 1, .rw, .w, 0, .any⟩,
    ⟨"EVEN", 1, 1, .rw, .w, 0, .any⟩]⟩,
  ⟨"HSP_STAT", 0x412001, [], [
    ⟨"FCNT", 0, 4, .ro, .s, 0, .any⟩,
    ⟨"RES", 4, 3, .ro, .s, 6, .any⟩,
    ⟨"LASTOP", 8, 4, .ro, .s, 0, .any⟩,
    ⟨"FRAMES", 16, 16, .ro, .w, 0, .any⟩,
    ⟨"POLLS", 32, 16, .ro, .w, 0, .any⟩]⟩,
  ⟨"HSP_TOKEN", 0x412002, [], [
    ⟨"TOK", 0, 4, .ro, .s, 0, .any⟩,
    ⟨"VALID", 4, 1, .ro, .s, 0, .any⟩,
    ⟨"DUP", 8, 16, .ro, .w, 0, .any⟩]⟩,
  ⟨"HSP_STW", 0x412003, [], [
    ⟨"NEXT", 0, 24, .ro, .s, 0, .any⟩,
    ⟨"DISC", 24, 16, .ro, .w, 0, .any⟩,
    ⟨"OVR", 40, 8, .ro, .w, 0, .any⟩]⟩]

/-- Registers of block XSP, 0x413000 (R815). -/
def regXsp : List RegRow := [
  ⟨"XSP_CTL", 0x413000, [], [
    ⟨"INV", 0, 1, .wo, .v, 0, .any⟩,
    ⟨"PFEN", 1, 1, .rw, .w, 1, .any⟩,
    ⟨"XSDLY", 2, 2, .rw, .w, 1, .any⟩,
    ⟨"EVEN", 4, 1, .rw, .w, 0, .any⟩,
    ⟨"SZ", 8, 5, .rw, .w, 24, (.range 16 25)⟩]⟩,
  ⟨"XSP_XTPL", 0x413001, [], [
    ⟨"CMD", 0, 8, .rw, .s, 3, .any⟩,
    ⟨"CMDL", 8, 2, .rw, .s, 0, (.range 0 2)⟩,
    ⟨"ADDRB", 10, 2, .rw, .s, 2, (.range 2 3)⟩,
    ⟨"ADDRL", 12, 2, .rw, .s, 0, (.range 0 2)⟩,
    ⟨"DUMMY", 14, 5, .rw, .s, 0, .any⟩,
    ⟨"DATAL", 20, 2, .rw, .s, 0, (.range 0 2)⟩,
    ⟨"DIV", 22, 8, .rw, .s, 16, (.even 2 254)⟩]⟩,
  ⟨"XSP_XTO", 0x413002, [], [
    ⟨"TO", 0, 16, .rw, .w, 0, .any⟩]⟩,
  ⟨"XSP_LOCK", 0x413003, [], [
    ⟨"REQ", 0, 1, .wo, .v, 0, .any⟩,
    ⟨"REL", 1, 1, .wo, .v, 0, .any⟩,
    ⟨"HELD", 2, 1, .ro, .s, 0, .any⟩,
    ⟨"GRANT", 3, 1, .w1c, .s, 0, .any⟩]⟩,
  ⟨"XSP_SFCFG", 0x413004, [], [
    ⟨"SEL", 0, 7, .rw, .w, 0, (.zeroOr 64 111)⟩,
    ⟨"CMDEN", 7, 1, .rw, .w, 1, .any⟩,
    ⟨"CMDL", 8, 2, .rw, .w, 0, (.range 0 2)⟩,
    ⟨"ADDRB", 10, 2, .rw, .w, 0, (.zeroOr 2 3)⟩,
    ⟨"ADDRL", 12, 2, .rw, .w, 0, (.range 0 2)⟩,
    ⟨"DUMMY", 14, 5, .rw, .w, 0, .any⟩,
    ⟨"DATAL", 20, 2, .rw, .w, 0, (.range 0 2)⟩,
    ⟨"DIV", 22, 8, .rw, .w, 16, (.even 2 254)⟩,
    ⟨"DIR", 30, 1, .rw, .w, 0, .any⟩,
    ⟨"WRF", 31, 1, .rw, .w, 0, .any⟩]⟩,
  ⟨"XSP_SFCMD", 0x413005, [], [
    ⟨"CMD", 0, 8, .rw, .w, 0, .any⟩,
    ⟨"ADDR", 8, 32, .rw, .w, 0, .any⟩]⟩,
  ⟨"XSP_SFBUF", 0x413006, [], [
    ⟨"BUF", 0, 24, .rw, .w, 1048576, .any⟩,
    ⟨"LEN", 24, 16, .rw, .w, 0, .any⟩]⟩,
  ⟨"XSP_SFCTL", 0x413007, [], [
    ⟨"GO", 0, 1, .wo, .v, 0, .any⟩]⟩,
  ⟨"XSP_STAT", 0x413008, [], [
    ⟨"SFBUSY", 0, 1, .ro, .v, 0, .any⟩,
    ⟨"SFDONE", 1, 1, .w1c, .w, 0, .any⟩,
    ⟨"SFREJ", 2, 4, .ro, .w, 0, .any⟩,
    ⟨"VALID", 8, 8, .ro, .v, 0, .any⟩,
    ⟨"XERR", 16, 16, .ro, .w, 0, .any⟩,
    ⟨"MISS", 32, 16, .ro, .w, 0, .any⟩]⟩]

/-- Registers of block CAN, 0x414000 (R815). -/
def regCan0 : List RegRow := [
  ⟨"CAN_CTL", 0x414000, [], [
    ⟨"MODE", 0, 3, .rw, .s, 0, .any⟩,
    ⟨"AUTOREC", 3, 1, .rw, .w, 1, .any⟩,
    ⟨"RECOVER", 4, 1, .wo, .v, 0, .any⟩,
    ⟨"TXORD", 5, 1, .rw, .w, 0, .any⟩,
    ⟨"BODISC", 6, 1, .rw, .w, 0, .any⟩,
    ⟨"EVSEL", 8, 3, .rw, .w, 0, .any⟩,
    ⟨"RXCHK", 11, 2, .rw, .w, 0, .any⟩]⟩,
  ⟨"CAN_NBT", 0x414001, [], [
    ⟨"BRP", 0, 8, .rw, .w, 5, .any⟩,
    ⟨"TSEG1", 8, 8, .rw, .w, 62, .any⟩,
    ⟨"TSEG2", 16, 7, .rw, .w, 15, .any⟩,
    ⟨"SJW", 24, 7, .rw, .w, 15, .any⟩]⟩,
  ⟨"CAN_DBT", 0x414002, [], [
    ⟨"BRP", 0, 5, .rw, .w, 1, .any⟩,
    ⟨"TSEG1", 8, 6, .rw, .w, 46, .any⟩,
    ⟨"TSEG2", 16, 5, .rw, .w, 11, .any⟩,
    ⟨"SJW", 24, 5, .rw, .w, 11, .any⟩,
    ⟨"TDCEN", 29, 1, .rw, .w, 1, .any⟩,
    ⟨"TDCO", 32, 8, .rw, .w, 96, .any⟩]⟩,
  ⟨"CAN_STAT", 0x414003, [], [
    ⟨"STATE", 0, 2, .ro, .v, 0, .any⟩,
    ⟨"LEC", 19, 3, .ro, .v, 0, .any⟩,
    ⟨"PEXCNT", 24, 16, .ro, .w, 0, .any⟩,
    ⟨"TEC", 2, 9, .ro, .v, 0, .any⟩,
    ⟨"REC", 11, 8, .ro, .v, 0, .any⟩,
    ⟨"CFGREJ", 22, 1, .w1c, .w, 0, .any⟩,
    ⟨"PNERRWK", 23, 1, .w1c, .w, 0, .any⟩]⟩,
  ⟨"CAN_CNT", 0x414004, [], [
    ⟨"NOMATCH", 0, 16, .ro, .w, 0, .any⟩,
    ⟨"RXOVR", 16, 16, .ro, .w, 0, .any⟩,
    ⟨"BOCNT", 32, 16, .ro, .w, 0, .any⟩]⟩,
  ⟨"CAN_TXABORT", 0x414006, [], [
    ⟨"TB", 0, 8, .wo, .v, 0, .any⟩]⟩,
  ⟨"CAN_PN", 0x414040, [], [
    ⟨"ID", 0, 29, .rw, .a, 0, .any⟩,
    ⟨"IDE", 29, 1, .rw, .a, 0, .any⟩,
    ⟨"DLC", 30, 4, .rw, .a, 0, .any⟩,
    ⟨"RATE", 34, 2, .rw, .a, 0, .any⟩]⟩,
  ⟨"CAN_PNMSK", 0x414041, [], [
    ⟨"MASK", 0, 29, .rw, .a, 536870911, .any⟩]⟩,
  ⟨"CAN_PNDM0", 0x414042, [], [
    ⟨"M", 0, 48, .rw, .a, 0, .any⟩]⟩,
  ⟨"CAN_PNDM1", 0x414043, [], [
    ⟨"M", 0, 16, .rw, .a, 0, .any⟩]⟩,
  ⟨"CAN_WAKETX", 0x414045, [], [
    ⟨"GO", 0, 1, .wo, .v, 0, .any⟩,
    ⟨"WUPF", 1, 1, .rw, .w, 0, .any⟩,
    ⟨"DESC", 24, 24, .rw, .w, 0, .any⟩]⟩,
  ⟨"CAN_RXR", 0x414008, [(1, 2)], [
    ⟨"BASE", 0, 24, .rw, .w, 1048576, .any⟩,
    ⟨"LEN", 24, 16, .rw, .w, 0, .any⟩]⟩]

/-- Registers of block CAN, 0x414000 (R815). -/
def regCan1 : List RegRow := [
  ⟨"CAN_RXWP", 0x41400A, [(1, 2)], [
    ⟨"COUNT", 0, 48, .ro, .s, 0, .any⟩]⟩,
  ⟨"CAN_RXRD", 0x41400C, [(1, 2)], [
    ⟨"COUNT", 0, 48, .rw, .s, 0, .any⟩]⟩,
  ⟨"CAN_TB_RES", 0x414010, [(1, 8)], [
    ⟨"RESULT", 0, 4, .ro, .s, 0, .any⟩,
    ⟨"TS", 8, 40, .ro, .s, 0, .any⟩]⟩,
  ⟨"CAN_FLT", 0x414020, [(2, 16)], [
    ⟨"ID", 0, 29, .rw, .w, 0, .any⟩,
    ⟨"IDE", 29, 1, .rw, .w, 0, .any⟩,
    ⟨"EN", 30, 1, .rw, .w, 0, .any⟩,
    ⟨"RING", 31, 1, .rw, .w, 0, .any⟩]⟩,
  ⟨"CAN_FMSK", 0x414021, [(2, 16)], [
    ⟨"MASK", 0, 29, .rw, .w, 536870911, .any⟩]⟩]

/-- Registers of block CAN (R815). -/
def regCan : List RegRow := regCan0 ++ regCan1

/-- Registers of block LIN, 0x415000 (R815). -/
def regLin : List RegRow := [
  ⟨"LIN_CTL", 0x415000, [], [
    ⟨"MODE", 0, 2, .rw, .s, 0, .any⟩,
    ⟨"DIV", 3, 18, .rw, .w, 12000, .any⟩,
    ⟨"EVSEL", 30, 3, .rw, .w, 0, .any⟩,
    ⟨"BRKLEN", 21, 3, .rw, .w, 0, .any⟩,
    ⟨"SYNCADJ", 24, 1, .rw, .w, 1, .any⟩,
    ⟨"WAKE", 25, 1, .wo, .v, 0, .any⟩,
    ⟨"WKLEN", 26, 4, .rw, .w, 3, .any⟩]⟩,
  ⟨"LIN_RXR", 0x415001, [], [
    ⟨"BASE", 0, 24, .rw, .w, 1048576, .any⟩,
    ⟨"LEN", 24, 16, .rw, .w, 0, .any⟩]⟩,
  ⟨"LIN_RXWP", 0x415002, [], [
    ⟨"COUNT", 0, 48, .ro, .s, 0, .any⟩]⟩,
  ⟨"LIN_IDMASK0", 0x415003, [], [
    ⟨"M", 0, 48, .rw, .w, 0, .any⟩]⟩,
  ⟨"LIN_IDMASK1", 0x415004, [], [
    ⟨"M", 0, 16, .rw, .w, 0, .any⟩]⟩,
  ⟨"LIN_TB_RES", 0x415008, [(1, 4)], [
    ⟨"RESULT", 0, 4, .ro, .s, 0, .any⟩,
    ⟨"TS", 8, 40, .ro, .s, 0, .any⟩]⟩]

/-- Registers of block LEDG, 0x416000 (R815). -/
def regLedg0 : List RegRow := [
  ⟨"LEDG_CFG", 0x416000, [], [
    ⟨"EN", 0, 1, .rw, .w, 0, .any⟩,
    ⟨"PFX", 6, 18, .rw, .w, 42432, .any⟩,
    ⟨"TXBUF", 24, 3, .rw, .w, 6, (.range 0 6)⟩,
    ⟨"LRQID", 32, 6, .rw, .w, 0, .any⟩,
    ⟨"LRPID", 40, 6, .rw, .w, 1, .any⟩]⟩,
  ⟨"LEDG_CRINIT", 0x416001, [], [
    ⟨"CR1", 0, 8, .rw, .n, 4, (.range 1 32)⟩,
    ⟨"CR2", 8, 8, .rw, .n, 4, (.range 1 32)⟩,
    ⟨"CR3", 16, 8, .rw, .n, 2, (.range 1 32)⟩]⟩,
  ⟨"LEDG_STAT", 0x416002, [], [
    ⟨"LOST", 0, 1, .w1c, .n, 0, .any⟩,
    ⟨"SEALED", 1, 1, .ro, .v, 0, .any⟩,
    ⟨"UNSYNC", 2, 13, .ro, .n, 0, .any⟩,
    ⟨"ENDREJ", 15, 1, .w1c, .w, 0, .any⟩]⟩,
  ⟨"LEDG_RQR", 0x416003, [], [
    ⟨"BASE", 0, 24, .rw, .w, 1048576, .any⟩,
    ⟨"LEN", 24, 16, .rw, .w, 0, .any⟩]⟩,
  ⟨"LEDG_RQWP", 0x416004, [], [
    ⟨"COUNT", 0, 48, .ro, .s, 0, .any⟩]⟩,
  ⟨"LEDG_RQRD", 0x416005, [], [
    ⟨"COUNT", 0, 48, .rw, .s, 0, .any⟩]⟩,
  ⟨"LEDG_STEP", 0x416006, [], [
    ⟨"SRC", 0, 4, .wo, .v, 0, .any⟩,
    ⟨"SEQ", 4, 16, .wo, .v, 0, .any⟩,
    ⟨"STEP", 20, 8, .wo, .v, 0, .any⟩,
    ⟨"COURSE", 28, 3, .wo, .v, 0, .any⟩,
    ⟨"CVAL", 31, 1, .wo, .v, 0, .any⟩]⟩,
  ⟨"LEDG_END", 0x416007, [], [
    ⟨"SRC", 0, 4, .wo, .v, 0, .any⟩,
    ⟨"SEQ", 4, 16, .wo, .v, 0, .any⟩,
    ⟨"KIND", 20, 2, .wo, .v, 0, .any⟩,
    ⟨"OUTCOME", 22, 16, .wo, .v, 0, .any⟩]⟩,
  ⟨"LEDG_QSEL", 0x416008, [], [
    ⟨"SRC", 0, 4, .rw, .w, 0, .any⟩,
    ⟨"SEQ", 4, 16, .rw, .w, 0, .any⟩,
    ⟨"CLS", 20, 2, .rw, .w, 0, .any⟩]⟩,
  ⟨"LEDG_CRCNT", 0x41600D, [], [
    ⟨"R", 0, 16, .ro, .v, 0, .any⟩,
    ⟨"C", 16, 16, .ro, .v, 0, .any⟩,
    ⟨"G", 32, 16, .ro, .v, 0, .any⟩]⟩,
  ⟨"LEDG_TBCFG", 0x416010, [], [
    ⟨"MASTER", 0, 1, .rw, .w, 0, .any⟩,
    ⟨"PER", 1, 16, .rw, .w, 1000, (.range 10 65535)⟩,
    ⟨"TMSRC", 17, 4, .rw, .w, 12, .any⟩]⟩,
  ⟨"LEDG_CNT", 0x416011, [], [
    ⟨"DUP", 0, 16, .ro, .w, 0, .any⟩,
    ⟨"STALE", 16, 16, .ro, .w, 0, .any⟩,
    ⟨"REJ", 32, 16, .ro, .w, 0, .any⟩]⟩]

/-- Registers of block LEDG, 0x416000 (R815). -/
def regLedg1 : List RegRow := [
  ⟨"LEDG_CNT2", 0x416012, [], [
    ⟨"TBMISS", 0, 16, .ro, .w, 0, .any⟩]⟩,
  ⟨"LEDG_QDATA", 0x416009, [(1, 4)], [
    ⟨"W", 0, 48, .ro, .v, 0, .any⟩]⟩]

/-- Registers of block LEDG (R815). -/
def regLedg : List RegRow := regLedg0 ++ regLedg1

/-- Registers of block PEER, 0x417000 (R815). -/
def regPeer0 : List RegRow := [
  ⟨"PEER_TWCFG", 0x417000, [], [
    ⟨"LAG", 0, 14, .rw, .n, 4800, (.range 2400 16383)⟩,
    ⟨"CKSRC", 14, 1, .rw, .n, 0, .any⟩,
    ⟨"CKPER", 16, 16, .rw, .n, 100, (.range 1 65535)⟩,
    ⟨"DIVPOL", 32, 2, .rw, .n, 0, .any⟩,
    ⟨"PAIRTO", 40, 8, .rw, .n, 100, (.range 1 255)⟩]⟩,
  ⟨"PEER_TWCMD", 0x417001, [], [
    ⟨"HANDOVER", 0, 1, .wo, .v, 0, .any⟩]⟩,
  ⟨"PEER_TWSTAT", 0x417002, [], [
    ⟨"STATE", 0, 3, .ro, .v, 0, .any⟩,
    ⟨"DIV", 3, 1, .w1c, .w, 0, .any⟩,
    ⟨"HBLOSS", 4, 1, .w1c, .w, 0, .any⟩,
    ⟨"JOVF", 5, 1, .w1c, .w, 0, .any⟩,
    ⟨"SHLOST", 6, 1, .w1c, .w, 0, .any⟩,
    ⟨"TAKEN", 7, 1, .w1c, .a, 0, .any⟩,
    ⟨"LINK", 8, 1, .ro, .v, 0, .any⟩,
    ⟨"DIVCNT", 16, 16, .ro, .w, 0, .any⟩]⟩,
  ⟨"PEER_TWTAKE", 0x417003, [], [
    ⟨"OFS", 0, 40, .ro, .a, 0, .any⟩,
    ⟨"TRIG", 40, 3, .ro, .a, 0, .any⟩]⟩,
  ⟨"PEER_TWPDT", 0x417004, [], [
    ⟨"T", 0, 48, .ro, .v, 0, .any⟩]⟩,
  ⟨"PEER_TWCNT", 0x417005, [], [
    ⟨"MISS", 0, 16, .ro, .w, 0, .any⟩,
    ⟨"RETX", 16, 16, .ro, .w, 0, .any⟩]⟩,
  ⟨"PEER_TWFILL", 0x417006, [], [
    ⟨"NOW", 0, 12, .ro, .v, 0, .any⟩,
    ⟨"MAX", 16, 12, .ro, .w, 0, .any⟩]⟩,
  ⟨"PEER_CSCFG", 0x417010, [], [
    ⟨"CHAINTO", 0, 8, .rw, .n, 100, (.range 1 255)⟩,
    ⟨"LOSSACT", 8, 1, .rw, .n, 0, .any⟩]⟩,
  ⟨"PEER_CSCMD", 0x417011, [], [
    ⟨"REALIGN", 0, 1, .wo, .v, 0, .any⟩]⟩,
  ⟨"PEER_CSSTAT", 0x417012, [], [
    ⟨"POS", 0, 2, .ro, .a, 0, .any⟩,
    ⟨"PRES", 4, 4, .ro, .v, 0, .any⟩,
    ⟨"ALIGNED", 8, 4, .ro, .v, 0, .any⟩,
    ⟨"LINKA", 12, 1, .ro, .v, 0, .any⟩,
    ⟨"LINKB", 13, 1, .ro, .v, 0, .any⟩,
    ⟨"LOST", 16, 4, .w1c, .w, 0, .any⟩,
    ⟨"RSVCREJ", 20, 1, .w1c, .w, 0, .any⟩]⟩,
  ⟨"PEER_CSCNT", 0x417013, [], [
    ⟨"CRCERR", 0, 16, .ro, .w, 0, .any⟩,
    ⟨"RETX", 16, 16, .ro, .w, 0, .any⟩]⟩,
  ⟨"PEER_CSMB", 0x417014, [(1, 4)], [
    ⟨"W", 0, 48, .rw, .w, 0, .any⟩]⟩]

/-- Registers of block PEER, 0x417000 (R815). -/
def regPeer1 : List RegRow := [
  ⟨"PEER_RSVCA", 0x417018, [], [
    ⟨"RA", 0, 48, .rw, .w, 0, .any⟩]⟩,
  ⟨"PEER_RSVCB", 0x417019, [], [
    ⟨"RB", 0, 48, .rw, .w, 0, .any⟩]⟩,
  ⟨"PEER_RSVCGO", 0x41701A, [], [
    ⟨"SVC", 0, 12, .wo, .v, 0, .any⟩,
    ⟨"TOK", 12, 4, .wo, .v, 0, .any⟩]⟩,
  ⟨"PEER_RSVCRES", 0x41701B, [], [
    ⟨"RES", 0, 48, .ro, .w, 0, .any⟩]⟩,
  ⟨"PEER_RSVCST", 0x41701C, [], [
    ⟨"DONE", 0, 1, .w1c, .w, 0, .any⟩,
    ⟨"BUSY", 1, 1, .ro, .v, 0, .any⟩,
    ⟨"TOK", 4, 4, .ro, .w, 0, .any⟩]⟩]

/-- Registers of block PEER (R815). -/
def regPeer : List RegRow := regPeer0 ++ regPeer1

/-- Registers of block GPIO, 0x418000 (R815). -/
def regGpio : List RegRow := [
  ⟨"GPIO_FUNC", 0x418000, [(1, 48)], [
    ⟨"FUNC", 0, 8, .rw, .w, 0, .any⟩,
    ⟨"OE", 8, 1, .rw, .s, 0, .any⟩,
    ⟨"OUT", 9, 1, .rw, .w, 0, .any⟩,
    ⟨"OD", 10, 1, .rw, .w, 0, .any⟩,
    ⟨"IN", 11, 1, .ro, .v, 0, .any⟩]⟩,
  ⟨"GPIO_IN", 0x418030, [], [
    ⟨"LEVEL", 0, 48, .ro, .v, 0, .any⟩]⟩]

/-- Registers of block DBG, 0x41F000 (R815). -/
def regDbg : List RegRow := [
  ⟨"DBG_CTL", 0x41F000, [], [
    ⟨"MHALT", 0, 1, .wo, .v, 0, .any⟩,
    ⟨"RESUME", 1, 1, .wo, .v, 0, .any⟩,
    ⟨"STEP", 2, 1, .wo, .v, 0, .any⟩,
    ⟨"SSTR", 8, 6, .wo, .v, 0, .any⟩]⟩,
  ⟨"DBG_SHALT0", 0x41F001, [], [
    ⟨"S", 0, 48, .rw, .v, 0, .any⟩]⟩,
  ⟨"DBG_SHALT1", 0x41F002, [], [
    ⟨"S", 0, 16, .rw, .v, 0, .any⟩]⟩,
  ⟨"DBG_STAT", 0x41F003, [], [
    ⟨"MH", 0, 1, .ro, .v, 0, .any⟩,
    ⟨"CAUSE", 1, 3, .ro, .v, 0, .any⟩,
    ⟨"BPHIT", 4, 4, .w1c, .v, 0, .any⟩,
    ⟨"UFAIL", 8, 2, .ro, .v, 0, .any⟩,
    ⟨"TROVR", 16, 16, .ro, .v, 0, .any⟩]⟩,
  ⟨"DBG_RSEL", 0x41F008, [], [
    ⟨"STRAND", 0, 6, .rw, .v, 0, .any⟩,
    ⟨"INDEX", 8, 6, .rw, .v, 0, (.range 0 37)⟩]⟩,
  ⟨"DBG_RDATA", 0x41F009, [], [
    ⟨"D", 0, 48, .rw, .v, 0, .any⟩]⟩,
  ⟨"DBG_TRCTL", 0x41F00A, [], [
    ⟨"EN", 0, 1, .rw, .v, 0, .any⟩,
    ⟨"KINDS", 1, 9, .rw, .v, 511, .any⟩]⟩,
  ⟨"DBG_TRPOP", 0x41F00B, [], [
    ⟨"E", 0, 48, .ro, .v, 281474976710655, .any⟩]⟩,
  ⟨"DBG_BP", 0x41F004, [(1, 4)], [
    ⟨"ADDR", 0, 24, .rw, .v, 0, .any⟩,
    ⟨"STRAND", 24, 6, .rw, .v, 0, .any⟩,
    ⟨"ANY", 30, 1, .rw, .v, 0, .any⟩,
    ⟨"EN", 31, 1, .rw, .v, 0, .any⟩,
    ⟨"KIND", 32, 2, .rw, .v, 0, .any⟩,
    ⟨"ACT", 34, 1, .rw, .v, 0, .any⟩]⟩]

/-- The rows of the 4096-word block that holds address a (R815). -/
def regBlock (a : Nat) : List RegRow :=
  match a / 0x1000 with
  | 0x400 => regSys
  | 0x401 => regTime
  | 0x402 => regPwr
  | 0x403 => regRst
  | 0x404 => regMem
  | 0x405 => regSch
  | 0x408 => regPwm
  | 0x409 => regPwmG
  | 0x40A => regGdrv
  | 0x40B => regProt
  | 0x40C => regFadc
  | 0x40D => regIconv
  | 0x40E => regFilt
  | 0x40F => regAcq
  | 0x410 => regPos
  | 0x411 => regRsv
  | 0x412 => regHsp
  | 0x413 => regXsp
  | 0x414 => regCan
  | 0x415 => regLin
  | 0x416 => regLedg
  | 0x417 => regPeer
  | 0x418 => regGpio
  | 0x41F => regDbg
  | _ => []

/-- The register at a word address of the peripheral region, none where the map lists no register (R815). -/
def regRow (a : Nat) : Option RegRow := (regBlock a).find? (fun r => r.has a)

end Sys2Proof.Machine
end

