-- ==== Sys2Proof/Machine/RegFields.lean ====
section
/-!
DEFINITION. Machine/RegFields.lean: the name of every register word (namespace RW) and of every register field (namespace
R) as an address with a bit range, from the register tables of the chapters of spec/ and R815. The names are the spec's,
with the index letters left out: PWMc_STAT.RUN is R.PWM_STAT_RUN c.
-/
namespace Sys2Proof.Machine

/-- A field of a register word: the word's address, its lowest bit, its width, and whether its access code is W1C (R16). -/
structure Fld where
  addr : Nat
  lo : Nat
  len : Nat
  w1c : Bool
  deriving DecidableEq, Repr

namespace RW
@[reducible] def SYS_ID : Nat := 0x400000
@[reducible] def SYS_GSTAT : Nat := 0x400010
@[reducible] def SYS_CONFLICT : Nat := 0x400011
@[reducible] def SYS_SVARR : Nat := 0x400020
@[reducible] def SYS_SVGLB : Nat := 0x400021
@[reducible] def SYS_SVQWP : Nat := 0x400022
@[reducible] def SYS_SVST (c : Nat) : Nat := 0x400028 + c
@[reducible] def SYS_SVCALL (k : Nat) : Nat := 0x400030 + k
@[reducible] def TIME_STAT : Nat := 0x401000
@[reducible] def TIME_CLKCTL : Nat := 0x401001
@[reducible] def TIME_DTIME : Nat := 0x401002
@[reducible] def TIME_NTIME : Nat := 0x401003
@[reducible] def TIME_NTAUX : Nat := 0x401004
@[reducible] def TIME_NTUNC : Nat := 0x401005
@[reducible] def TIME_NTCTL : Nat := 0x401006
@[reducible] def TIME_NTLIM : Nat := 0x401007
@[reducible] def TIME_RATE : Nat := 0x401008
@[reducible] def TIME_AOCAL : Nat := 0x401009
@[reducible] def TIME_LPERR : Nat := 0x40100A
@[reducible] def TIME_SYNC : Nat := 0x40100B
@[reducible] def TIME_CNT : Nat := 0x40100C
@[reducible] def PWR_STAT : Nat := 0x402000
@[reducible] def PWR_CTL : Nat := 0x402001
@[reducible] def PWR_LPCTL : Nat := 0x402002
@[reducible] def PWR_WAKEEN : Nat := 0x402003
@[reducible] def PWR_WAKECFG : Nat := 0x402004
@[reducible] def PWR_HALLLP : Nat := 0x402005
@[reducible] def PWR_WTIMER : Nat := 0x402006
@[reducible] def PWR_HSUP : Nat := 0x402007
@[reducible] def PWR_WAKEHALL : Nat := 0x402008
@[reducible] def PWR_VBATUV : Nat := 0x402009
@[reducible] def PWR_WLHDR : Nat := 0x402010
@[reducible] def PWR_WLE0 (k : Nat) : Nat := 0x402012 + 0x2 * k
@[reducible] def PWR_WLE1 (k : Nat) : Nat := 0x402013 + 0x2 * k
@[reducible] def PWR_RVCFG : Nat := 0x402020
@[reducible] def PWR_RVCOORD : Nat := 0x402021
@[reducible] def PWR_RVCMD : Nat := 0x402022
@[reducible] def PWR_RVCTL : Nat := 0x402023
@[reducible] def PWR_RVSTAT : Nat := 0x402024
@[reducible] def PWR_RVRES : Nat := 0x402025
@[reducible] def PWR_RVEND : Nat := 0x402026
@[reducible] def RST_STAT : Nat := 0x403000
@[reducible] def RST_CTL : Nat := 0x403001
@[reducible] def RST_STRAP : Nat := 0x403002
@[reducible] def RST_BOOTST : Nat := 0x403003
@[reducible] def RST_BOOTCFG : Nat := 0x403004
@[reducible] def RST_HOSTGO : Nat := 0x403005
@[reducible] def RST_KEYST : Nat := 0x403006
@[reducible] def MEM_ERRCNT : Nat := 0x404000
@[reducible] def MEM_ERRADDR : Nat := 0x404001
@[reducible] def MEM_SCRUB : Nat := 0x404002
@[reducible] def MEM_PSTAT : Nat := 0x404003
@[reducible] def MEM_WEAR : Nat := 0x404004
@[reducible] def MEM_JCTL : Nat := 0x404005
@[reducible] def MEM_JSEQ : Nat := 0x404006
@[reducible] def MEM_WOCTL : Nat := 0x404007
@[reducible] def MEM_WODATA (m : Nat) : Nat := 0x404008 + m
@[reducible] def MEM_CTL : Nat := 0x40400B
@[reducible] def MEM_FENCE (n : Nat) : Nat := 0x404010 + n
@[reducible] def SCH_STAT : Nat := 0x405000
@[reducible] def SCH_FRETMAP : Nat := 0x405001
@[reducible] def SCH_CNT : Nat := 0x405002
@[reducible] def SCH_EVSET : Nat := 0x405003
@[reducible] def SCH_WDCFG : Nat := 0x405008
@[reducible] def SCH_WDKICK : Nat := 0x405009
@[reducible] def SCH_WDSTAT : Nat := 0x40500A
@[reducible] def SCH_FLTSUM0 : Nat := 0x405010
@[reducible] def SCH_FLTSUM1 : Nat := 0x405011
@[reducible] def SCH_FLTCFG : Nat := 0x405012
@[reducible] def SCH_FLTSTAT : Nat := 0x405013
@[reducible] def SCH_FLOGSEQ : Nat := 0x405014
@[reducible] def SCH_SNAPHDR : Nat := 0x405600
@[reducible] def SCH_SNAPTIME : Nat := 0x405601
@[reducible] def SCH_S_STAT (s : Nat) : Nat := 0x405100 + 0x8 * s
@[reducible] def SCH_S_WMASK (s : Nat) (m : Nat) : Nat := 0x405101 + 0x8 * s + m
@[reducible] def SCH_S_PEND (s : Nat) (m : Nat) : Nat := 0x405300 + 0x8 * s + m
@[reducible] def SCH_S_FLT0 (s : Nat) : Nat := 0x405500 + 0x2 * s
@[reducible] def SCH_S_FLT1 (s : Nat) : Nat := 0x405501 + 0x2 * s
@[reducible] def SCH_SNAPE0 (k : Nat) : Nat := 0x405700 + 0x2 * k
@[reducible] def SCH_SNAPE1 (k : Nat) : Nat := 0x405701 + 0x2 * k
@[reducible] def PWM_CTL (c : Nat) : Nat := 0x408000 + 0x200 * c
@[reducible] def PWM_PER (c : Nat) : Nat := 0x408001 + 0x200 * c
@[reducible] def PWM_AUX (c : Nat) : Nat := 0x408005 + 0x200 * c
@[reducible] def PWM_AUXOWN (c : Nat) : Nat := 0x408006 + 0x200 * c
@[reducible] def PWM_DT (c : Nat) : Nat := 0x408007 + 0x200 * c
@[reducible] def PWM_MINP (c : Nat) : Nat := 0x408008 + 0x200 * c
@[reducible] def PWM_SYNC (c : Nat) : Nat := 0x408009 + 0x200 * c
@[reducible] def PWM_CNT (c : Nat) : Nat := 0x40800A + 0x200 * c
@[reducible] def PWM_STAT (c : Nat) : Nat := 0x40800B + 0x200 * c
@[reducible] def PWM_EVSTAT (c : Nat) : Nat := 0x40800C + 0x200 * c
@[reducible] def PWM_OUT (c : Nat) : Nat := 0x408010 + 0x200 * c
@[reducible] def PWM_MCFG (c : Nat) : Nat := 0x408011 + 0x200 * c
@[reducible] def PWM_MCMD (c : Nat) : Nat := 0x408012 + 0x200 * c
@[reducible] def PWM_MSTAT (c : Nat) : Nat := 0x408013 + 0x200 * c
@[reducible] def PWM_SSHUNT (c : Nat) : Nat := 0x40801C + 0x200 * c
@[reducible] def PWM_SSORD (c : Nat) : Nat := 0x40801D + 0x200 * c
@[reducible] def PWM_CMP (c : Nat) (k : Nat) : Nat := 0x408002 + 0x200 * c + k
@[reducible] def PWM_MTAB (c : Nat) (i : Nat) : Nat := 0x408014 + 0x200 * c + i
@[reducible] def PWM_GSTART : Nat := 0x409000
@[reducible] def PWM_GAT : Nat := 0x409001
@[reducible] def GDRV_DOM_CTL (d : Nat) : Nat := 0x40A000 + d
@[reducible] def GDRV_DOM_STAT (d : Nat) : Nat := 0x40A004 + d
@[reducible] def GDRV_SRC : Nat := 0x40A008
@[reducible] def GDRV_HB_CFG (h : Nat) : Nat := 0x40A010 + h
@[reducible] def GDRV_SGC (c : Nat) : Nat := 0x40A030 + c
@[reducible] def GDRV_SGCFG : Nat := 0x40A038
@[reducible] def GDRV_GFLT : Nat := 0x40A040
@[reducible] def GDRV_STAT : Nat := 0x40A041
@[reducible] def PROTC_VDS (c : Nat) : Nat := 0x40B000 + 0x10 * c
@[reducible] def PROTC_OC (c : Nat) : Nat := 0x40B001 + 0x10 * c
@[reducible] def PROTC_REACT (c : Nat) : Nat := 0x40B002 + 0x10 * c
@[reducible] def PROTC_BLK (c : Nat) : Nat := 0x40B003 + 0x10 * c
@[reducible] def PROTC_CLR (c : Nat) : Nat := 0x40B004 + 0x10 * c
@[reducible] def PROTC_FSTAT (c : Nat) : Nat := 0x40B005 + 0x10 * c
@[reducible] def PROTC_STAT (c : Nat) : Nat := 0x40B006 + 0x10 * c
@[reducible] def PROT_VBAT : Nat := 0x40B080
@[reducible] def PROT_THERM : Nat := 0x40B081
@[reducible] def PROT_NTC (k : Nat) : Nat := 0x40B084 + k
@[reducible] def PROT_FREC : Nat := 0x40B090
@[reducible] def PROT_FTIME : Nat := 0x40B091
@[reducible] def PROT_FNEN : Nat := 0x40B092
@[reducible] def PROT_STAT : Nat := 0x40B093
@[reducible] def FADC_CTL : Nat := 0x40C000
@[reducible] def FADC_STAT : Nat := 0x40C001
@[reducible] def FADC_SMASK : Nat := 0x40C002
@[reducible] def FADC_SCTL : Nat := 0x40C003
@[reducible] def FADC_AMP : Nat := 0x40C004
@[reducible] def FADC_XEN : Nat := 0x40C005
@[reducible] def FADC_DACOWN : Nat := 0x40C006
@[reducible] def FADC_DAC : Nat := 0x40C007
@[reducible] def FADC_UMASK (c : Nat) : Nat := 0x40C008 + c
@[reducible] def FADC_QCFG : Nat := 0x40C010
@[reducible] def FADC_QSTAT : Nat := 0x40C011
@[reducible] def FADC_QPOP : Nat := 0x40C012
@[reducible] def FADC_QPEEK : Nat := 0x40C013
@[reducible] def FADC_QDROP : Nat := 0x40C014
@[reducible] def FADC_DROPTOT : Nat := 0x40C015
@[reducible] def FADC_DONE : Nat := 0x40C016
@[reducible] def FADC_DELIV : Nat := 0x40C017
@[reducible] def FADC_COEF (k : Nat) : Nat := 0x40C018 + k
@[reducible] def FADC_ROUTE (r : Nat) : Nat := 0x40C020 + r
@[reducible] def ICONV_IC0CFG : Nat := 0x40D000
@[reducible] def ICONV_IC1CFG : Nat := 0x40D001
@[reducible] def ICONV_IC1MASK : Nat := 0x40D002
@[reducible] def ICONV_STAT : Nat := 0x40D003
@[reducible] def ICONV_QRSV : Nat := 0x40D004
@[reducible] def ICONV_QBAT : Nat := 0x40D005
@[reducible] def ICONV_QLOADR : Nat := 0x40D006
@[reducible] def ICONV_QLOADB : Nat := 0x40D007
@[reducible] def ICONV_LPQR : Nat := 0x40D008
@[reducible] def ICONV_LPQB : Nat := 0x40D009
@[reducible] def ICONV_TST : Nat := 0x40D00A
@[reducible] def ICONV_CALR : Nat := 0x40D00B
@[reducible] def ICONV_CALB : Nat := 0x40D00C
@[reducible] def ICONV_RES (j : Nat) : Nat := 0x40D010 + j
@[reducible] def FE_CFG (n : Nat) : Nat := 0x40E000 + 0x20 * n
@[reducible] def FE_IOFS (n : Nat) : Nat := 0x40E001 + 0x20 * n
@[reducible] def FE_BANK (n : Nat) : Nat := 0x40E002 + 0x20 * n
@[reducible] def FE_OBUF (n : Nat) : Nat := 0x40E003 + 0x20 * n
@[reducible] def FE_OWP (n : Nat) : Nat := 0x40E004 + 0x20 * n
@[reducible] def FE_DCFG (n : Nat) : Nat := 0x40E005 + 0x20 * n
@[reducible] def FE_ENVK (n : Nat) : Nat := 0x40E006 + 0x20 * n
@[reducible] def FE_ETH (n : Nat) : Nat := 0x40E007 + 0x20 * n
@[reducible] def FE_PTH (n : Nat) : Nat := 0x40E008 + 0x20 * n
@[reducible] def FE_Y (n : Nat) : Nat := 0x40E009 + 0x20 * n
@[reducible] def FE_PK (n : Nat) : Nat := 0x40E00A + 0x20 * n
@[reducible] def FE_RMS (n : Nat) : Nat := 0x40E00B + 0x20 * n
@[reducible] def FE_ENV (n : Nat) : Nat := 0x40E00C + 0x20 * n
@[reducible] def FE_STAT (n : Nat) : Nat := 0x40E00D + 0x20 * n
@[reducible] def FE_EVSTAT (n : Nat) : Nat := 0x40E00E + 0x20 * n
@[reducible] def AQ_CFG (n : Nat) : Nat := 0x40F000 + 0x20 * n
@[reducible] def AQ_DEPTH (n : Nat) : Nat := 0x40F001 + 0x20 * n
@[reducible] def AQ_DESC (n : Nat) : Nat := 0x40F002 + 0x20 * n
@[reducible] def AQ_CMD (n : Nat) : Nat := 0x40F003 + 0x20 * n
@[reducible] def AQ_STAT (n : Nat) : Nat := 0x40F004 + 0x20 * n
@[reducible] def AQ_TDT (n : Nat) : Nat := 0x40F005 + 0x20 * n
@[reducible] def AQ_TPOS (n : Nat) : Nat := 0x40F006 + 0x20 * n
@[reducible] def AQ_TCAUSE (n : Nat) : Nat := 0x40F007 + 0x20 * n
@[reducible] def AQ_TAT (n : Nat) : Nat := 0x40F008 + 0x20 * n
@[reducible] def AQ_MC (n : Nat) : Nat := 0x40F009 + 0x20 * n
@[reducible] def AQ_EVSTAT (n : Nat) : Nat := 0x40F00A + 0x20 * n
@[reducible] def AQ_COND (n : Nat) (k : Nat) : Nat := 0x40F010 + 0x20 * n + k
@[reducible] def AQ_GARMAT : Nat := 0x40F080
@[reducible] def AQ_GARM : Nat := 0x40F081
@[reducible] def AQ_FIRESTAT : Nat := 0x40F082
@[reducible] def AQ_MCSTAT : Nat := 0x40F083
@[reducible] def AQ_FIRET (p : Nat) : Nat := 0x40F084 + p
@[reducible] def POS_CFG (c : Nat) : Nat := 0x410000 + 0x10 * c
@[reducible] def POS_CNT (c : Nat) : Nat := 0x410001 + 0x10 * c
@[reducible] def POS_SET (c : Nat) : Nat := 0x410002 + 0x10 * c
@[reducible] def POS_ADD (c : Nat) : Nat := 0x410003 + 0x10 * c
@[reducible] def POS_STAT (c : Nat) : Nat := 0x410004 + 0x10 * c
@[reducible] def POS_LAST (c : Nat) : Nat := 0x410005 + 0x10 * c
@[reducible] def POS_TINT (c : Nat) : Nat := 0x410006 + 0x10 * c
@[reducible] def POS_LPD (c : Nat) : Nat := 0x410007 + 0x10 * c
@[reducible] def TC_CFG (n : Nat) : Nat := 0x410100 + 0x10 * n
@[reducible] def TC_POP (n : Nat) : Nat := 0x410101 + 0x10 * n
@[reducible] def TC_AUX (n : Nat) : Nat := 0x410102 + 0x10 * n
@[reducible] def TC_STAT (n : Nat) : Nat := 0x410103 + 0x10 * n
@[reducible] def TC_CNT (n : Nat) : Nat := 0x410104 + 0x10 * n
@[reducible] def RSV_CFG : Nat := 0x411000
@[reducible] def RSV_CHG : Nat := 0x411001
@[reducible] def RSV_LIM : Nat := 0x411002
@[reducible] def RSV_OWCFG : Nat := 0x411003
@[reducible] def RSV_OWRES : Nat := 0x411004
@[reducible] def RSV_OWMV : Nat := 0x411005
@[reducible] def RSV_STAT : Nat := 0x411006
@[reducible] def RSV_SDCFG : Nat := 0x411007
@[reducible] def RSV_SDCTL : Nat := 0x411008
@[reducible] def RSV_SDSTAT : Nat := 0x411009
@[reducible] def RSV_SDTIME : Nat := 0x41100A
@[reducible] def HSP_CTL : Nat := 0x412000
@[reducible] def HSP_STAT : Nat := 0x412001
@[reducible] def HSP_TOKEN : Nat := 0x412002
@[reducible] def HSP_STW : Nat := 0x412003
@[reducible] def XSP_CTL : Nat := 0x413000
@[reducible] def XSP_XTPL : Nat := 0x413001
@[reducible] def XSP_XTO : Nat := 0x413002
@[reducible] def XSP_LOCK : Nat := 0x413003
@[reducible] def XSP_SFCFG : Nat := 0x413004
@[reducible] def XSP_SFCMD : Nat := 0x413005
@[reducible] def XSP_SFBUF : Nat := 0x413006
@[reducible] def XSP_SFCTL : Nat := 0x413007
@[reducible] def XSP_STAT : Nat := 0x413008
@[reducible] def CAN_CTL : Nat := 0x414000
@[reducible] def CAN_NBT : Nat := 0x414001
@[reducible] def CAN_DBT : Nat := 0x414002
@[reducible] def CAN_STAT : Nat := 0x414003
@[reducible] def CAN_CNT : Nat := 0x414004
@[reducible] def CAN_TXABORT : Nat := 0x414006
@[reducible] def CAN_PN : Nat := 0x414040
@[reducible] def CAN_PNMSK : Nat := 0x414041
@[reducible] def CAN_PNDM0 : Nat := 0x414042
@[reducible] def CAN_PNDM1 : Nat := 0x414043
@[reducible] def CAN_WAKETX : Nat := 0x414045
@[reducible] def CAN_RXR (k : Nat) : Nat := 0x414008 + k
@[reducible] def CAN_RXWP (k : Nat) : Nat := 0x41400A + k
@[reducible] def CAN_RXRD (k : Nat) : Nat := 0x41400C + k
@[reducible] def CAN_TB_RES (k : Nat) : Nat := 0x414010 + k
@[reducible] def CAN_FLT (f : Nat) : Nat := 0x414020 + 0x2 * f
@[reducible] def CAN_FMSK (f : Nat) : Nat := 0x414021 + 0x2 * f
@[reducible] def LIN_CTL : Nat := 0x415000
@[reducible] def LIN_RXR : Nat := 0x415001
@[reducible] def LIN_RXWP : Nat := 0x415002
@[reducible] def LIN_IDMASK0 : Nat := 0x415003
@[reducible] def LIN_IDMASK1 : Nat := 0x415004
@[reducible] def LIN_TB_RES (k : Nat) : Nat := 0x415008 + k
@[reducible] def LEDG_CFG : Nat := 0x416000
@[reducible] def LEDG_CRINIT : Nat := 0x416001
@[reducible] def LEDG_STAT : Nat := 0x416002
@[reducible] def LEDG_RQR : Nat := 0x416003
@[reducible] def LEDG_RQWP : Nat := 0x416004
@[reducible] def LEDG_RQRD : Nat := 0x416005
@[reducible] def LEDG_STEP : Nat := 0x416006
@[reducible] def LEDG_END : Nat := 0x416007
@[reducible] def LEDG_QSEL : Nat := 0x416008
@[reducible] def LEDG_CRCNT : Nat := 0x41600D
@[reducible] def LEDG_TBCFG : Nat := 0x416010
@[reducible] def LEDG_CNT : Nat := 0x416011
@[reducible] def LEDG_CNT2 : Nat := 0x416012
@[reducible] def LEDG_QDATA (m : Nat) : Nat := 0x416009 + m
@[reducible] def PEER_TWCFG : Nat := 0x417000
@[reducible] def PEER_TWCMD : Nat := 0x417001
@[reducible] def PEER_TWSTAT : Nat := 0x417002
@[reducible] def PEER_TWTAKE : Nat := 0x417003
@[reducible] def PEER_TWPDT : Nat := 0x417004
@[reducible] def PEER_TWCNT : Nat := 0x417005
@[reducible] def PEER_TWFILL : Nat := 0x417006
@[reducible] def PEER_CSCFG : Nat := 0x417010
@[reducible] def PEER_CSCMD : Nat := 0x417011
@[reducible] def PEER_CSSTAT : Nat := 0x417012
@[reducible] def PEER_CSCNT : Nat := 0x417013
@[reducible] def PEER_CSMB (q : Nat) : Nat := 0x417014 + q
@[reducible] def PEER_RSVCA : Nat := 0x417018
@[reducible] def PEER_RSVCB : Nat := 0x417019
@[reducible] def PEER_RSVCGO : Nat := 0x41701A
@[reducible] def PEER_RSVCRES : Nat := 0x41701B
@[reducible] def PEER_RSVCST : Nat := 0x41701C
@[reducible] def GPIO_FUNC (n : Nat) : Nat := 0x418000 + n
@[reducible] def GPIO_IN : Nat := 0x418030
@[reducible] def DBG_CTL : Nat := 0x41F000
@[reducible] def DBG_SHALT0 : Nat := 0x41F001
@[reducible] def DBG_SHALT1 : Nat := 0x41F002
@[reducible] def DBG_STAT : Nat := 0x41F003
@[reducible] def DBG_RSEL : Nat := 0x41F008
@[reducible] def DBG_RDATA : Nat := 0x41F009
@[reducible] def DBG_TRCTL : Nat := 0x41F00A
@[reducible] def DBG_TRPOP : Nat := 0x41F00B
@[reducible] def DBG_BP (k : Nat) : Nat := 0x41F004 + k
end RW

namespace R
@[reducible] def SYS_ID_STEP : Fld := ⟨RW.SYS_ID, 0, 4, false⟩
@[reducible] def SYS_ID_PART : Fld := ⟨RW.SYS_ID, 4, 16, false⟩
@[reducible] def SYS_GSTAT_POS_UNC : Fld := ⟨RW.SYS_GSTAT, 0, 8, false⟩
@[reducible] def SYS_GSTAT_CHG_GAP : Fld := ⟨RW.SYS_GSTAT, 8, 1, false⟩
@[reducible] def SYS_GSTAT_LEDG_LOST : Fld := ⟨RW.SYS_GSTAT, 9, 1, false⟩
@[reducible] def SYS_GSTAT_QDROP_NZ : Fld := ⟨RW.SYS_GSTAT, 10, 1, false⟩
@[reducible] def SYS_GSTAT_C0_OVER : Fld := ⟨RW.SYS_GSTAT, 11, 1, true⟩
@[reducible] def SYS_CONFLICT_VALID : Fld := ⟨RW.SYS_CONFLICT, 0, 1, true⟩
@[reducible] def SYS_CONFLICT_KIND : Fld := ⟨RW.SYS_CONFLICT, 4, 4, false⟩
@[reducible] def SYS_CONFLICT_INDEX : Fld := ⟨RW.SYS_CONFLICT, 8, 8, false⟩
@[reducible] def SYS_CONFLICT_CLAIMANT : Fld := ⟨RW.SYS_CONFLICT, 16, 8, false⟩
@[reducible] def SYS_CONFLICT_COUNT : Fld := ⟨RW.SYS_CONFLICT, 24, 16, false⟩
@[reducible] def SYS_SVARR_ARR0 : Fld := ⟨RW.SYS_SVARR, 0, 2, false⟩
@[reducible] def SYS_SVARR_ARR1 : Fld := ⟨RW.SYS_SVARR, 2, 2, false⟩
@[reducible] def SYS_SVARR_ARR2 : Fld := ⟨RW.SYS_SVARR, 4, 2, false⟩
@[reducible] def SYS_SVARR_ARR3 : Fld := ⟨RW.SYS_SVARR, 6, 2, false⟩
@[reducible] def SYS_SVARR_ARR4 : Fld := ⟨RW.SYS_SVARR, 8, 2, false⟩
@[reducible] def SYS_SVARR_ARR5 : Fld := ⟨RW.SYS_SVARR, 10, 2, false⟩
@[reducible] def SYS_SVARR_ARR6 : Fld := ⟨RW.SYS_SVARR, 12, 2, false⟩
@[reducible] def SYS_SVARR_ARR7 : Fld := ⟨RW.SYS_SVARR, 14, 2, false⟩
@[reducible] def SYS_SVGLB_POLSRC : Fld := ⟨RW.SYS_SVGLB, 0, 2, false⟩
@[reducible] def SYS_SVGLB_FEREJ : Fld := ⟨RW.SYS_SVGLB, 2, 1, true⟩
@[reducible] def SYS_SVGLB_POLBAD : Fld := ⟨RW.SYS_SVGLB, 8, 8, false⟩
@[reducible] def SYS_SVGLB_QSTEAL : Fld := ⟨RW.SYS_SVGLB, 16, 16, false⟩
@[reducible] def SYS_SVGLB_PEND : Fld := ⟨RW.SYS_SVGLB, 32, 5, false⟩
@[reducible] def SYS_SVQWP_COUNT : Fld := ⟨RW.SYS_SVQWP, 0, 48, false⟩
@[reducible] def SYS_SVST_STATE (c : Nat) : Fld := ⟨RW.SYS_SVST c, 0, 4, false⟩
@[reducible] def SYS_SVST_CAUSE (c : Nat) : Fld := ⟨RW.SYS_SVST c, 4, 4, false⟩
@[reducible] def SYS_SVST_MODE (c : Nat) : Fld := ⟨RW.SYS_SVST c, 8, 3, false⟩
@[reducible] def SYS_SVST_NTCST (c : Nat) : Fld := ⟨RW.SYS_SVST c, 11, 1, false⟩
@[reducible] def SYS_SVST_K (c : Nat) : Fld := ⟨RW.SYS_SVST c, 16, 8, false⟩
@[reducible] def SYS_SVST_ILIMEFF (c : Nat) : Fld := ⟨RW.SYS_SVST c, 24, 24, false⟩
@[reducible] def SYS_SVCALL_SVC (k : Nat) : Fld := ⟨RW.SYS_SVCALL k, 0, 12, false⟩
@[reducible] def SYS_SVCALL_COURSE (k : Nat) : Fld := ⟨RW.SYS_SVCALL k, 12, 3, false⟩
@[reducible] def SYS_SVCALL_OUTCOME (k : Nat) : Fld := ⟨RW.SYS_SVCALL k, 15, 3, false⟩
@[reducible] def SYS_SVCALL_STRAND (k : Nat) : Fld := ⟨RW.SYS_SVCALL k, 18, 6, false⟩
@[reducible] def SYS_SVCALL_TIME (k : Nat) : Fld := ⟨RW.SYS_SVCALL k, 24, 24, false⟩
@[reducible] def TIME_STAT_PLL_LOCK : Fld := ⟨RW.TIME_STAT, 0, 1, false⟩
@[reducible] def TIME_STAT_DL0_LOCK : Fld := ⟨RW.TIME_STAT, 1, 1, false⟩
@[reducible] def TIME_STAT_DL1_LOCK : Fld := ⟨RW.TIME_STAT, 2, 1, false⟩
@[reducible] def TIME_STAT_REF_SRC : Fld := ⟨RW.TIME_STAT, 3, 1, false⟩
@[reducible] def TIME_STAT_REFLOST : Fld := ⟨RW.TIME_STAT, 4, 1, true⟩
@[reducible] def TIME_STAT_DT_REF : Fld := ⟨RW.TIME_STAT, 5, 1, true⟩
@[reducible] def TIME_STAT_DT_LP : Fld := ⟨RW.TIME_STAT, 6, 1, true⟩
@[reducible] def TIME_STAT_RATE_LIM : Fld := ⟨RW.TIME_STAT, 7, 1, true⟩
@[reducible] def TIME_STAT_NT_STATE : Fld := ⟨RW.TIME_STAT, 8, 2, false⟩
@[reducible] def TIME_CLKCTL_REFOUT_EN : Fld := ⟨RW.TIME_CLKCTL, 0, 1, false⟩
@[reducible] def TIME_CLKCTL_REFLOST_ACT : Fld := ⟨RW.TIME_CLKCTL, 1, 1, false⟩
@[reducible] def TIME_DTIME_DTIME : Fld := ⟨RW.TIME_DTIME, 0, 48, false⟩
@[reducible] def TIME_NTIME_NTIME : Fld := ⟨RW.TIME_NTIME, 0, 48, false⟩
@[reducible] def TIME_NTAUX_NTFRAC : Fld := ⟨RW.TIME_NTAUX, 0, 16, false⟩
@[reducible] def TIME_NTAUX_STATE : Fld := ⟨RW.TIME_NTAUX, 16, 2, false⟩
@[reducible] def TIME_NTAUX_EPOCH : Fld := ⟨RW.TIME_NTAUX, 18, 16, false⟩
@[reducible] def TIME_NTUNC_UNC : Fld := ⟨RW.TIME_NTUNC, 0, 32, false⟩
@[reducible] def TIME_NTCTL_TP_EN : Fld := ⟨RW.TIME_NTCTL, 0, 1, false⟩
@[reducible] def TIME_NTCTL_TP_PER : Fld := ⟨RW.TIME_NTCTL, 1, 1, false⟩
@[reducible] def TIME_NTCTL_HGROW : Fld := ⟨RW.TIME_NTCTL, 8, 8, false⟩
@[reducible] def TIME_NTCTL_UFLOOR : Fld := ⟨RW.TIME_NTCTL, 16, 8, false⟩
@[reducible] def TIME_NTLIM_BTO : Fld := ⟨RW.TIME_NTLIM, 0, 16, false⟩
@[reducible] def TIME_NTLIM_HOLD : Fld := ⟨RW.TIME_NTLIM, 16, 16, false⟩
@[reducible] def TIME_RATE_R : Fld := ⟨RW.TIME_RATE, 0, 24, false⟩
@[reducible] def TIME_AOCAL_K : Fld := ⟨RW.TIME_AOCAL, 0, 24, false⟩
@[reducible] def TIME_LPERR_BOUND : Fld := ⟨RW.TIME_LPERR, 0, 48, false⟩
@[reducible] def TIME_SYNC_REFTRIM : Fld := ⟨RW.TIME_SYNC, 0, 5, false⟩
@[reducible] def TIME_SYNC_SYNCDLY : Fld := ⟨RW.TIME_SYNC, 8, 8, false⟩
@[reducible] def TIME_CNT_TPSKIP : Fld := ⟨RW.TIME_CNT, 0, 16, false⟩
@[reducible] def TIME_CNT_BDROP : Fld := ⟨RW.TIME_CNT, 16, 16, false⟩
@[reducible] def PWR_STAT_STATE : Fld := ⟨RW.PWR_STAT, 0, 2, false⟩
@[reducible] def PWR_STAT_LAST : Fld := ⟨RW.PWR_STAT, 2, 2, false⟩
@[reducible] def PWR_STAT_ENTRY : Fld := ⟨RW.PWR_STAT, 4, 4, false⟩
@[reducible] def PWR_STAT_LATCHED : Fld := ⟨RW.PWR_STAT, 8, 1, true⟩
@[reducible] def PWR_STAT_WSRC : Fld := ⟨RW.PWR_STAT, 9, 4, false⟩
@[reducible] def PWR_STAT_VSRC : Fld := ⟨RW.PWR_STAT, 13, 1, false⟩
@[reducible] def PWR_STAT_VBATUV : Fld := ⟨RW.PWR_STAT, 14, 1, false⟩
@[reducible] def PWR_STAT_VREG5_OK : Fld := ⟨RW.PWR_STAT, 15, 1, false⟩
@[reducible] def PWR_STAT_VIO_OK : Fld := ⟨RW.PWR_STAT, 16, 1, false⟩
@[reducible] def PWR_STAT_VCORE_OK : Fld := ⟨RW.PWR_STAT, 17, 1, false⟩
@[reducible] def PWR_CTL_REQ : Fld := ⟨RW.PWR_CTL, 0, 3, false⟩
@[reducible] def PWR_LPCTL_XTAL_KEEP : Fld := ⟨RW.PWR_LPCTL, 0, 1, false⟩
@[reducible] def PWR_LPCTL_IC0_KEEP : Fld := ⟨RW.PWR_LPCTL, 1, 1, false⟩
@[reducible] def PWR_LPCTL_CAN_PN : Fld := ⟨RW.PWR_LPCTL, 2, 1, false⟩
@[reducible] def PWR_LPCTL_DEEPEN : Fld := ⟨RW.PWR_LPCTL, 8, 8, false⟩
@[reducible] def PWR_WAKEEN_WK : Fld := ⟨RW.PWR_WAKEEN, 0, 4, false⟩
@[reducible] def PWR_WAKEEN_HALL : Fld := ⟨RW.PWR_WAKEEN, 4, 1, false⟩
@[reducible] def PWR_WAKEEN_CANWUP : Fld := ⟨RW.PWR_WAKEEN, 5, 1, false⟩
@[reducible] def PWR_WAKEEN_CANSW : Fld := ⟨RW.PWR_WAKEEN, 6, 1, false⟩
@[reducible] def PWR_WAKEEN_LINWK : Fld := ⟨RW.PWR_WAKEEN, 7, 1, false⟩
@[reducible] def PWR_WAKEEN_HOST : Fld := ⟨RW.PWR_WAKEEN, 8, 1, false⟩
@[reducible] def PWR_WAKEEN_TIMER : Fld := ⟨RW.PWR_WAKEEN, 9, 1, false⟩
@[reducible] def PWR_WAKEEN_PEER : Fld := ⟨RW.PWR_WAKEEN, 10, 1, false⟩
@[reducible] def PWR_WAKEEN_VBATUV : Fld := ⟨RW.PWR_WAKEEN, 11, 1, false⟩
@[reducible] def PWR_WAKECFG_WKPOL : Fld := ⟨RW.PWR_WAKECFG, 0, 4, false⟩
@[reducible] def PWR_WAKECFG_WKFILT : Fld := ⟨RW.PWR_WAKECFG, 4, 4, false⟩
@[reducible] def PWR_HALLLP_LPINT0 : Fld := ⟨RW.PWR_HALLLP, 0, 12, false⟩
@[reducible] def PWR_HALLLP_LPINT1 : Fld := ⟨RW.PWR_HALLLP, 12, 12, false⟩
@[reducible] def PWR_HALLLP_LPINT2 : Fld := ⟨RW.PWR_HALLLP, 24, 12, false⟩
@[reducible] def PWR_HALLLP_LPINT3 : Fld := ⟨RW.PWR_HALLLP, 36, 12, false⟩
@[reducible] def PWR_WTIMER_PERIOD : Fld := ⟨RW.PWR_WTIMER, 0, 24, false⟩
@[reducible] def PWR_HSUP_HSUPEN : Fld := ⟨RW.PWR_HSUP, 0, 4, false⟩
@[reducible] def PWR_HSUP_LPEN : Fld := ⟨RW.PWR_HSUP, 4, 4, false⟩
@[reducible] def PWR_HSUP_HON : Fld := ⟨RW.PWR_HSUP, 8, 5, false⟩
@[reducible] def PWR_WAKEHALL_TH0 : Fld := ⟨RW.PWR_WAKEHALL, 0, 6, false⟩
@[reducible] def PWR_WAKEHALL_TH1 : Fld := ⟨RW.PWR_WAKEHALL, 6, 6, false⟩
@[reducible] def PWR_WAKEHALL_TH2 : Fld := ⟨RW.PWR_WAKEHALL, 12, 6, false⟩
@[reducible] def PWR_WAKEHALL_TH3 : Fld := ⟨RW.PWR_WAKEHALL, 18, 6, false⟩
@[reducible] def PWR_WAKEHALL_TH4 : Fld := ⟨RW.PWR_WAKEHALL, 24, 6, false⟩
@[reducible] def PWR_WAKEHALL_TH5 : Fld := ⟨RW.PWR_WAKEHALL, 30, 6, false⟩
@[reducible] def PWR_WAKEHALL_TH6 : Fld := ⟨RW.PWR_WAKEHALL, 36, 6, false⟩
@[reducible] def PWR_WAKEHALL_TH7 : Fld := ⟨RW.PWR_WAKEHALL, 42, 6, false⟩
@[reducible] def PWR_VBATUV_TH : Fld := ⟨RW.PWR_VBATUV, 0, 4, false⟩
@[reducible] def PWR_VBATUV_HYST : Fld := ⟨RW.PWR_VBATUV, 4, 2, false⟩
@[reducible] def PWR_WLHDR_COUNT : Fld := ⟨RW.PWR_WLHDR, 0, 16, false⟩
@[reducible] def PWR_WLE0_DT (k : Nat) : Fld := ⟨RW.PWR_WLE0 k, 0, 48, false⟩
@[reducible] def PWR_WLE1_KIND (k : Nat) : Fld := ⟨RW.PWR_WLE1 k, 0, 2, false⟩
@[reducible] def PWR_WLE1_LP (k : Nat) : Fld := ⟨RW.PWR_WLE1 k, 2, 1, false⟩
@[reducible] def PWR_WLE1_LATCHED (k : Nat) : Fld := ⟨RW.PWR_WLE1 k, 3, 1, false⟩
@[reducible] def PWR_WLE1_CODE (k : Nat) : Fld := ⟨RW.PWR_WLE1 k, 4, 4, false⟩
@[reducible] def PWR_WLE1_FROM (k : Nat) : Fld := ⟨RW.PWR_WLE1 k, 8, 3, false⟩
@[reducible] def PWR_WLE1_SRCNODE (k : Nat) : Fld := ⟨RW.PWR_WLE1 k, 12, 4, false⟩
@[reducible] def PWR_WLE1_VN (k : Nat) : Fld := ⟨RW.PWR_WLE1 k, 16, 8, false⟩
@[reducible] def PWR_RVCFG_EN : Fld := ⟨RW.PWR_RVCFG, 0, 1, false⟩
@[reducible] def PWR_RVCFG_WKTX : Fld := ⟨RW.PWR_RVCFG, 1, 1, false⟩
@[reducible] def PWR_RVCFG_WKLIN : Fld := ⟨RW.PWR_RVCFG, 2, 1, false⟩
@[reducible] def PWR_RVCFG_LOCMASK : Fld := ⟨RW.PWR_RVCFG, 4, 12, false⟩
@[reducible] def PWR_RVCFG_THOLD : Fld := ⟨RW.PWR_RVCFG, 16, 8, false⟩
@[reducible] def PWR_RVCFG_TVOTE : Fld := ⟨RW.PWR_RVCFG, 24, 8, false⟩
@[reducible] def PWR_RVCOORD_NODES : Fld := ⟨RW.PWR_RVCOORD, 0, 12, false⟩
@[reducible] def PWR_RVCOORD_TANS : Fld := ⟨RW.PWR_RVCOORD, 16, 8, false⟩
@[reducible] def PWR_RVCOORD_CI : Fld := ⟨RW.PWR_RVCOORD, 32, 16, false⟩
@[reducible] def PWR_RVCMD_QUERY : Fld := ⟨RW.PWR_RVCMD, 0, 1, false⟩
@[reducible] def PWR_RVCMD_TGT : Fld := ⟨RW.PWR_RVCMD, 1, 1, false⟩
@[reducible] def PWR_RVCMD_ABORT : Fld := ⟨RW.PWR_RVCMD, 2, 1, false⟩
@[reducible] def PWR_RVCTL_HOLD : Fld := ⟨RW.PWR_RVCTL, 0, 8, false⟩
@[reducible] def PWR_RVSTAT_PHASE : Fld := ⟨RW.PWR_RVSTAT, 0, 3, false⟩
@[reducible] def PWR_RVSTAT_TGT : Fld := ⟨RW.PWR_RVSTAT, 3, 1, false⟩
@[reducible] def PWR_RVSTAT_VN : Fld := ⟨RW.PWR_RVSTAT, 4, 8, false⟩
@[reducible] def PWR_RVSTAT_OUTCOME : Fld := ⟨RW.PWR_RVSTAT, 12, 4, false⟩
@[reducible] def PWR_RVSTAT_TXPEND : Fld := ⟨RW.PWR_RVSTAT, 16, 1, false⟩
@[reducible] def PWR_RVSTAT_ABORTS : Fld := ⟨RW.PWR_RVSTAT, 24, 16, false⟩
@[reducible] def PWR_RVRES_READY : Fld := ⟨RW.PWR_RVRES, 0, 13, false⟩
@[reducible] def PWR_RVRES_BUSY : Fld := ⟨RW.PWR_RVRES, 16, 13, false⟩
@[reducible] def PWR_RVRES_MISS : Fld := ⟨RW.PWR_RVRES, 32, 13, false⟩
@[reducible] def PWR_RVEND_T : Fld := ⟨RW.PWR_RVEND, 0, 48, false⟩
@[reducible] def RST_STAT_KIND : Fld := ⟨RW.RST_STAT, 0, 3, false⟩
@[reducible] def RST_STAT_HIST : Fld := ⟨RW.RST_STAT, 8, 7, true⟩
@[reducible] def RST_STAT_STRAPCHG : Fld := ⟨RW.RST_STAT, 15, 1, true⟩
@[reducible] def RST_STAT_BORSRC : Fld := ⟨RW.RST_STAT, 16, 2, false⟩
@[reducible] def RST_STAT_WDRSRC : Fld := ⟨RW.RST_STAT, 18, 2, false⟩
@[reducible] def RST_STAT_COUNT : Fld := ⟨RW.RST_STAT, 32, 16, false⟩
@[reducible] def RST_CTL_KEY : Fld := ⟨RW.RST_CTL, 0, 16, false⟩
@[reducible] def RST_CTL_SWR : Fld := ⟨RW.RST_CTL, 16, 1, false⟩
@[reducible] def RST_CTL_FAULTOUT : Fld := ⟨RW.RST_CTL, 17, 1, false⟩
@[reducible] def RST_STRAP_ROLE : Fld := ⟨RW.RST_STRAP, 0, 2, false⟩
@[reducible] def RST_STRAP_BOOT : Fld := ⟨RW.RST_STRAP, 2, 2, false⟩
@[reducible] def RST_STRAP_NODE : Fld := ⟨RW.RST_STRAP, 4, 4, false⟩
@[reducible] def RST_STRAP_SROLE : Fld := ⟨RW.RST_STRAP, 8, 2, false⟩
@[reducible] def RST_STRAP_SBOOT : Fld := ⟨RW.RST_STRAP, 10, 2, false⟩
@[reducible] def RST_STRAP_SNODE : Fld := ⟨RW.RST_STRAP, 12, 4, false⟩
@[reducible] def RST_BOOTST_SRC : Fld := ⟨RW.RST_BOOTST, 0, 2, false⟩
@[reducible] def RST_BOOTST_UNAUTH : Fld := ⟨RW.RST_BOOTST, 2, 1, false⟩
@[reducible] def RST_BOOTST_STRAPERR : Fld := ⟨RW.RST_BOOTST, 3, 1, false⟩
@[reducible] def RST_BOOTST_FMRAM : Fld := ⟨RW.RST_BOOTST, 4, 4, false⟩
@[reducible] def RST_BOOTST_FFLASH : Fld := ⟨RW.RST_BOOTST, 8, 4, false⟩
@[reducible] def RST_BOOTST_FHOST : Fld := ⟨RW.RST_BOOTST, 12, 4, false⟩
@[reducible] def RST_BOOTST_IMGVER : Fld := ⟨RW.RST_BOOTST, 16, 16, false⟩
@[reducible] def RST_BOOTCFG_HOSTTO : Fld := ⟨RW.RST_BOOTCFG, 0, 16, false⟩
@[reducible] def RST_HOSTGO_GO : Fld := ⟨RW.RST_HOSTGO, 0, 1, false⟩
@[reducible] def RST_KEYST_KEYSET : Fld := ⟨RW.RST_KEYST, 0, 1, false⟩
@[reducible] def RST_KEYST_LOCKED : Fld := ⟨RW.RST_KEYST, 1, 1, false⟩
@[reducible] def RST_KEYST_OPEN : Fld := ⟨RW.RST_KEYST, 2, 1, false⟩
@[reducible] def MEM_ERRCNT_RAMCE : Fld := ⟨RW.MEM_ERRCNT, 0, 16, false⟩
@[reducible] def MEM_ERRCNT_RAMUE : Fld := ⟨RW.MEM_ERRCNT, 16, 8, false⟩
@[reducible] def MEM_ERRCNT_MRAMCE : Fld := ⟨RW.MEM_ERRCNT, 24, 16, false⟩
@[reducible] def MEM_ERRCNT_MRAMUE : Fld := ⟨RW.MEM_ERRCNT, 40, 8, false⟩
@[reducible] def MEM_ERRADDR_ADDR : Fld := ⟨RW.MEM_ERRADDR, 0, 24, false⟩
@[reducible] def MEM_ERRADDR_SRC : Fld := ⟨RW.MEM_ERRADDR, 24, 4, false⟩
@[reducible] def MEM_ERRADDR_STRAND : Fld := ⟨RW.MEM_ERRADDR, 28, 6, false⟩
@[reducible] def MEM_ERRADDR_VALID : Fld := ⟨RW.MEM_ERRADDR, 34, 1, true⟩
@[reducible] def MEM_SCRUB_RAMEN : Fld := ⟨RW.MEM_SCRUB, 0, 1, false⟩
@[reducible] def MEM_SCRUB_MRAMEN : Fld := ⟨RW.MEM_SCRUB, 1, 1, false⟩
@[reducible] def MEM_SCRUB_MWTH : Fld := ⟨RW.MEM_SCRUB, 2, 2, false⟩
@[reducible] def MEM_SCRUB_RAMINT : Fld := ⟨RW.MEM_SCRUB, 8, 8, false⟩
@[reducible] def MEM_SCRUB_MRAMINT : Fld := ⟨RW.MEM_SCRUB, 16, 8, false⟩
@[reducible] def MEM_PSTAT_STAGED : Fld := ⟨RW.MEM_PSTAT, 0, 10, false⟩
@[reducible] def MEM_PSTAT_NPEND : Fld := ⟨RW.MEM_PSTAT, 10, 1, false⟩
@[reducible] def MEM_WEAR_PCOUNT : Fld := ⟨RW.MEM_WEAR, 0, 48, false⟩
@[reducible] def MEM_JCTL_PER : Fld := ⟨RW.MEM_JCTL, 0, 16, false⟩
@[reducible] def MEM_JCTL_REQ : Fld := ⟨RW.MEM_JCTL, 16, 1, false⟩
@[reducible] def MEM_JSEQ_SEQ : Fld := ⟨RW.MEM_JSEQ, 0, 40, false⟩
@[reducible] def MEM_WOCTL_OP : Fld := ⟨RW.MEM_WOCTL, 0, 2, false⟩
@[reducible] def MEM_WOCTL_RESULT : Fld := ⟨RW.MEM_WOCTL, 4, 2, false⟩
@[reducible] def MEM_WODATA_DATA (m : Nat) : Fld := ⟨RW.MEM_WODATA m, 0, 48, false⟩
@[reducible] def MEM_CTL_CLRCNT : Fld := ⟨RW.MEM_CTL, 0, 1, false⟩
@[reducible] def MEM_FENCE_BASE (n : Nat) : Fld := ⟨RW.MEM_FENCE n, 6, 18, false⟩
@[reducible] def MEM_FENCE_LEN (n : Nat) : Fld := ⟨RW.MEM_FENCE n, 24, 15, false⟩
@[reducible] def MEM_FENCE_OWNER (n : Nat) : Fld := ⟨RW.MEM_FENCE n, 40, 8, false⟩
@[reducible] def SCH_STAT_INFLIGHT : Fld := ⟨RW.SCH_STAT, 0, 8, false⟩
@[reducible] def SCH_STAT_C0RUN : Fld := ⟨RW.SCH_STAT, 8, 7, false⟩
@[reducible] def SCH_STAT_RUN : Fld := ⟨RW.SCH_STAT, 16, 7, false⟩
@[reducible] def SCH_FRETMAP_HOME0 : Fld := ⟨RW.SCH_FRETMAP, 0, 2, false⟩
@[reducible] def SCH_FRETMAP_HOME1 : Fld := ⟨RW.SCH_FRETMAP, 2, 2, false⟩
@[reducible] def SCH_FRETMAP_HOME2 : Fld := ⟨RW.SCH_FRETMAP, 4, 2, false⟩
@[reducible] def SCH_FRETMAP_HOME3 : Fld := ⟨RW.SCH_FRETMAP, 6, 2, false⟩
@[reducible] def SCH_FRETMAP_HOME4 : Fld := ⟨RW.SCH_FRETMAP, 8, 2, false⟩
@[reducible] def SCH_FRETMAP_HOME5 : Fld := ⟨RW.SCH_FRETMAP, 10, 2, false⟩
@[reducible] def SCH_FRETMAP_HOME6 : Fld := ⟨RW.SCH_FRETMAP, 12, 2, false⟩
@[reducible] def SCH_FRETMAP_HOME7 : Fld := ⟨RW.SCH_FRETMAP, 14, 2, false⟩
@[reducible] def SCH_FRETMAP_HOME8 : Fld := ⟨RW.SCH_FRETMAP, 16, 2, false⟩
@[reducible] def SCH_FRETMAP_HOME9 : Fld := ⟨RW.SCH_FRETMAP, 18, 2, false⟩
@[reducible] def SCH_FRETMAP_HOME10 : Fld := ⟨RW.SCH_FRETMAP, 20, 2, false⟩
@[reducible] def SCH_FRETMAP_HOME11 : Fld := ⟨RW.SCH_FRETMAP, 22, 2, false⟩
@[reducible] def SCH_FRETMAP_HOME12 : Fld := ⟨RW.SCH_FRETMAP, 24, 2, false⟩
@[reducible] def SCH_FRETMAP_HOME13 : Fld := ⟨RW.SCH_FRETMAP, 26, 2, false⟩
@[reducible] def SCH_FRETMAP_HOME14 : Fld := ⟨RW.SCH_FRETMAP, 28, 2, false⟩
@[reducible] def SCH_FRETMAP_HOME15 : Fld := ⟨RW.SCH_FRETMAP, 30, 2, false⟩
@[reducible] def SCH_CNT_IDLE : Fld := ⟨RW.SCH_CNT, 0, 24, false⟩
@[reducible] def SCH_CNT_LIMSTALL : Fld := ⟨RW.SCH_CNT, 24, 24, false⟩
@[reducible] def SCH_EVSET_EV : Fld := ⟨RW.SCH_EVSET, 0, 48, false⟩
@[reducible] def SCH_WDCFG_STRAND : Fld := ⟨RW.SCH_WDCFG, 0, 6, false⟩
@[reducible] def SCH_WDCFG_WDTO : Fld := ⟨RW.SCH_WDCFG, 8, 16, false⟩
@[reducible] def SCH_WDCFG_WDMIN : Fld := ⟨RW.SCH_WDCFG, 24, 16, false⟩
@[reducible] def SCH_WDCFG_LOCK : Fld := ⟨RW.SCH_WDCFG, 40, 1, false⟩
@[reducible] def SCH_WDKICK_KEY : Fld := ⟨RW.SCH_WDKICK, 0, 16, false⟩
@[reducible] def SCH_WDSTAT_COUNT : Fld := ⟨RW.SCH_WDSTAT, 0, 16, false⟩
@[reducible] def SCH_WDSTAT_EXPECT : Fld := ⟨RW.SCH_WDSTAT, 16, 1, false⟩
@[reducible] def SCH_WDSTAT_LAST : Fld := ⟨RW.SCH_WDSTAT, 17, 3, false⟩
@[reducible] def SCH_FLTSUM0_F : Fld := ⟨RW.SCH_FLTSUM0, 0, 48, false⟩
@[reducible] def SCH_FLTSUM1_F : Fld := ⟨RW.SCH_FLTSUM1, 0, 16, false⟩
@[reducible] def SCH_FLTCFG_STORM : Fld := ⟨RW.SCH_FLTCFG, 0, 8, false⟩
@[reducible] def SCH_FLTCFG_STORMACT : Fld := ⟨RW.SCH_FLTCFG, 8, 1, false⟩
@[reducible] def SCH_FLTCFG_LOGUSER : Fld := ⟨RW.SCH_FLTCFG, 9, 1, false⟩
@[reducible] def SCH_FLTSTAT_COUNT : Fld := ⟨RW.SCH_FLTSTAT, 0, 16, false⟩
@[reducible] def SCH_FLTSTAT_STORMS : Fld := ⟨RW.SCH_FLTSTAT, 16, 8, false⟩
@[reducible] def SCH_FLTSTAT_LOGSKIP : Fld := ⟨RW.SCH_FLTSTAT, 24, 16, false⟩
@[reducible] def SCH_FLOGSEQ_SEQ : Fld := ⟨RW.SCH_FLOGSEQ, 0, 40, false⟩
@[reducible] def SCH_SNAPHDR_NENT : Fld := ⟨RW.SCH_SNAPHDR, 0, 8, false⟩
@[reducible] def SCH_SNAPHDR_RCOUNT : Fld := ⟨RW.SCH_SNAPHDR, 8, 16, false⟩
@[reducible] def SCH_SNAPHDR_SRC : Fld := ⟨RW.SCH_SNAPHDR, 24, 2, false⟩
@[reducible] def SCH_SNAPHDR_DRAINFULL : Fld := ⟨RW.SCH_SNAPHDR, 26, 1, false⟩
@[reducible] def SCH_SNAPTIME_F : Fld := ⟨RW.SCH_SNAPTIME, 0, 48, false⟩
@[reducible] def SCH_S_STAT_STATE (s : Nat) : Fld := ⟨RW.SCH_S_STAT s, 0, 3, false⟩
@[reducible] def SCH_S_STAT_CLASS (s : Nat) : Fld := ⟨RW.SCH_S_STAT s, 4, 2, false⟩
@[reducible] def SCH_S_STAT_INFL (s : Nat) : Fld := ⟨RW.SCH_S_STAT s, 6, 2, false⟩
@[reducible] def SCH_S_STAT_SUPV (s : Nat) : Fld := ⟨RW.SCH_S_STAT s, 8, 1, false⟩
@[reducible] def SCH_S_STAT_EVMERGE (s : Nat) : Fld := ⟨RW.SCH_S_STAT s, 9, 1, true⟩
@[reducible] def SCH_S_STAT_PC (s : Nat) : Fld := ⟨RW.SCH_S_STAT s, 24, 24, false⟩
@[reducible] def SCH_S_WMASK_MASK (s : Nat) (m : Nat) : Fld := ⟨RW.SCH_S_WMASK s m, 0, 48, false⟩
@[reducible] def SCH_S_PEND_PEND (s : Nat) (m : Nat) : Fld := ⟨RW.SCH_S_PEND s m, 0, 48, true⟩
@[reducible] def SCH_S_FLT0_CAUSE (s : Nat) : Fld := ⟨RW.SCH_S_FLT0 s, 0, 4, false⟩
@[reducible] def SCH_S_FLT0_DEFER (s : Nat) : Fld := ⟨RW.SCH_S_FLT0 s, 4, 1, false⟩
@[reducible] def SCH_S_FLT0_FETCH (s : Nat) : Fld := ⟨RW.SCH_S_FLT0 s, 5, 1, false⟩
@[reducible] def SCH_S_FLT0_MORE (s : Nat) : Fld := ⟨RW.SCH_S_FLT0 s, 6, 1, false⟩
@[reducible] def SCH_S_FLT0_RESV (s : Nat) : Fld := ⟨RW.SCH_S_FLT0 s, 7, 1, false⟩
@[reducible] def SCH_S_FLT0_IPC (s : Nat) : Fld := ⟨RW.SCH_S_FLT0 s, 24, 24, false⟩
@[reducible] def SCH_S_FLT1_EA (s : Nat) : Fld := ⟨RW.SCH_S_FLT1 s, 0, 24, false⟩
@[reducible] def SCH_S_FLT1_RESPC (s : Nat) : Fld := ⟨RW.SCH_S_FLT1 s, 24, 24, false⟩
@[reducible] def SCH_SNAPE0_W (k : Nat) : Fld := ⟨RW.SCH_SNAPE0 k, 0, 48, false⟩
@[reducible] def SCH_SNAPE1_W (k : Nat) : Fld := ⟨RW.SCH_SNAPE1 k, 0, 48, false⟩
@[reducible] def PWM_CTL_PRE (c : Nat) : Fld := ⟨RW.PWM_CTL c, 0, 3, false⟩
@[reducible] def PWM_CTL_SHOLD (c : Nat) : Fld := ⟨RW.PWM_CTL c, 3, 1, false⟩
@[reducible] def PWM_CTL_EVPRE (c : Nat) : Fld := ⟨RW.PWM_CTL c, 8, 4, false⟩
@[reducible] def PWM_CTL_EVSEL (c : Nat) : Fld := ⟨RW.PWM_CTL c, 12, 6, false⟩
@[reducible] def PWM_PER_PER (c : Nat) : Fld := ⟨RW.PWM_PER c, 0, 16, false⟩
@[reducible] def PWM_AUX_AUX (c : Nat) : Fld := ⟨RW.PWM_AUX c, 0, 16, false⟩
@[reducible] def PWM_AUX_AUXLEN (c : Nat) : Fld := ⟨RW.PWM_AUX c, 16, 10, false⟩
@[reducible] def PWM_AUXOWN_OWNER (c : Nat) : Fld := ⟨RW.PWM_AUXOWN c, 0, 8, false⟩
@[reducible] def PWM_DT_DTHL (c : Nat) : Fld := ⟨RW.PWM_DT c, 0, 10, false⟩
@[reducible] def PWM_DT_DTLH (c : Nat) : Fld := ⟨RW.PWM_DT c, 16, 10, false⟩
@[reducible] def PWM_MINP_MINP (c : Nat) : Fld := ⟨RW.PWM_MINP c, 0, 8, false⟩
@[reducible] def PWM_MINP_MODE (c : Nat) : Fld := ⟨RW.PWM_MINP c, 8, 1, false⟩
@[reducible] def PWM_SYNC_SEN (c : Nat) : Fld := ⟨RW.PWM_SYNC c, 0, 1, false⟩
@[reducible] def PWM_SYNC_MASTER (c : Nat) : Fld := ⟨RW.PWM_SYNC c, 1, 3, false⟩
@[reducible] def PWM_SYNC_PHASE (c : Nat) : Fld := ⟨RW.PWM_SYNC c, 16, 16, false⟩
@[reducible] def PWM_CNT_CNT (c : Nat) : Fld := ⟨RW.PWM_CNT c, 0, 16, false⟩
@[reducible] def PWM_CNT_PCNT (c : Nat) : Fld := ⟨RW.PWM_CNT c, 16, 32, false⟩
@[reducible] def PWM_STAT_RUN (c : Nat) : Fld := ⟨RW.PWM_STAT c, 0, 1, false⟩
@[reducible] def PWM_STAT_SYNCSLIP (c : Nat) : Fld := ⟨RW.PWM_STAT c, 1, 1, true⟩
@[reducible] def PWM_STAT_MPCFG (c : Nat) : Fld := ⟨RW.PWM_STAT c, 2, 1, true⟩
@[reducible] def PWM_STAT_WREJ (c : Nat) : Fld := ⟨RW.PWM_STAT c, 3, 1, true⟩
@[reducible] def PWM_STAT_MPCNT (c : Nat) : Fld := ⟨RW.PWM_STAT c, 8, 16, false⟩
@[reducible] def PWM_EVSTAT_SRC (c : Nat) : Fld := ⟨RW.PWM_EVSTAT c, 0, 6, true⟩
@[reducible] def PWM_OUT_OUTEN (c : Nat) : Fld := ⟨RW.PWM_OUT c, 0, 2, false⟩
@[reducible] def PWM_OUT_COMP (c : Nat) : Fld := ⟨RW.PWM_OUT c, 2, 1, false⟩
@[reducible] def PWM_OUT_CAPO (c : Nat) : Fld := ⟨RW.PWM_OUT c, 4, 2, false⟩
@[reducible] def PWM_OUT_DCH (c : Nat) : Fld := ⟨RW.PWM_OUT c, 6, 2, false⟩
@[reducible] def PWM_OUT_PAIR (c : Nat) : Fld := ⟨RW.PWM_OUT c, 8, 2, false⟩
@[reducible] def PWM_OUT_PDRV (c : Nat) : Fld := ⟨RW.PWM_OUT c, 10, 2, false⟩
@[reducible] def PWM_OUT_PBRK (c : Nat) : Fld := ⟨RW.PWM_OUT c, 12, 4, false⟩
@[reducible] def PWM_MCFG_MSRC (c : Nat) : Fld := ⟨RW.PWM_MCFG c, 0, 2, false⟩
@[reducible] def PWM_MCFG_MTAKE (c : Nat) : Fld := ⟨RW.PWM_MCFG c, 2, 2, false⟩
@[reducible] def PWM_MCFG_RLEN (c : Nat) : Fld := ⟨RW.PWM_MCFG c, 4, 3, false⟩
@[reducible] def PWM_MCFG_MOFS (c : Nat) : Fld := ⟨RW.PWM_MCFG c, 8, 3, false⟩
@[reducible] def PWM_MCFG_HINVF (c : Nat) : Fld := ⟨RW.PWM_MCFG c, 11, 1, false⟩
@[reducible] def PWM_MCFG_BDIR (c : Nat) : Fld := ⟨RW.PWM_MCFG c, 12, 1, false⟩
@[reducible] def PWM_MCFG_CDLY (c : Nat) : Fld := ⟨RW.PWM_MCFG c, 16, 16, false⟩
@[reducible] def PWM_MCFG_BBLK (c : Nat) : Fld := ⟨RW.PWM_MCFG c, 32, 8, false⟩
@[reducible] def PWM_MCMD_IDX (c : Nat) : Fld := ⟨RW.PWM_MCMD c, 0, 3, false⟩
@[reducible] def PWM_MCMD_SET (c : Nat) : Fld := ⟨RW.PWM_MCMD c, 3, 1, false⟩
@[reducible] def PWM_MCMD_ADV (c : Nat) : Fld := ⟨RW.PWM_MCMD c, 4, 1, false⟩
@[reducible] def PWM_MCMD_RET (c : Nat) : Fld := ⟨RW.PWM_MCMD c, 5, 1, false⟩
@[reducible] def PWM_MSTAT_IDX (c : Nat) : Fld := ⟨RW.PWM_MSTAT c, 0, 3, false⟩
@[reducible] def PWM_MSTAT_PEND (c : Nat) : Fld := ⟨RW.PWM_MSTAT c, 3, 1, false⟩
@[reducible] def PWM_MSTAT_MASK (c : Nat) : Fld := ⟨RW.PWM_MSTAT c, 4, 6, false⟩
@[reducible] def PWM_MSTAT_HINV (c : Nat) : Fld := ⟨RW.PWM_MSTAT c, 10, 1, true⟩
@[reducible] def PWM_MSTAT_CFGREJ (c : Nat) : Fld := ⟨RW.PWM_MSTAT c, 11, 1, true⟩
@[reducible] def PWM_MSTAT_MMERGE (c : Nat) : Fld := ⟨RW.PWM_MSTAT c, 16, 16, false⟩
@[reducible] def PWM_SSHUNT_SSEN (c : Nat) : Fld := ⟨RW.PWM_SSHUNT c, 0, 1, false⟩
@[reducible] def PWM_SSHUNT_TSET (c : Nat) : Fld := ⟨RW.PWM_SSHUNT c, 4, 8, false⟩
@[reducible] def PWM_SSHUNT_SSMISS (c : Nat) : Fld := ⟨RW.PWM_SSHUNT c, 16, 16, false⟩
@[reducible] def PWM_SSORD_MIN (c : Nat) : Fld := ⟨RW.PWM_SSORD c, 0, 2, false⟩
@[reducible] def PWM_SSORD_MID (c : Nat) : Fld := ⟨RW.PWM_SSORD c, 2, 2, false⟩
@[reducible] def PWM_SSORD_MAX (c : Nat) : Fld := ⟨RW.PWM_SSORD c, 4, 2, false⟩
@[reducible] def PWM_SSORD_W1 (c : Nat) : Fld := ⟨RW.PWM_SSORD c, 6, 1, false⟩
@[reducible] def PWM_SSORD_W2 (c : Nat) : Fld := ⟨RW.PWM_SSORD c, 7, 1, false⟩
@[reducible] def PWM_CMP_CMP (c : Nat) (k : Nat) : Fld := ⟨RW.PWM_CMP c k, 0, 16, false⟩
@[reducible] def PWM_CMP_TAP (c : Nat) (k : Nat) : Fld := ⟨RW.PWM_CMP c k, 16, 5, false⟩
@[reducible] def PWM_MTAB_STATE (c : Nat) (i : Nat) : Fld := ⟨RW.PWM_MTAB c i, 0, 6, false⟩
@[reducible] def PWM_GSTART_START : Fld := ⟨RW.PWM_GSTART, 0, 8, false⟩
@[reducible] def PWM_GSTART_STOP : Fld := ⟨RW.PWM_GSTART, 8, 8, false⟩
@[reducible] def PWM_GSTART_AT : Fld := ⟨RW.PWM_GSTART, 16, 1, false⟩
@[reducible] def PWM_GAT_DT : Fld := ⟨RW.PWM_GAT, 0, 48, false⟩
@[reducible] def GDRV_DOM_CTL_EN (d : Nat) : Fld := ⟨RW.GDRV_DOM_CTL d, 0, 1, false⟩
@[reducible] def GDRV_DOM_CTL_ARST (d : Nat) : Fld := ⟨RW.GDRV_DOM_CTL d, 1, 1, false⟩
@[reducible] def GDRV_DOM_CTL_UVCLR (d : Nat) : Fld := ⟨RW.GDRV_DOM_CTL d, 2, 1, false⟩
@[reducible] def GDRV_DOM_STAT_RDY (d : Nat) : Fld := ⟨RW.GDRV_DOM_STAT d, 0, 1, false⟩
@[reducible] def GDRV_DOM_STAT_VCPUV (d : Nat) : Fld := ⟨RW.GDRV_DOM_STAT d, 1, 1, true⟩
@[reducible] def GDRV_DOM_STAT_VGLUV (d : Nat) : Fld := ⟨RW.GDRV_DOM_STAT d, 2, 1, true⟩
@[reducible] def GDRV_DOM_STAT_LOCK (d : Nat) : Fld := ⟨RW.GDRV_DOM_STAT d, 3, 1, false⟩
@[reducible] def GDRV_DOM_STAT_UVCNT (d : Nat) : Fld := ⟨RW.GDRV_DOM_STAT d, 8, 16, false⟩
@[reducible] def GDRV_SRC_SRC0 : Fld := ⟨RW.GDRV_SRC, 0, 2, false⟩
@[reducible] def GDRV_SRC_SRC1 : Fld := ⟨RW.GDRV_SRC, 2, 2, false⟩
@[reducible] def GDRV_SRC_SRC2 : Fld := ⟨RW.GDRV_SRC, 4, 2, false⟩
@[reducible] def GDRV_SRC_SRC3 : Fld := ⟨RW.GDRV_SRC, 6, 2, false⟩
@[reducible] def GDRV_SRC_SRC4 : Fld := ⟨RW.GDRV_SRC, 8, 2, false⟩
@[reducible] def GDRV_SRC_SRC5 : Fld := ⟨RW.GDRV_SRC, 10, 2, false⟩
@[reducible] def GDRV_SRC_SRC6 : Fld := ⟨RW.GDRV_SRC, 12, 2, false⟩
@[reducible] def GDRV_SRC_SRC7 : Fld := ⟨RW.GDRV_SRC, 14, 2, false⟩
@[reducible] def GDRV_SRC_SRC8 : Fld := ⟨RW.GDRV_SRC, 16, 2, false⟩
@[reducible] def GDRV_SRC_SRC9 : Fld := ⟨RW.GDRV_SRC, 18, 2, false⟩
@[reducible] def GDRV_SRC_SRC10 : Fld := ⟨RW.GDRV_SRC, 20, 2, false⟩
@[reducible] def GDRV_SRC_SRC11 : Fld := ⟨RW.GDRV_SRC, 22, 2, false⟩
@[reducible] def GDRV_SRC_SRC12 : Fld := ⟨RW.GDRV_SRC, 24, 2, false⟩
@[reducible] def GDRV_SRC_SRC13 : Fld := ⟨RW.GDRV_SRC, 26, 2, false⟩
@[reducible] def GDRV_SRC_SRC14 : Fld := ⟨RW.GDRV_SRC, 28, 2, false⟩
@[reducible] def GDRV_SRC_SRC15 : Fld := ⟨RW.GDRV_SRC, 30, 2, false⟩
@[reducible] def GDRV_SRC_SRC16 : Fld := ⟨RW.GDRV_SRC, 32, 2, false⟩
@[reducible] def GDRV_SRC_SRC17 : Fld := ⟨RW.GDRV_SRC, 34, 2, false⟩
@[reducible] def GDRV_SRC_SRC18 : Fld := ⟨RW.GDRV_SRC, 36, 2, false⟩
@[reducible] def GDRV_SRC_SRC19 : Fld := ⟨RW.GDRV_SRC, 38, 2, false⟩
@[reducible] def GDRV_SRC_SRC20 : Fld := ⟨RW.GDRV_SRC, 40, 2, false⟩
@[reducible] def GDRV_SRC_SRC21 : Fld := ⟨RW.GDRV_SRC, 42, 2, false⟩
@[reducible] def GDRV_SRC_SRC22 : Fld := ⟨RW.GDRV_SRC, 44, 2, false⟩
@[reducible] def GDRV_SRC_SRC23 : Fld := ⟨RW.GDRV_SRC, 46, 2, false⟩
@[reducible] def GDRV_HB_CFG_ISRC (h : Nat) : Fld := ⟨RW.GDRV_HB_CFG h, 0, 4, false⟩
@[reducible] def GDRV_HB_CFG_ISNK (h : Nat) : Fld := ⟨RW.GDRV_HB_CFG h, 4, 4, false⟩
@[reducible] def GDRV_HB_CFG_GFT (h : Nat) : Fld := ⟨RW.GDRV_HB_CFG h, 8, 8, false⟩
@[reducible] def GDRV_SGC_TOKEN (c : Nat) : Fld := ⟨RW.GDRV_SGC c, 8, 4, false⟩
@[reducible] def GDRV_SGC_STATE0 (c : Nat) : Fld := ⟨RW.GDRV_SGC c, 0, 2, false⟩
@[reducible] def GDRV_SGC_STATE1 (c : Nat) : Fld := ⟨RW.GDRV_SGC c, 2, 2, false⟩
@[reducible] def GDRV_SGC_STATE2 (c : Nat) : Fld := ⟨RW.GDRV_SGC c, 4, 2, false⟩
@[reducible] def GDRV_SGCFG_SGTO : Fld := ⟨RW.GDRV_SGCFG, 0, 16, false⟩
@[reducible] def GDRV_GFLT_VALID : Fld := ⟨RW.GDRV_GFLT, 0, 1, true⟩
@[reducible] def GDRV_GFLT_KIND : Fld := ⟨RW.GDRV_GFLT, 1, 2, false⟩
@[reducible] def GDRV_GFLT_SIDE : Fld := ⟨RW.GDRV_GFLT, 3, 1, false⟩
@[reducible] def GDRV_GFLT_HB : Fld := ⟨RW.GDRV_GFLT, 4, 5, false⟩
@[reducible] def GDRV_GFLT_COUNT : Fld := ⟨RW.GDRV_GFLT, 9, 7, false⟩
@[reducible] def GDRV_GFLT_TIME : Fld := ⟨RW.GDRV_GFLT, 16, 32, false⟩
@[reducible] def GDRV_STAT_WREJ : Fld := ⟨RW.GDRV_STAT, 0, 1, true⟩
@[reducible] def GDRV_STAT_CFGREJ : Fld := ⟨RW.GDRV_STAT, 1, 1, true⟩
@[reducible] def GDRV_STAT_SGTOUT : Fld := ⟨RW.GDRV_STAT, 8, 8, true⟩
@[reducible] def GDRV_STAT_SGDUP : Fld := ⟨RW.GDRV_STAT, 16, 16, false⟩
@[reducible] def PROTC_VDS_VEN (c : Nat) : Fld := ⟨RW.PROTC_VDS c, 0, 1, false⟩
@[reducible] def PROTC_VDS_VTHH (c : Nat) : Fld := ⟨RW.PROTC_VDS c, 4, 5, false⟩
@[reducible] def PROTC_VDS_VTHL (c : Nat) : Fld := ⟨RW.PROTC_VDS c, 9, 5, false⟩
@[reducible] def PROTC_VDS_VBLK (c : Nat) : Fld := ⟨RW.PROTC_VDS c, 16, 10, false⟩
@[reducible] def PROTC_VDS_VFILT (c : Nat) : Fld := ⟨RW.PROTC_VDS c, 32, 10, false⟩
@[reducible] def PROTC_OC_OCEN (c : Nat) : Fld := ⟨RW.PROTC_OC c, 0, 1, false⟩
@[reducible] def PROTC_OC_POS (c : Nat) : Fld := ⟨RW.PROTC_OC c, 1, 1, false⟩
@[reducible] def PROTC_OC_NEG (c : Nat) : Fld := ⟨RW.PROTC_OC c, 2, 1, false⟩
@[reducible] def PROTC_OC_OCTH (c : Nat) : Fld := ⟨RW.PROTC_OC c, 4, 8, false⟩
@[reducible] def PROTC_OC_OCBLK (c : Nat) : Fld := ⟨RW.PROTC_OC c, 16, 10, false⟩
@[reducible] def PROTC_OC_OCFILT (c : Nat) : Fld := ⟨RW.PROTC_OC c, 32, 10, false⟩
@[reducible] def PROTC_REACT_VDS (c : Nat) : Fld := ⟨RW.PROTC_REACT c, 0, 3, false⟩
@[reducible] def PROTC_REACT_OC (c : Nat) : Fld := ⟨RW.PROTC_REACT c, 3, 3, false⟩
@[reducible] def PROTC_REACT_GFLT (c : Nat) : Fld := ⟨RW.PROTC_REACT c, 6, 3, false⟩
@[reducible] def PROTC_REACT_OV (c : Nat) : Fld := ⟨RW.PROTC_REACT c, 9, 3, false⟩
@[reducible] def PROTC_REACT_UV (c : Nat) : Fld := ⟨RW.PROTC_REACT c, 12, 3, false⟩
@[reducible] def PROTC_REACT_THERM (c : Nat) : Fld := ⟨RW.PROTC_REACT c, 15, 3, false⟩
@[reducible] def PROTC_REACT_NTC (c : Nat) : Fld := ⟨RW.PROTC_REACT c, 18, 3, false⟩
@[reducible] def PROTC_REACT_CBCMAX (c : Nat) : Fld := ⟨RW.PROTC_REACT c, 24, 4, false⟩
@[reducible] def PROTC_BLK_WEN (c : Nat) : Fld := ⟨RW.PROTC_BLK c, 0, 8, false⟩
@[reducible] def PROTC_BLK_WVDS (c : Nat) : Fld := ⟨RW.PROTC_BLK c, 8, 1, false⟩
@[reducible] def PROTC_BLK_WOC (c : Nat) : Fld := ⟨RW.PROTC_BLK c, 9, 1, false⟩
@[reducible] def PROTC_CLR_CLR (c : Nat) : Fld := ⟨RW.PROTC_CLR c, 0, 1, false⟩
@[reducible] def PROTC_FSTAT_SRC (c : Nat) : Fld := ⟨RW.PROTC_FSTAT c, 1, 12, false⟩
@[reducible] def PROTC_STAT_ACT (c : Nat) : Fld := ⟨RW.PROTC_STAT c, 0, 3, false⟩
@[reducible] def PROTC_STAT_CBCCNT (c : Nat) : Fld := ⟨RW.PROTC_STAT c, 16, 16, false⟩
@[reducible] def PROT_VBAT_OVEN : Fld := ⟨RW.PROT_VBAT, 0, 1, false⟩
@[reducible] def PROT_VBAT_UVEN : Fld := ⟨RW.PROT_VBAT, 1, 1, false⟩
@[reducible] def PROT_VBAT_OVTH : Fld := ⟨RW.PROT_VBAT, 4, 4, false⟩
@[reducible] def PROT_VBAT_UVTH : Fld := ⟨RW.PROT_VBAT, 8, 4, false⟩
@[reducible] def PROT_VBAT_OVFILT : Fld := ⟨RW.PROT_VBAT, 16, 10, false⟩
@[reducible] def PROT_VBAT_UVFILT : Fld := ⟨RW.PROT_VBAT, 32, 10, false⟩
@[reducible] def PROT_THERM_DTH : Fld := ⟨RW.PROT_THERM, 0, 4, false⟩
@[reducible] def PROT_NTC_NTCTH (k : Nat) : Fld := ⟨RW.PROT_NTC k, 0, 16, false⟩
@[reducible] def PROT_NTC_NTCOPEN (k : Nat) : Fld := ⟨RW.PROT_NTC k, 16, 16, false⟩
@[reducible] def PROT_NTC_MAP (k : Nat) : Fld := ⟨RW.PROT_NTC k, 32, 8, false⟩
@[reducible] def PROT_NTC_NCNT (k : Nat) : Fld := ⟨RW.PROT_NTC k, 40, 4, false⟩
@[reducible] def PROT_NTC_EN (k : Nat) : Fld := ⟨RW.PROT_NTC k, 44, 1, false⟩
@[reducible] def PROT_FREC_VALID : Fld := ⟨RW.PROT_FREC, 0, 1, true⟩
@[reducible] def PROT_FREC_SRC : Fld := ⟨RW.PROT_FREC, 1, 4, false⟩
@[reducible] def PROT_FREC_COURSE : Fld := ⟨RW.PROT_FREC, 5, 3, false⟩
@[reducible] def PROT_FREC_HB : Fld := ⟨RW.PROT_FREC, 8, 5, false⟩
@[reducible] def PROT_FREC_COUNT : Fld := ⟨RW.PROT_FREC, 16, 16, false⟩
@[reducible] def PROT_FTIME_T : Fld := ⟨RW.PROT_FTIME, 0, 48, false⟩
@[reducible] def PROT_FNEN_EN : Fld := ⟨RW.PROT_FNEN, 1, 12, false⟩
@[reducible] def PROT_STAT_WREJ : Fld := ⟨RW.PROT_STAT, 0, 1, true⟩
@[reducible] def PROT_STAT_CLRREJ : Fld := ⟨RW.PROT_STAT, 1, 1, true⟩
@[reducible] def PROT_STAT_NTCOPEN : Fld := ⟨RW.PROT_STAT, 4, 4, true⟩
@[reducible] def PROT_STAT_NTCSTALE : Fld := ⟨RW.PROT_STAT, 8, 4, true⟩
@[reducible] def FADC_CTL_EN : Fld := ⟨RW.FADC_CTL, 0, 1, false⟩
@[reducible] def FADC_CTL_QDCLR : Fld := ⟨RW.FADC_CTL, 1, 1, false⟩
@[reducible] def FADC_STAT_RDY : Fld := ⟨RW.FADC_STAT, 0, 1, false⟩
@[reducible] def FADC_STAT_CALHOLD : Fld := ⟨RW.FADC_STAT, 1, 1, false⟩
@[reducible] def FADC_STAT_NOROUTE : Fld := ⟨RW.FADC_STAT, 2, 1, true⟩
@[reducible] def FADC_STAT_DIAGBAD : Fld := ⟨RW.FADC_STAT, 3, 1, true⟩
@[reducible] def FADC_STAT_SPARE : Fld := ⟨RW.FADC_STAT, 4, 3, false⟩
@[reducible] def FADC_STAT_UREJ : Fld := ⟨RW.FADC_STAT, 16, 16, false⟩
@[reducible] def FADC_STAT_XMERGE : Fld := ⟨RW.FADC_STAT, 32, 16, false⟩
@[reducible] def FADC_SMASK_MASK : Fld := ⟨RW.FADC_SMASK, 0, 48, false⟩
@[reducible] def FADC_SCTL_SMODE : Fld := ⟨RW.FADC_SCTL, 0, 2, false⟩
@[reducible] def FADC_SCTL_STRIG : Fld := ⟨RW.FADC_SCTL, 2, 3, false⟩
@[reducible] def FADC_SCTL_GO : Fld := ⟨RW.FADC_SCTL, 5, 1, false⟩
@[reducible] def FADC_SCTL_SRUN : Fld := ⟨RW.FADC_SCTL, 6, 1, false⟩
@[reducible] def FADC_SCTL_SSKIP : Fld := ⟨RW.FADC_SCTL, 16, 16, false⟩
@[reducible] def FADC_AMP_GAIN0 : Fld := ⟨RW.FADC_AMP, 0, 2, false⟩
@[reducible] def FADC_AMP_GAIN1 : Fld := ⟨RW.FADC_AMP, 2, 2, false⟩
@[reducible] def FADC_AMP_GAIN2 : Fld := ⟨RW.FADC_AMP, 4, 2, false⟩
@[reducible] def FADC_AMP_GAIN3 : Fld := ⟨RW.FADC_AMP, 6, 2, false⟩
@[reducible] def FADC_AMP_GAIN4 : Fld := ⟨RW.FADC_AMP, 8, 2, false⟩
@[reducible] def FADC_AMP_GAIN5 : Fld := ⟨RW.FADC_AMP, 10, 2, false⟩
@[reducible] def FADC_AMP_GAIN6 : Fld := ⟨RW.FADC_AMP, 12, 2, false⟩
@[reducible] def FADC_AMP_GAIN7 : Fld := ⟨RW.FADC_AMP, 14, 2, false⟩
@[reducible] def FADC_XEN_EN : Fld := ⟨RW.FADC_XEN, 0, 24, false⟩
@[reducible] def FADC_XEN_EDGE : Fld := ⟨RW.FADC_XEN, 24, 2, false⟩
@[reducible] def FADC_DACOWN_OWNER : Fld := ⟨RW.FADC_DACOWN, 0, 8, false⟩
@[reducible] def FADC_DAC_CODE : Fld := ⟨RW.FADC_DAC, 0, 10, false⟩
@[reducible] def FADC_DAC_DIAGEN : Fld := ⟨RW.FADC_DAC, 10, 1, false⟩
@[reducible] def FADC_DAC_DIAGCH : Fld := ⟨RW.FADC_DAC, 16, 6, false⟩
@[reducible] def FADC_UMASK_MASK (c : Nat) : Fld := ⟨RW.FADC_UMASK c, 0, 48, false⟩
@[reducible] def FADC_QCFG_THR : Fld := ⟨RW.FADC_QCFG, 0, 9, false⟩
@[reducible] def FADC_QSTAT_LEVEL : Fld := ⟨RW.FADC_QSTAT, 0, 9, false⟩
@[reducible] def FADC_QSTAT_PLEVEL : Fld := ⟨RW.FADC_QSTAT, 16, 9, false⟩
@[reducible] def FADC_QPOP_ENTRY : Fld := ⟨RW.FADC_QPOP, 0, 48, false⟩
@[reducible] def FADC_QPEEK_ENTRY : Fld := ⟨RW.FADC_QPEEK, 0, 48, false⟩
@[reducible] def FADC_QDROP_COUNT : Fld := ⟨RW.FADC_QDROP, 0, 48, false⟩
@[reducible] def FADC_DROPTOT_N : Fld := ⟨RW.FADC_DROPTOT, 0, 48, false⟩
@[reducible] def FADC_DONE_N : Fld := ⟨RW.FADC_DONE, 0, 48, false⟩
@[reducible] def FADC_DELIV_N : Fld := ⟨RW.FADC_DELIV, 0, 48, false⟩
@[reducible] def FADC_COEF_OFS (k : Nat) : Fld := ⟨RW.FADC_COEF k, 0, 10, false⟩
@[reducible] def FADC_COEF_GAIN (k : Nat) : Fld := ⟨RW.FADC_COEF k, 16, 16, false⟩
@[reducible] def FADC_COEF_SKEW (k : Nat) : Fld := ⟨RW.FADC_COEF k, 32, 7, false⟩
@[reducible] def FADC_ROUTE_ROUTE0 (r : Nat) : Fld := ⟨RW.FADC_ROUTE r, 0, 9, false⟩
@[reducible] def FADC_ROUTE_ROUTE1 (r : Nat) : Fld := ⟨RW.FADC_ROUTE r, 12, 9, false⟩
@[reducible] def FADC_ROUTE_ROUTE2 (r : Nat) : Fld := ⟨RW.FADC_ROUTE r, 24, 9, false⟩
@[reducible] def FADC_ROUTE_ROUTE3 (r : Nat) : Fld := ⟨RW.FADC_ROUTE r, 36, 9, false⟩
@[reducible] def ICONV_IC0CFG_EN : Fld := ⟨RW.ICONV_IC0CFG, 0, 1, false⟩
@[reducible] def ICONV_IC0CFG_REN : Fld := ⟨RW.ICONV_IC0CFG, 1, 1, false⟩
@[reducible] def ICONV_IC0CFG_BEN : Fld := ⟨RW.ICONV_IC0CFG, 2, 1, false⟩
@[reducible] def ICONV_IC0CFG_WMODE : Fld := ⟨RW.ICONV_IC0CFG, 4, 1, false⟩
@[reducible] def ICONV_IC0CFG_WCRS : Fld := ⟨RW.ICONV_IC0CFG, 5, 3, false⟩
@[reducible] def ICONV_IC0CFG_WDIV : Fld := ⟨RW.ICONV_IC0CFG, 8, 4, false⟩
@[reducible] def ICONV_IC0CFG_WLEN : Fld := ⟨RW.ICONV_IC0CFG, 12, 19, false⟩
@[reducible] def ICONV_IC1CFG_EN : Fld := ⟨RW.ICONV_IC1CFG, 0, 1, false⟩
@[reducible] def ICONV_IC1CFG_CONT : Fld := ⟨RW.ICONV_IC1CFG, 1, 1, false⟩
@[reducible] def ICONV_IC1CFG_GO : Fld := ⟨RW.ICONV_IC1CFG, 2, 1, false⟩
@[reducible] def ICONV_IC1CFG_WMODE : Fld := ⟨RW.ICONV_IC1CFG, 4, 1, false⟩
@[reducible] def ICONV_IC1CFG_WCRS : Fld := ⟨RW.ICONV_IC1CFG, 5, 3, false⟩
@[reducible] def ICONV_IC1CFG_WDIV : Fld := ⟨RW.ICONV_IC1CFG, 8, 4, false⟩
@[reducible] def ICONV_IC1CFG_WLEN : Fld := ⟨RW.ICONV_IC1CFG, 12, 19, false⟩
@[reducible] def ICONV_IC1CFG_SETTLE : Fld := ⟨RW.ICONV_IC1CFG, 31, 8, false⟩
@[reducible] def ICONV_IC1MASK_CODEL : Fld := ⟨RW.ICONV_IC1MASK, 4, 7, false⟩
@[reducible] def ICONV_IC1MASK_CODEH : Fld := ⟨RW.ICONV_IC1MASK, 12, 4, false⟩
@[reducible] def ICONV_STAT_CHG_GAP : Fld := ⟨RW.ICONV_STAT, 0, 1, true⟩
@[reducible] def ICONV_STAT_GAPSRC : Fld := ⟨RW.ICONV_STAT, 1, 3, false⟩
@[reducible] def ICONV_STAT_IC1BUSY : Fld := ⟨RW.ICONV_STAT, 4, 1, false⟩
@[reducible] def ICONV_STAT_ORR : Fld := ⟨RW.ICONV_STAT, 5, 1, true⟩
@[reducible] def ICONV_STAT_ORB : Fld := ⟨RW.ICONV_STAT, 6, 1, true⟩
@[reducible] def ICONV_STAT_CFGREJ : Fld := ⟨RW.ICONV_STAT, 7, 1, true⟩
@[reducible] def ICONV_QRSV_Q : Fld := ⟨RW.ICONV_QRSV, 0, 48, false⟩
@[reducible] def ICONV_QBAT_Q : Fld := ⟨RW.ICONV_QBAT, 0, 48, false⟩
@[reducible] def ICONV_QLOADR_Q : Fld := ⟨RW.ICONV_QLOADR, 0, 48, false⟩
@[reducible] def ICONV_QLOADB_Q : Fld := ⟨RW.ICONV_QLOADB, 0, 48, false⟩
@[reducible] def ICONV_LPQR_Q : Fld := ⟨RW.ICONV_LPQR, 0, 48, false⟩
@[reducible] def ICONV_LPQB_Q : Fld := ⟨RW.ICONV_LPQB, 0, 48, false⟩
@[reducible] def ICONV_TST_EN : Fld := ⟨RW.ICONV_TST, 0, 1, false⟩
@[reducible] def ICONV_TST_TGT : Fld := ⟨RW.ICONV_TST, 1, 2, false⟩
@[reducible] def ICONV_CALR_STEP : Fld := ⟨RW.ICONV_CALR, 0, 32, false⟩
@[reducible] def ICONV_CALB_STEP : Fld := ⟨RW.ICONV_CALB, 0, 32, false⟩
@[reducible] def ICONV_RES_RES (j : Nat) : Fld := ⟨RW.ICONV_RES j, 0, 20, false⟩
@[reducible] def ICONV_RES_N (j : Nat) : Fld := ⟨RW.ICONV_RES j, 20, 19, false⟩
@[reducible] def ICONV_RES_FLAGS (j : Nat) : Fld := ⟨RW.ICONV_RES j, 39, 4, false⟩
@[reducible] def FE_CFG_EN (n : Nat) : Fld := ⟨RW.FE_CFG n, 0, 1, false⟩
@[reducible] def FE_CFG_MODE (n : Nat) : Fld := ⟨RW.FE_CFG n, 1, 1, false⟩
@[reducible] def FE_CFG_ICLS (n : Nat) : Fld := ⟨RW.FE_CFG n, 2, 1, false⟩
@[reducible] def FE_CFG_GAPRST (n : Nat) : Fld := ⟨RW.FE_CFG n, 3, 1, false⟩
@[reducible] def FE_CFG_ICHAN (n : Nat) : Fld := ⟨RW.FE_CFG n, 4, 6, false⟩
@[reducible] def FE_CFG_NTAPS (n : Nat) : Fld := ⟨RW.FE_CFG n, 10, 9, false⟩
@[reducible] def FE_CFG_MALEN (n : Nat) : Fld := ⟨RW.FE_CFG n, 19, 12, false⟩
@[reducible] def FE_CFG_DEC (n : Nat) : Fld := ⟨RW.FE_CFG n, 31, 10, false⟩
@[reducible] def FE_CFG_OSH (n : Nat) : Fld := ⟨RW.FE_CFG n, 41, 5, false⟩
@[reducible] def FE_CFG_OBEN (n : Nat) : Fld := ⟨RW.FE_CFG n, 46, 1, false⟩
@[reducible] def FE_IOFS_IOFS (n : Nat) : Fld := ⟨RW.FE_IOFS n, 0, 17, false⟩
@[reducible] def FE_BANK_ACT (n : Nat) : Fld := ⟨RW.FE_BANK n, 0, 1, false⟩
@[reducible] def FE_BANK_SWAP (n : Nat) : Fld := ⟨RW.FE_BANK n, 1, 1, false⟩
@[reducible] def FE_BANK_LOAD (n : Nat) : Fld := ⟨RW.FE_BANK n, 2, 1, false⟩
@[reducible] def FE_BANK_LDBUSY (n : Nat) : Fld := ⟨RW.FE_BANK n, 3, 1, false⟩
@[reducible] def FE_BANK_SWPEND (n : Nat) : Fld := ⟨RW.FE_BANK n, 4, 1, false⟩
@[reducible] def FE_BANK_AVALID (n : Nat) : Fld := ⟨RW.FE_BANK n, 5, 1, false⟩
@[reducible] def FE_BANK_BVALID (n : Nat) : Fld := ⟨RW.FE_BANK n, 6, 1, false⟩
@[reducible] def FE_BANK_LADDR (n : Nat) : Fld := ⟨RW.FE_BANK n, 8, 24, false⟩
@[reducible] def FE_BANK_LCNT (n : Nat) : Fld := ⟨RW.FE_BANK n, 32, 9, false⟩
@[reducible] def FE_OBUF_BASE (n : Nat) : Fld := ⟨RW.FE_OBUF n, 0, 24, false⟩
@[reducible] def FE_OBUF_LEN (n : Nat) : Fld := ⟨RW.FE_OBUF n, 24, 16, false⟩
@[reducible] def FE_OWP_COUNT (n : Nat) : Fld := ⟨RW.FE_OWP n, 0, 48, false⟩
@[reducible] def FE_DCFG_DSRC (n : Nat) : Fld := ⟨RW.FE_DCFG n, 0, 1, false⟩
@[reducible] def FE_DCFG_DSH (n : Nat) : Fld := ⟨RW.FE_DCFG n, 1, 4, false⟩
@[reducible] def FE_DCFG_DWIN (n : Nat) : Fld := ⟨RW.FE_DCFG n, 16, 16, false⟩
@[reducible] def FE_DCFG_EVSEL (n : Nat) : Fld := ⟨RW.FE_DCFG n, 32, 8, false⟩
@[reducible] def FE_ENVK_KATT (n : Nat) : Fld := ⟨RW.FE_ENVK n, 0, 16, false⟩
@[reducible] def FE_ENVK_KREL (n : Nat) : Fld := ⟨RW.FE_ENVK n, 16, 16, false⟩
@[reducible] def FE_ETH_ETHH (n : Nat) : Fld := ⟨RW.FE_ETH n, 0, 24, false⟩
@[reducible] def FE_ETH_ETHL (n : Nat) : Fld := ⟨RW.FE_ETH n, 24, 24, false⟩
@[reducible] def FE_PTH_PTH (n : Nat) : Fld := ⟨RW.FE_PTH n, 0, 24, false⟩
@[reducible] def FE_Y_Y (n : Nat) : Fld := ⟨RW.FE_Y n, 0, 28, false⟩
@[reducible] def FE_Y_TIME (n : Nat) : Fld := ⟨RW.FE_Y n, 28, 20, false⟩
@[reducible] def FE_PK_PMAX (n : Nat) : Fld := ⟨RW.FE_PK n, 0, 24, false⟩
@[reducible] def FE_PK_PMIN (n : Nat) : Fld := ⟨RW.FE_PK n, 24, 24, false⟩
@[reducible] def FE_RMS_RMS (n : Nat) : Fld := ⟨RW.FE_RMS n, 0, 24, false⟩
@[reducible] def FE_RMS_WCNT (n : Nat) : Fld := ⟨RW.FE_RMS n, 24, 24, false⟩
@[reducible] def FE_ENV_ENV (n : Nat) : Fld := ⟨RW.FE_ENV n, 0, 24, false⟩
@[reducible] def FE_ENV_ABOVE (n : Nat) : Fld := ⟨RW.FE_ENV n, 24, 1, false⟩
@[reducible] def FE_STAT_FULL (n : Nat) : Fld := ⟨RW.FE_STAT n, 0, 1, false⟩
@[reducible] def FE_STAT_CLIPIN (n : Nat) : Fld := ⟨RW.FE_STAT n, 1, 1, true⟩
@[reducible] def FE_STAT_GAPIN (n : Nat) : Fld := ⟨RW.FE_STAT n, 2, 1, true⟩
@[reducible] def FE_STAT_MEMERR (n : Nat) : Fld := ⟨RW.FE_STAT n, 3, 1, true⟩
@[reducible] def FE_STAT_CFGREJ (n : Nat) : Fld := ⟨RW.FE_STAT n, 4, 1, true⟩
@[reducible] def FE_STAT_BANKREJ (n : Nat) : Fld := ⟨RW.FE_STAT n, 5, 1, true⟩
@[reducible] def FE_STAT_OSAT (n : Nat) : Fld := ⟨RW.FE_STAT n, 6, 1, true⟩
@[reducible] def FE_STAT_STALL (n : Nat) : Fld := ⟨RW.FE_STAT n, 16, 16, false⟩
@[reducible] def FE_STAT_MISMATCH (n : Nat) : Fld := ⟨RW.FE_STAT n, 32, 16, false⟩
@[reducible] def FE_EVSTAT_SRC (n : Nat) : Fld := ⟨RW.FE_EVSTAT n, 0, 8, true⟩
@[reducible] def AQ_CFG_EN (n : Nat) : Fld := ⟨RW.AQ_CFG n, 0, 1, false⟩
@[reducible] def AQ_CFG_MODE (n : Nat) : Fld := ⟨RW.AQ_CFG n, 1, 1, false⟩
@[reducible] def AQ_CFG_ICLS (n : Nat) : Fld := ⟨RW.AQ_CFG n, 2, 1, false⟩
@[reducible] def AQ_CFG_ICHAN (n : Nat) : Fld := ⟨RW.AQ_CFG n, 4, 6, false⟩
@[reducible] def AQ_CFG_SRC (n : Nat) : Fld := ⟨RW.AQ_CFG n, 10, 2, false⟩
@[reducible] def AQ_CFG_FEN (n : Nat) : Fld := ⟨RW.AQ_CFG n, 12, 2, false⟩
@[reducible] def AQ_CFG_AUTO (n : Nat) : Fld := ⟨RW.AQ_CFG n, 14, 1, false⟩
@[reducible] def AQ_CFG_REDF (n : Nat) : Fld := ⟨RW.AQ_CFG n, 16, 12, false⟩
@[reducible] def AQ_CFG_EVSEL (n : Nat) : Fld := ⟨RW.AQ_CFG n, 28, 4, false⟩
@[reducible] def AQ_DEPTH_PRE (n : Nat) : Fld := ⟨RW.AQ_DEPTH n, 0, 16, false⟩
@[reducible] def AQ_DEPTH_POST (n : Nat) : Fld := ⟨RW.AQ_DEPTH n, 16, 16, false⟩
@[reducible] def AQ_DESC_ADDR (n : Nat) : Fld := ⟨RW.AQ_DESC n, 0, 24, false⟩
@[reducible] def AQ_CMD_ARM (n : Nat) : Fld := ⟨RW.AQ_CMD n, 0, 1, false⟩
@[reducible] def AQ_CMD_STOP (n : Nat) : Fld := ⟨RW.AQ_CMD n, 1, 1, false⟩
@[reducible] def AQ_CMD_FORCE (n : Nat) : Fld := ⟨RW.AQ_CMD n, 2, 1, false⟩
@[reducible] def AQ_STAT_STATE (n : Nat) : Fld := ⟨RW.AQ_STAT n, 0, 2, false⟩
@[reducible] def AQ_STAT_STAGE (n : Nat) : Fld := ⟨RW.AQ_STAT n, 2, 1, false⟩
@[reducible] def AQ_STAT_CFGREJ (n : Nat) : Fld := ⟨RW.AQ_STAT n, 3, 1, true⟩
@[reducible] def AQ_STAT_ARMERR (n : Nat) : Fld := ⟨RW.AQ_STAT n, 4, 1, true⟩
@[reducible] def AQ_STAT_MEMERR (n : Nat) : Fld := ⟨RW.AQ_STAT n, 5, 1, true⟩
@[reducible] def AQ_STAT_SEQ (n : Nat) : Fld := ⟨RW.AQ_STAT n, 16, 16, false⟩
@[reducible] def AQ_STAT_STALL (n : Nat) : Fld := ⟨RW.AQ_STAT n, 32, 8, false⟩
@[reducible] def AQ_STAT_LOST (n : Nat) : Fld := ⟨RW.AQ_STAT n, 40, 4, false⟩
@[reducible] def AQ_STAT_MISMATCH (n : Nat) : Fld := ⟨RW.AQ_STAT n, 44, 4, false⟩
@[reducible] def AQ_TDT_DT (n : Nat) : Fld := ⟨RW.AQ_TDT n, 0, 48, false⟩
@[reducible] def AQ_TPOS_W2 (n : Nat) : Fld := ⟨RW.AQ_TPOS n, 0, 48, false⟩
@[reducible] def AQ_TCAUSE_W3 (n : Nat) : Fld := ⟨RW.AQ_TCAUSE n, 0, 48, false⟩
@[reducible] def AQ_TAT_DT (n : Nat) : Fld := ⟨RW.AQ_TAT n, 0, 48, false⟩
@[reducible] def AQ_MC_GRP (n : Nat) : Fld := ⟨RW.AQ_MC n, 0, 1, false⟩
@[reducible] def AQ_MC_FOUT (n : Nat) : Fld := ⟨RW.AQ_MC n, 1, 1, false⟩
@[reducible] def AQ_EVSTAT_SRC (n : Nat) : Fld := ⟨RW.AQ_EVSTAT n, 0, 4, true⟩
@[reducible] def AQ_COND_KIND (n : Nat) (k : Nat) : Fld := ⟨RW.AQ_COND n k, 0, 4, false⟩
@[reducible] def AQ_COND_ACT (n : Nat) (k : Nat) : Fld := ⟨RW.AQ_COND n k, 4, 2, false⟩
@[reducible] def AQ_COND_GATE (n : Nat) (k : Nat) : Fld := ⟨RW.AQ_COND n k, 6, 1, false⟩
@[reducible] def AQ_COND_TH (n : Nat) (k : Nat) : Fld := ⟨RW.AQ_COND n k, 8, 28, false⟩
@[reducible] def AQ_COND_EVL (n : Nat) (k : Nat) : Fld := ⟨RW.AQ_COND n k, 36, 8, false⟩
@[reducible] def AQ_GARMAT_DT : Fld := ⟨RW.AQ_GARMAT, 0, 48, false⟩
@[reducible] def AQ_GARM_GO : Fld := ⟨RW.AQ_GARM, 0, 1, false⟩
@[reducible] def AQ_FIRESTAT_VALID : Fld := ⟨RW.AQ_FIRESTAT, 0, 4, true⟩
@[reducible] def AQ_FIRESTAT_CAUSE : Fld := ⟨RW.AQ_FIRESTAT, 4, 2, false⟩
@[reducible] def AQ_FIRESTAT_MULTI : Fld := ⟨RW.AQ_FIRESTAT, 6, 1, false⟩
@[reducible] def AQ_MCSTAT_LATEARM : Fld := ⟨RW.AQ_MCSTAT, 0, 1, true⟩
@[reducible] def AQ_MCSTAT_GREJ : Fld := ⟨RW.AQ_MCSTAT, 1, 1, true⟩
@[reducible] def AQ_FIRET_DT (p : Nat) : Fld := ⟨RW.AQ_FIRET p, 0, 48, false⟩
@[reducible] def POS_CFG_EN (c : Nat) : Fld := ⟨RW.POS_CFG c, 0, 1, false⟩
@[reducible] def POS_CFG_DIR (c : Nat) : Fld := ⟨RW.POS_CFG c, 1, 1, false⟩
@[reducible] def POS_CFG_HPOL (c : Nat) : Fld := ⟨RW.POS_CFG c, 4, 3, false⟩
@[reducible] def POS_CFG_HFILT (c : Nat) : Fld := ⟨RW.POS_CFG c, 8, 8, false⟩
@[reducible] def POS_CFG_EVT (c : Nat) : Fld := ⟨RW.POS_CFG c, 16, 1, false⟩
@[reducible] def POS_CFG_EVE (c : Nat) : Fld := ⟨RW.POS_CFG c, 17, 1, false⟩
@[reducible] def POS_CNT_COUNT (c : Nat) : Fld := ⟨RW.POS_CNT c, 0, 48, false⟩
@[reducible] def POS_SET_VALUE (c : Nat) : Fld := ⟨RW.POS_SET c, 0, 48, false⟩
@[reducible] def POS_ADD_DELTA (c : Nat) : Fld := ⟨RW.POS_ADD c, 0, 48, false⟩
@[reducible] def POS_STAT_UNC (c : Nat) : Fld := ⟨RW.POS_STAT c, 0, 1, true⟩
@[reducible] def POS_STAT_UNCSRC (c : Nat) : Fld := ⟨RW.POS_STAT c, 1, 3, false⟩
@[reducible] def POS_STAT_HSTATE (c : Nat) : Fld := ⟨RW.POS_STAT c, 4, 3, false⟩
@[reducible] def POS_STAT_SECT (c : Nat) : Fld := ⟨RW.POS_STAT c, 7, 3, false⟩
@[reducible] def POS_STAT_HINV (c : Nat) : Fld := ⟨RW.POS_STAT c, 10, 1, true⟩
@[reducible] def POS_STAT_PWRREF (c : Nat) : Fld := ⟨RW.POS_STAT c, 11, 1, true⟩
@[reducible] def POS_STAT_LDHIT (c : Nat) : Fld := ⟨RW.POS_STAT c, 12, 1, true⟩
@[reducible] def POS_STAT_WREJ (c : Nat) : Fld := ⟨RW.POS_STAT c, 13, 1, true⟩
@[reducible] def POS_STAT_HINVCNT (c : Nat) : Fld := ⟨RW.POS_STAT c, 16, 16, false⟩
@[reducible] def POS_STAT_SKIPCNT (c : Nat) : Fld := ⟨RW.POS_STAT c, 32, 16, false⟩
@[reducible] def POS_LAST_T (c : Nat) : Fld := ⟨RW.POS_LAST c, 0, 48, false⟩
@[reducible] def POS_TINT_INT (c : Nat) : Fld := ⟨RW.POS_TINT c, 0, 40, false⟩
@[reducible] def POS_TINT_DIR (c : Nat) : Fld := ⟨RW.POS_TINT c, 40, 1, false⟩
@[reducible] def POS_TINT_LP (c : Nat) : Fld := ⟨RW.POS_TINT c, 41, 1, false⟩
@[reducible] def POS_TINT_VALID (c : Nat) : Fld := ⟨RW.POS_TINT c, 42, 1, false⟩
@[reducible] def POS_LPD_DELTA (c : Nat) : Fld := ⟨RW.POS_LPD c, 0, 24, false⟩
@[reducible] def TC_CFG_EN (n : Nat) : Fld := ⟨RW.TC_CFG n, 0, 1, false⟩
@[reducible] def TC_CFG_MODE (n : Nat) : Fld := ⟨RW.TC_CFG n, 1, 1, false⟩
@[reducible] def TC_CFG_SEDGE (n : Nat) : Fld := ⟨RW.TC_CFG n, 2, 2, false⟩
@[reducible] def TC_CFG_PEDGE (n : Nat) : Fld := ⟨RW.TC_CFG n, 4, 2, false⟩
@[reducible] def TC_CFG_CHAIN (n : Nat) : Fld := ⟨RW.TC_CFG n, 6, 1, false⟩
@[reducible] def TC_CFG_SUBDIS (n : Nat) : Fld := ⟨RW.TC_CFG n, 7, 1, false⟩
@[reducible] def TC_CFG_SRC (n : Nat) : Fld := ⟨RW.TC_CFG n, 8, 7, false⟩
@[reducible] def TC_CFG_PSRC (n : Nat) : Fld := ⟨RW.TC_CFG n, 16, 7, false⟩
@[reducible] def TC_CFG_EVEN (n : Nat) : Fld := ⟨RW.TC_CFG n, 24, 1, false⟩
@[reducible] def TC_POP_DT (n : Nat) : Fld := ⟨RW.TC_POP n, 0, 48, false⟩
@[reducible] def TC_AUX_W1 (n : Nat) : Fld := ⟨RW.TC_AUX n, 0, 48, false⟩
@[reducible] def TC_STAT_LEVEL (n : Nat) : Fld := ⟨RW.TC_STAT n, 0, 4, false⟩
@[reducible] def TC_STAT_OPEN (n : Nat) : Fld := ⟨RW.TC_STAT n, 4, 1, false⟩
@[reducible] def TC_STAT_OVR (n : Nat) : Fld := ⟨RW.TC_STAT n, 8, 16, false⟩
@[reducible] def TC_STAT_COARSE (n : Nat) : Fld := ⟨RW.TC_STAT n, 24, 24, false⟩
@[reducible] def TC_CNT_ORPHAN (n : Nat) : Fld := ⟨RW.TC_CNT n, 0, 16, false⟩
@[reducible] def TC_CNT_RESTART (n : Nat) : Fld := ⟨RW.TC_CNT n, 16, 16, false⟩
@[reducible] def TC_CNT_SUBCNT (n : Nat) : Fld := ⟨RW.TC_CNT n, 32, 16, false⟩
@[reducible] def RSV_CFG_EN : Fld := ⟨RW.RSV_CFG, 0, 1, false⟩
@[reducible] def RSV_CFG_NCELL : Fld := ⟨RW.RSV_CFG, 1, 2, false⟩
@[reducible] def RSV_CHG_MODE : Fld := ⟨RW.RSV_CHG, 0, 2, false⟩
@[reducible] def RSV_CHG_ICHGV : Fld := ⟨RW.RSV_CHG, 2, 8, false⟩
@[reducible] def RSV_CHG_VCTGT : Fld := ⟨RW.RSV_CHG, 10, 9, false⟩
@[reducible] def RSV_CHG_VRHYS : Fld := ⟨RW.RSV_CHG, 19, 8, false⟩
@[reducible] def RSV_LIM_VCMAX : Fld := ⟨RW.RSV_LIM, 0, 9, false⟩
@[reducible] def RSV_LIM_VCMIN : Fld := ⟨RW.RSV_LIM, 9, 9, false⟩
@[reducible] def RSV_LIM_SUMTH : Fld := ⟨RW.RSV_LIM, 18, 8, false⟩
@[reducible] def RSV_LIM_BALTH : Fld := ⟨RW.RSV_LIM, 26, 8, false⟩
@[reducible] def RSV_LIM_BALEN : Fld := ⟨RW.RSV_LIM, 34, 1, false⟩
@[reducible] def RSV_LIM_BALPAUSE : Fld := ⟨RW.RSV_LIM, 35, 1, false⟩
@[reducible] def RSV_OWCFG_GO : Fld := ⟨RW.RSV_OWCFG, 0, 1, false⟩
@[reducible] def RSV_OWCFG_OWSET : Fld := ⟨RW.RSV_OWCFG, 1, 8, false⟩
@[reducible] def RSV_OWCFG_OWLO : Fld := ⟨RW.RSV_OWCFG, 9, 9, false⟩
@[reducible] def RSV_OWCFG_OWHI : Fld := ⟨RW.RSV_OWCFG, 18, 9, false⟩
@[reducible] def RSV_OWRES_BUSY : Fld := ⟨RW.RSV_OWRES, 18, 1, false⟩
@[reducible] def RSV_OWRES_VALID : Fld := ⟨RW.RSV_OWRES, 19, 1, true⟩
@[reducible] def RSV_OWRES_PIN0 : Fld := ⟨RW.RSV_OWRES, 0, 2, false⟩
@[reducible] def RSV_OWRES_PIN1 : Fld := ⟨RW.RSV_OWRES, 2, 2, false⟩
@[reducible] def RSV_OWRES_PIN2 : Fld := ⟨RW.RSV_OWRES, 4, 2, false⟩
@[reducible] def RSV_OWRES_PIN3 : Fld := ⟨RW.RSV_OWRES, 6, 2, false⟩
@[reducible] def RSV_OWRES_PIN4 : Fld := ⟨RW.RSV_OWRES, 8, 2, false⟩
@[reducible] def RSV_OWRES_CELL0 : Fld := ⟨RW.RSV_OWRES, 10, 2, false⟩
@[reducible] def RSV_OWRES_CELL1 : Fld := ⟨RW.RSV_OWRES, 12, 2, false⟩
@[reducible] def RSV_OWRES_CELL2 : Fld := ⟨RW.RSV_OWRES, 14, 2, false⟩
@[reducible] def RSV_OWRES_CELL3 : Fld := ⟨RW.RSV_OWRES, 16, 2, false⟩
@[reducible] def RSV_OWMV_DELTA0 : Fld := ⟨RW.RSV_OWMV, 0, 9, false⟩
@[reducible] def RSV_OWMV_DELTA1 : Fld := ⟨RW.RSV_OWMV, 9, 9, false⟩
@[reducible] def RSV_OWMV_DELTA2 : Fld := ⟨RW.RSV_OWMV, 18, 9, false⟩
@[reducible] def RSV_OWMV_DELTA3 : Fld := ⟨RW.RSV_OWMV, 27, 9, false⟩
@[reducible] def RSV_OWMV_DELTA4 : Fld := ⟨RW.RSV_OWMV, 36, 9, false⟩
@[reducible] def RSV_STAT_CHGST : Fld := ⟨RW.RSV_STAT, 0, 2, false⟩
@[reducible] def RSV_STAT_OVC : Fld := ⟨RW.RSV_STAT, 2, 4, true⟩
@[reducible] def RSV_STAT_UVC : Fld := ⟨RW.RSV_STAT, 6, 4, true⟩
@[reducible] def RSV_STAT_SUMERR : Fld := ⟨RW.RSV_STAT, 10, 1, true⟩
@[reducible] def RSV_STAT_BALON : Fld := ⟨RW.RSV_STAT, 11, 4, false⟩
@[reducible] def RSV_STAT_CFGREJ : Fld := ⟨RW.RSV_STAT, 15, 1, true⟩
@[reducible] def RSV_SDCFG_S2MAX : Fld := ⟨RW.RSV_SDCFG, 0, 6, false⟩
@[reducible] def RSV_SDCFG_RCRS : Fld := ⟨RW.RSV_SDCFG, 6, 8, false⟩
@[reducible] def RSV_SDCFG_S5 : Fld := ⟨RW.RSV_SDCFG, 14, 1, false⟩
@[reducible] def RSV_SDCFG_S4DOZE : Fld := ⟨RW.RSV_SDCFG, 15, 1, false⟩
@[reducible] def RSV_SDCFG_TRSV : Fld := ⟨RW.RSV_SDCFG, 16, 16, false⟩
@[reducible] def RSV_SDCFG_VEND : Fld := ⟨RW.RSV_SDCFG, 32, 8, false⟩
@[reducible] def RSV_SDCTL_CONN : Fld := ⟨RW.RSV_SDCTL, 0, 1, false⟩
@[reducible] def RSV_SDSTAT_STEP : Fld := ⟨RW.RSV_SDSTAT, 0, 3, false⟩
@[reducible] def RSV_SDSTAT_RESULT : Fld := ⟨RW.RSV_SDSTAT, 3, 3, false⟩
@[reducible] def RSV_SDSTAT_COMMIT : Fld := ⟨RW.RSV_SDSTAT, 6, 1, false⟩
@[reducible] def RSV_SDSTAT_FORCED : Fld := ⟨RW.RSV_SDSTAT, 7, 1, false⟩
@[reducible] def RSV_SDSTAT_TS3 : Fld := ⟨RW.RSV_SDSTAT, 8, 24, false⟩
@[reducible] def RSV_SDTIME_T : Fld := ⟨RW.RSV_SDTIME, 0, 48, false⟩
@[reducible] def HSP_CTL_ATTN : Fld := ⟨RW.HSP_CTL, 0, 1, false⟩
@[reducible] def HSP_CTL_EVEN : Fld := ⟨RW.HSP_CTL, 1, 1, false⟩
@[reducible] def HSP_STAT_FCNT : Fld := ⟨RW.HSP_STAT, 0, 4, false⟩
@[reducible] def HSP_STAT_RES : Fld := ⟨RW.HSP_STAT, 4, 3, false⟩
@[reducible] def HSP_STAT_LASTOP : Fld := ⟨RW.HSP_STAT, 8, 4, false⟩
@[reducible] def HSP_STAT_FRAMES : Fld := ⟨RW.HSP_STAT, 16, 16, false⟩
@[reducible] def HSP_STAT_POLLS : Fld := ⟨RW.HSP_STAT, 32, 16, false⟩
@[reducible] def HSP_TOKEN_TOK : Fld := ⟨RW.HSP_TOKEN, 0, 4, false⟩
@[reducible] def HSP_TOKEN_VALID : Fld := ⟨RW.HSP_TOKEN, 4, 1, false⟩
@[reducible] def HSP_TOKEN_DUP : Fld := ⟨RW.HSP_TOKEN, 8, 16, false⟩
@[reducible] def HSP_STW_NEXT : Fld := ⟨RW.HSP_STW, 0, 24, false⟩
@[reducible] def HSP_STW_DISC : Fld := ⟨RW.HSP_STW, 24, 16, false⟩
@[reducible] def HSP_STW_OVR : Fld := ⟨RW.HSP_STW, 40, 8, false⟩
@[reducible] def XSP_CTL_INV : Fld := ⟨RW.XSP_CTL, 0, 1, false⟩
@[reducible] def XSP_CTL_PFEN : Fld := ⟨RW.XSP_CTL, 1, 1, false⟩
@[reducible] def XSP_CTL_XSDLY : Fld := ⟨RW.XSP_CTL, 2, 2, false⟩
@[reducible] def XSP_CTL_EVEN : Fld := ⟨RW.XSP_CTL, 4, 1, false⟩
@[reducible] def XSP_CTL_SZ : Fld := ⟨RW.XSP_CTL, 8, 5, false⟩
@[reducible] def XSP_XTPL_CMD : Fld := ⟨RW.XSP_XTPL, 0, 8, false⟩
@[reducible] def XSP_XTPL_CMDL : Fld := ⟨RW.XSP_XTPL, 8, 2, false⟩
@[reducible] def XSP_XTPL_ADDRB : Fld := ⟨RW.XSP_XTPL, 10, 2, false⟩
@[reducible] def XSP_XTPL_ADDRL : Fld := ⟨RW.XSP_XTPL, 12, 2, false⟩
@[reducible] def XSP_XTPL_DUMMY : Fld := ⟨RW.XSP_XTPL, 14, 5, false⟩
@[reducible] def XSP_XTPL_DATAL : Fld := ⟨RW.XSP_XTPL, 20, 2, false⟩
@[reducible] def XSP_XTPL_DIV : Fld := ⟨RW.XSP_XTPL, 22, 8, false⟩
@[reducible] def XSP_XTO_TO : Fld := ⟨RW.XSP_XTO, 0, 16, false⟩
@[reducible] def XSP_LOCK_REQ : Fld := ⟨RW.XSP_LOCK, 0, 1, false⟩
@[reducible] def XSP_LOCK_REL : Fld := ⟨RW.XSP_LOCK, 1, 1, false⟩
@[reducible] def XSP_LOCK_HELD : Fld := ⟨RW.XSP_LOCK, 2, 1, false⟩
@[reducible] def XSP_LOCK_GRANT : Fld := ⟨RW.XSP_LOCK, 3, 1, true⟩
@[reducible] def XSP_SFCFG_SEL : Fld := ⟨RW.XSP_SFCFG, 0, 7, false⟩
@[reducible] def XSP_SFCFG_CMDEN : Fld := ⟨RW.XSP_SFCFG, 7, 1, false⟩
@[reducible] def XSP_SFCFG_CMDL : Fld := ⟨RW.XSP_SFCFG, 8, 2, false⟩
@[reducible] def XSP_SFCFG_ADDRB : Fld := ⟨RW.XSP_SFCFG, 10, 2, false⟩
@[reducible] def XSP_SFCFG_ADDRL : Fld := ⟨RW.XSP_SFCFG, 12, 2, false⟩
@[reducible] def XSP_SFCFG_DUMMY : Fld := ⟨RW.XSP_SFCFG, 14, 5, false⟩
@[reducible] def XSP_SFCFG_DATAL : Fld := ⟨RW.XSP_SFCFG, 20, 2, false⟩
@[reducible] def XSP_SFCFG_DIV : Fld := ⟨RW.XSP_SFCFG, 22, 8, false⟩
@[reducible] def XSP_SFCFG_DIR : Fld := ⟨RW.XSP_SFCFG, 30, 1, false⟩
@[reducible] def XSP_SFCFG_WRF : Fld := ⟨RW.XSP_SFCFG, 31, 1, false⟩
@[reducible] def XSP_SFCMD_CMD : Fld := ⟨RW.XSP_SFCMD, 0, 8, false⟩
@[reducible] def XSP_SFCMD_ADDR : Fld := ⟨RW.XSP_SFCMD, 8, 32, false⟩
@[reducible] def XSP_SFBUF_BUF : Fld := ⟨RW.XSP_SFBUF, 0, 24, false⟩
@[reducible] def XSP_SFBUF_LEN : Fld := ⟨RW.XSP_SFBUF, 24, 16, false⟩
@[reducible] def XSP_SFCTL_GO : Fld := ⟨RW.XSP_SFCTL, 0, 1, false⟩
@[reducible] def XSP_STAT_SFBUSY : Fld := ⟨RW.XSP_STAT, 0, 1, false⟩
@[reducible] def XSP_STAT_SFDONE : Fld := ⟨RW.XSP_STAT, 1, 1, true⟩
@[reducible] def XSP_STAT_SFREJ : Fld := ⟨RW.XSP_STAT, 2, 4, false⟩
@[reducible] def XSP_STAT_VALID : Fld := ⟨RW.XSP_STAT, 8, 8, false⟩
@[reducible] def XSP_STAT_XERR : Fld := ⟨RW.XSP_STAT, 16, 16, false⟩
@[reducible] def XSP_STAT_MISS : Fld := ⟨RW.XSP_STAT, 32, 16, false⟩
@[reducible] def CAN_CTL_MODE : Fld := ⟨RW.CAN_CTL, 0, 3, false⟩
@[reducible] def CAN_CTL_AUTOREC : Fld := ⟨RW.CAN_CTL, 3, 1, false⟩
@[reducible] def CAN_CTL_RECOVER : Fld := ⟨RW.CAN_CTL, 4, 1, false⟩
@[reducible] def CAN_CTL_TXORD : Fld := ⟨RW.CAN_CTL, 5, 1, false⟩
@[reducible] def CAN_CTL_BODISC : Fld := ⟨RW.CAN_CTL, 6, 1, false⟩
@[reducible] def CAN_CTL_EVSEL : Fld := ⟨RW.CAN_CTL, 8, 3, false⟩
@[reducible] def CAN_CTL_RXCHK : Fld := ⟨RW.CAN_CTL, 11, 2, false⟩
@[reducible] def CAN_NBT_BRP : Fld := ⟨RW.CAN_NBT, 0, 8, false⟩
@[reducible] def CAN_NBT_TSEG1 : Fld := ⟨RW.CAN_NBT, 8, 8, false⟩
@[reducible] def CAN_NBT_TSEG2 : Fld := ⟨RW.CAN_NBT, 16, 7, false⟩
@[reducible] def CAN_NBT_SJW : Fld := ⟨RW.CAN_NBT, 24, 7, false⟩
@[reducible] def CAN_DBT_BRP : Fld := ⟨RW.CAN_DBT, 0, 5, false⟩
@[reducible] def CAN_DBT_TSEG1 : Fld := ⟨RW.CAN_DBT, 8, 6, false⟩
@[reducible] def CAN_DBT_TSEG2 : Fld := ⟨RW.CAN_DBT, 16, 5, false⟩
@[reducible] def CAN_DBT_SJW : Fld := ⟨RW.CAN_DBT, 24, 5, false⟩
@[reducible] def CAN_DBT_TDCEN : Fld := ⟨RW.CAN_DBT, 29, 1, false⟩
@[reducible] def CAN_DBT_TDCO : Fld := ⟨RW.CAN_DBT, 32, 8, false⟩
@[reducible] def CAN_STAT_STATE : Fld := ⟨RW.CAN_STAT, 0, 2, false⟩
@[reducible] def CAN_STAT_LEC : Fld := ⟨RW.CAN_STAT, 19, 3, false⟩
@[reducible] def CAN_STAT_PEXCNT : Fld := ⟨RW.CAN_STAT, 24, 16, false⟩
@[reducible] def CAN_STAT_TEC : Fld := ⟨RW.CAN_STAT, 2, 9, false⟩
@[reducible] def CAN_STAT_REC : Fld := ⟨RW.CAN_STAT, 11, 8, false⟩
@[reducible] def CAN_STAT_CFGREJ : Fld := ⟨RW.CAN_STAT, 22, 1, true⟩
@[reducible] def CAN_STAT_PNERRWK : Fld := ⟨RW.CAN_STAT, 23, 1, true⟩
@[reducible] def CAN_CNT_NOMATCH : Fld := ⟨RW.CAN_CNT, 0, 16, false⟩
@[reducible] def CAN_CNT_RXOVR : Fld := ⟨RW.CAN_CNT, 16, 16, false⟩
@[reducible] def CAN_CNT_BOCNT : Fld := ⟨RW.CAN_CNT, 32, 16, false⟩
@[reducible] def CAN_TXABORT_TB : Fld := ⟨RW.CAN_TXABORT, 0, 8, false⟩
@[reducible] def CAN_PN_ID : Fld := ⟨RW.CAN_PN, 0, 29, false⟩
@[reducible] def CAN_PN_IDE : Fld := ⟨RW.CAN_PN, 29, 1, false⟩
@[reducible] def CAN_PN_DLC : Fld := ⟨RW.CAN_PN, 30, 4, false⟩
@[reducible] def CAN_PN_RATE : Fld := ⟨RW.CAN_PN, 34, 2, false⟩
@[reducible] def CAN_PNMSK_MASK : Fld := ⟨RW.CAN_PNMSK, 0, 29, false⟩
@[reducible] def CAN_PNDM0_M : Fld := ⟨RW.CAN_PNDM0, 0, 48, false⟩
@[reducible] def CAN_PNDM1_M : Fld := ⟨RW.CAN_PNDM1, 0, 16, false⟩
@[reducible] def CAN_WAKETX_GO : Fld := ⟨RW.CAN_WAKETX, 0, 1, false⟩
@[reducible] def CAN_WAKETX_WUPF : Fld := ⟨RW.CAN_WAKETX, 1, 1, false⟩
@[reducible] def CAN_WAKETX_DESC : Fld := ⟨RW.CAN_WAKETX, 24, 24, false⟩
@[reducible] def CAN_RXR_BASE (k : Nat) : Fld := ⟨RW.CAN_RXR k, 0, 24, false⟩
@[reducible] def CAN_RXR_LEN (k : Nat) : Fld := ⟨RW.CAN_RXR k, 24, 16, false⟩
@[reducible] def CAN_RXWP_COUNT (k : Nat) : Fld := ⟨RW.CAN_RXWP k, 0, 48, false⟩
@[reducible] def CAN_RXRD_COUNT (k : Nat) : Fld := ⟨RW.CAN_RXRD k, 0, 48, false⟩
@[reducible] def CAN_TB_RES_RESULT (k : Nat) : Fld := ⟨RW.CAN_TB_RES k, 0, 4, false⟩
@[reducible] def CAN_TB_RES_TS (k : Nat) : Fld := ⟨RW.CAN_TB_RES k, 8, 40, false⟩
@[reducible] def CAN_FLT_ID (f : Nat) : Fld := ⟨RW.CAN_FLT f, 0, 29, false⟩
@[reducible] def CAN_FLT_IDE (f : Nat) : Fld := ⟨RW.CAN_FLT f, 29, 1, false⟩
@[reducible] def CAN_FLT_EN (f : Nat) : Fld := ⟨RW.CAN_FLT f, 30, 1, false⟩
@[reducible] def CAN_FLT_RING (f : Nat) : Fld := ⟨RW.CAN_FLT f, 31, 1, false⟩
@[reducible] def CAN_FMSK_MASK (f : Nat) : Fld := ⟨RW.CAN_FMSK f, 0, 29, false⟩
@[reducible] def LIN_CTL_MODE : Fld := ⟨RW.LIN_CTL, 0, 2, false⟩
@[reducible] def LIN_CTL_DIV : Fld := ⟨RW.LIN_CTL, 3, 18, false⟩
@[reducible] def LIN_CTL_EVSEL : Fld := ⟨RW.LIN_CTL, 30, 3, false⟩
@[reducible] def LIN_CTL_BRKLEN : Fld := ⟨RW.LIN_CTL, 21, 3, false⟩
@[reducible] def LIN_CTL_SYNCADJ : Fld := ⟨RW.LIN_CTL, 24, 1, false⟩
@[reducible] def LIN_CTL_WAKE : Fld := ⟨RW.LIN_CTL, 25, 1, false⟩
@[reducible] def LIN_CTL_WKLEN : Fld := ⟨RW.LIN_CTL, 26, 4, false⟩
@[reducible] def LIN_RXR_BASE : Fld := ⟨RW.LIN_RXR, 0, 24, false⟩
@[reducible] def LIN_RXR_LEN : Fld := ⟨RW.LIN_RXR, 24, 16, false⟩
@[reducible] def LIN_RXWP_COUNT : Fld := ⟨RW.LIN_RXWP, 0, 48, false⟩
@[reducible] def LIN_IDMASK0_M : Fld := ⟨RW.LIN_IDMASK0, 0, 48, false⟩
@[reducible] def LIN_IDMASK1_M : Fld := ⟨RW.LIN_IDMASK1, 0, 16, false⟩
@[reducible] def LIN_TB_RES_RESULT (k : Nat) : Fld := ⟨RW.LIN_TB_RES k, 0, 4, false⟩
@[reducible] def LIN_TB_RES_TS (k : Nat) : Fld := ⟨RW.LIN_TB_RES k, 8, 40, false⟩
@[reducible] def LEDG_CFG_EN : Fld := ⟨RW.LEDG_CFG, 0, 1, false⟩
@[reducible] def LEDG_CFG_PFX : Fld := ⟨RW.LEDG_CFG, 6, 18, false⟩
@[reducible] def LEDG_CFG_TXBUF : Fld := ⟨RW.LEDG_CFG, 24, 3, false⟩
@[reducible] def LEDG_CFG_LRQID : Fld := ⟨RW.LEDG_CFG, 32, 6, false⟩
@[reducible] def LEDG_CFG_LRPID : Fld := ⟨RW.LEDG_CFG, 40, 6, false⟩
@[reducible] def LEDG_CRINIT_CR1 : Fld := ⟨RW.LEDG_CRINIT, 0, 8, false⟩
@[reducible] def LEDG_CRINIT_CR2 : Fld := ⟨RW.LEDG_CRINIT, 8, 8, false⟩
@[reducible] def LEDG_CRINIT_CR3 : Fld := ⟨RW.LEDG_CRINIT, 16, 8, false⟩
@[reducible] def LEDG_STAT_LOST : Fld := ⟨RW.LEDG_STAT, 0, 1, true⟩
@[reducible] def LEDG_STAT_SEALED : Fld := ⟨RW.LEDG_STAT, 1, 1, false⟩
@[reducible] def LEDG_STAT_UNSYNC : Fld := ⟨RW.LEDG_STAT, 2, 13, false⟩
@[reducible] def LEDG_STAT_ENDREJ : Fld := ⟨RW.LEDG_STAT, 15, 1, true⟩
@[reducible] def LEDG_RQR_BASE : Fld := ⟨RW.LEDG_RQR, 0, 24, false⟩
@[reducible] def LEDG_RQR_LEN : Fld := ⟨RW.LEDG_RQR, 24, 16, false⟩
@[reducible] def LEDG_RQWP_COUNT : Fld := ⟨RW.LEDG_RQWP, 0, 48, false⟩
@[reducible] def LEDG_RQRD_COUNT : Fld := ⟨RW.LEDG_RQRD, 0, 48, false⟩
@[reducible] def LEDG_STEP_SRC : Fld := ⟨RW.LEDG_STEP, 0, 4, false⟩
@[reducible] def LEDG_STEP_SEQ : Fld := ⟨RW.LEDG_STEP, 4, 16, false⟩
@[reducible] def LEDG_STEP_STEP : Fld := ⟨RW.LEDG_STEP, 20, 8, false⟩
@[reducible] def LEDG_STEP_COURSE : Fld := ⟨RW.LEDG_STEP, 28, 3, false⟩
@[reducible] def LEDG_STEP_CVAL : Fld := ⟨RW.LEDG_STEP, 31, 1, false⟩
@[reducible] def LEDG_END_SRC : Fld := ⟨RW.LEDG_END, 0, 4, false⟩
@[reducible] def LEDG_END_SEQ : Fld := ⟨RW.LEDG_END, 4, 16, false⟩
@[reducible] def LEDG_END_KIND : Fld := ⟨RW.LEDG_END, 20, 2, false⟩
@[reducible] def LEDG_END_OUTCOME : Fld := ⟨RW.LEDG_END, 22, 16, false⟩
@[reducible] def LEDG_QSEL_SRC : Fld := ⟨RW.LEDG_QSEL, 0, 4, false⟩
@[reducible] def LEDG_QSEL_SEQ : Fld := ⟨RW.LEDG_QSEL, 4, 16, false⟩
@[reducible] def LEDG_QSEL_CLS : Fld := ⟨RW.LEDG_QSEL, 20, 2, false⟩
@[reducible] def LEDG_CRCNT_R : Fld := ⟨RW.LEDG_CRCNT, 0, 16, false⟩
@[reducible] def LEDG_CRCNT_C : Fld := ⟨RW.LEDG_CRCNT, 16, 16, false⟩
@[reducible] def LEDG_CRCNT_G : Fld := ⟨RW.LEDG_CRCNT, 32, 16, false⟩
@[reducible] def LEDG_TBCFG_MASTER : Fld := ⟨RW.LEDG_TBCFG, 0, 1, false⟩
@[reducible] def LEDG_TBCFG_PER : Fld := ⟨RW.LEDG_TBCFG, 1, 16, false⟩
@[reducible] def LEDG_TBCFG_TMSRC : Fld := ⟨RW.LEDG_TBCFG, 17, 4, false⟩
@[reducible] def LEDG_CNT_DUP : Fld := ⟨RW.LEDG_CNT, 0, 16, false⟩
@[reducible] def LEDG_CNT_STALE : Fld := ⟨RW.LEDG_CNT, 16, 16, false⟩
@[reducible] def LEDG_CNT_REJ : Fld := ⟨RW.LEDG_CNT, 32, 16, false⟩
@[reducible] def LEDG_CNT2_TBMISS : Fld := ⟨RW.LEDG_CNT2, 0, 16, false⟩
@[reducible] def LEDG_QDATA_W (m : Nat) : Fld := ⟨RW.LEDG_QDATA m, 0, 48, false⟩
@[reducible] def PEER_TWCFG_LAG : Fld := ⟨RW.PEER_TWCFG, 0, 14, false⟩
@[reducible] def PEER_TWCFG_CKSRC : Fld := ⟨RW.PEER_TWCFG, 14, 1, false⟩
@[reducible] def PEER_TWCFG_CKPER : Fld := ⟨RW.PEER_TWCFG, 16, 16, false⟩
@[reducible] def PEER_TWCFG_DIVPOL : Fld := ⟨RW.PEER_TWCFG, 32, 2, false⟩
@[reducible] def PEER_TWCFG_PAIRTO : Fld := ⟨RW.PEER_TWCFG, 40, 8, false⟩
@[reducible] def PEER_TWCMD_HANDOVER : Fld := ⟨RW.PEER_TWCMD, 0, 1, false⟩
@[reducible] def PEER_TWSTAT_STATE : Fld := ⟨RW.PEER_TWSTAT, 0, 3, false⟩
@[reducible] def PEER_TWSTAT_DIV : Fld := ⟨RW.PEER_TWSTAT, 3, 1, true⟩
@[reducible] def PEER_TWSTAT_HBLOSS : Fld := ⟨RW.PEER_TWSTAT, 4, 1, true⟩
@[reducible] def PEER_TWSTAT_JOVF : Fld := ⟨RW.PEER_TWSTAT, 5, 1, true⟩
@[reducible] def PEER_TWSTAT_SHLOST : Fld := ⟨RW.PEER_TWSTAT, 6, 1, true⟩
@[reducible] def PEER_TWSTAT_TAKEN : Fld := ⟨RW.PEER_TWSTAT, 7, 1, true⟩
@[reducible] def PEER_TWSTAT_LINK : Fld := ⟨RW.PEER_TWSTAT, 8, 1, false⟩
@[reducible] def PEER_TWSTAT_DIVCNT : Fld := ⟨RW.PEER_TWSTAT, 16, 16, false⟩
@[reducible] def PEER_TWTAKE_OFS : Fld := ⟨RW.PEER_TWTAKE, 0, 40, false⟩
@[reducible] def PEER_TWTAKE_TRIG : Fld := ⟨RW.PEER_TWTAKE, 40, 3, false⟩
@[reducible] def PEER_TWPDT_T : Fld := ⟨RW.PEER_TWPDT, 0, 48, false⟩
@[reducible] def PEER_TWCNT_MISS : Fld := ⟨RW.PEER_TWCNT, 0, 16, false⟩
@[reducible] def PEER_TWCNT_RETX : Fld := ⟨RW.PEER_TWCNT, 16, 16, false⟩
@[reducible] def PEER_TWFILL_NOW : Fld := ⟨RW.PEER_TWFILL, 0, 12, false⟩
@[reducible] def PEER_TWFILL_MAX : Fld := ⟨RW.PEER_TWFILL, 16, 12, false⟩
@[reducible] def PEER_CSCFG_CHAINTO : Fld := ⟨RW.PEER_CSCFG, 0, 8, false⟩
@[reducible] def PEER_CSCFG_LOSSACT : Fld := ⟨RW.PEER_CSCFG, 8, 1, false⟩
@[reducible] def PEER_CSCMD_REALIGN : Fld := ⟨RW.PEER_CSCMD, 0, 1, false⟩
@[reducible] def PEER_CSSTAT_POS : Fld := ⟨RW.PEER_CSSTAT, 0, 2, false⟩
@[reducible] def PEER_CSSTAT_PRES : Fld := ⟨RW.PEER_CSSTAT, 4, 4, false⟩
@[reducible] def PEER_CSSTAT_ALIGNED : Fld := ⟨RW.PEER_CSSTAT, 8, 4, false⟩
@[reducible] def PEER_CSSTAT_LINKA : Fld := ⟨RW.PEER_CSSTAT, 12, 1, false⟩
@[reducible] def PEER_CSSTAT_LINKB : Fld := ⟨RW.PEER_CSSTAT, 13, 1, false⟩
@[reducible] def PEER_CSSTAT_LOST : Fld := ⟨RW.PEER_CSSTAT, 16, 4, true⟩
@[reducible] def PEER_CSSTAT_RSVCREJ : Fld := ⟨RW.PEER_CSSTAT, 20, 1, true⟩
@[reducible] def PEER_CSCNT_CRCERR : Fld := ⟨RW.PEER_CSCNT, 0, 16, false⟩
@[reducible] def PEER_CSCNT_RETX : Fld := ⟨RW.PEER_CSCNT, 16, 16, false⟩
@[reducible] def PEER_CSMB_W (q : Nat) : Fld := ⟨RW.PEER_CSMB q, 0, 48, false⟩
@[reducible] def PEER_RSVCA_RA : Fld := ⟨RW.PEER_RSVCA, 0, 48, false⟩
@[reducible] def PEER_RSVCB_RB : Fld := ⟨RW.PEER_RSVCB, 0, 48, false⟩
@[reducible] def PEER_RSVCGO_SVC : Fld := ⟨RW.PEER_RSVCGO, 0, 12, false⟩
@[reducible] def PEER_RSVCGO_TOK : Fld := ⟨RW.PEER_RSVCGO, 12, 4, false⟩
@[reducible] def PEER_RSVCRES_RES : Fld := ⟨RW.PEER_RSVCRES, 0, 48, false⟩
@[reducible] def PEER_RSVCST_DONE : Fld := ⟨RW.PEER_RSVCST, 0, 1, true⟩
@[reducible] def PEER_RSVCST_BUSY : Fld := ⟨RW.PEER_RSVCST, 1, 1, false⟩
@[reducible] def PEER_RSVCST_TOK : Fld := ⟨RW.PEER_RSVCST, 4, 4, false⟩
@[reducible] def GPIO_FUNC_FUNC (n : Nat) : Fld := ⟨RW.GPIO_FUNC n, 0, 8, false⟩
@[reducible] def GPIO_FUNC_OE (n : Nat) : Fld := ⟨RW.GPIO_FUNC n, 8, 1, false⟩
@[reducible] def GPIO_FUNC_OUT (n : Nat) : Fld := ⟨RW.GPIO_FUNC n, 9, 1, false⟩
@[reducible] def GPIO_FUNC_OD (n : Nat) : Fld := ⟨RW.GPIO_FUNC n, 10, 1, false⟩
@[reducible] def GPIO_FUNC_IN (n : Nat) : Fld := ⟨RW.GPIO_FUNC n, 11, 1, false⟩
@[reducible] def GPIO_IN_LEVEL : Fld := ⟨RW.GPIO_IN, 0, 48, false⟩
@[reducible] def DBG_CTL_MHALT : Fld := ⟨RW.DBG_CTL, 0, 1, false⟩
@[reducible] def DBG_CTL_RESUME : Fld := ⟨RW.DBG_CTL, 1, 1, false⟩
@[reducible] def DBG_CTL_STEP : Fld := ⟨RW.DBG_CTL, 2, 1, false⟩
@[reducible] def DBG_CTL_SSTR : Fld := ⟨RW.DBG_CTL, 8, 6, false⟩
@[reducible] def DBG_SHALT0_S : Fld := ⟨RW.DBG_SHALT0, 0, 48, false⟩
@[reducible] def DBG_SHALT1_S : Fld := ⟨RW.DBG_SHALT1, 0, 16, false⟩
@[reducible] def DBG_STAT_MH : Fld := ⟨RW.DBG_STAT, 0, 1, false⟩
@[reducible] def DBG_STAT_CAUSE : Fld := ⟨RW.DBG_STAT, 1, 3, false⟩
@[reducible] def DBG_STAT_BPHIT : Fld := ⟨RW.DBG_STAT, 4, 4, true⟩
@[reducible] def DBG_STAT_UFAIL : Fld := ⟨RW.DBG_STAT, 8, 2, false⟩
@[reducible] def DBG_STAT_TROVR : Fld := ⟨RW.DBG_STAT, 16, 16, false⟩
@[reducible] def DBG_RSEL_STRAND : Fld := ⟨RW.DBG_RSEL, 0, 6, false⟩
@[reducible] def DBG_RSEL_INDEX : Fld := ⟨RW.DBG_RSEL, 8, 6, false⟩
@[reducible] def DBG_RDATA_D : Fld := ⟨RW.DBG_RDATA, 0, 48, false⟩
@[reducible] def DBG_TRCTL_EN : Fld := ⟨RW.DBG_TRCTL, 0, 1, false⟩
@[reducible] def DBG_TRCTL_KINDS : Fld := ⟨RW.DBG_TRCTL, 1, 9, false⟩
@[reducible] def DBG_TRPOP_E : Fld := ⟨RW.DBG_TRPOP, 0, 48, false⟩
@[reducible] def DBG_BP_ADDR (k : Nat) : Fld := ⟨RW.DBG_BP k, 0, 24, false⟩
@[reducible] def DBG_BP_STRAND (k : Nat) : Fld := ⟨RW.DBG_BP k, 24, 6, false⟩
@[reducible] def DBG_BP_ANY (k : Nat) : Fld := ⟨RW.DBG_BP k, 30, 1, false⟩
@[reducible] def DBG_BP_EN (k : Nat) : Fld := ⟨RW.DBG_BP k, 31, 1, false⟩
@[reducible] def DBG_BP_KIND (k : Nat) : Fld := ⟨RW.DBG_BP k, 32, 2, false⟩
@[reducible] def DBG_BP_ACT (k : Nat) : Fld := ⟨RW.DBG_BP k, 34, 1, false⟩

/-- PWR_HALLLP.LPINTd. -/
@[reducible] def LPINT (d : Nat) : Fld := ⟨RW.PWR_HALLLP, 12 * d, 12, false⟩
/-- PWR_WAKEHALL.THc. -/
@[reducible] def HALLTH (c : Nat) : Fld := ⟨RW.PWR_WAKEHALL, 6 * c, 6, false⟩
/-- SCH_FRETMAP.HOMEf. -/
@[reducible] def HOME (f : Nat) : Fld := ⟨RW.SCH_FRETMAP, 2 * f, 2, false⟩
/-- GDRV_SRC.SRCh. -/
@[reducible] def SRC (h : Nat) : Fld := ⟨RW.GDRV_SRC, 2 * h, 2, false⟩
/-- GDRV_SGCc.STATEk. -/
@[reducible] def SGSTATE (c k : Nat) : Fld := ⟨RW.GDRV_SGC c, 2 * k, 2, false⟩
/-- FADC_AMP.GAINc. -/
@[reducible] def AMPGAIN (c : Nat) : Fld := ⟨RW.FADC_AMP, 2 * c, 2, false⟩
/-- FADC_ROUTEr.ROUTEk of channel code n = 4r + k. -/
@[reducible] def ROUTE (n : Nat) : Fld := ⟨RW.FADC_ROUTE (n / 4), 12 * (n % 4), 9, false⟩
/-- SYS_SVARR.ARRc. -/
@[reducible] def ARR (c : Nat) : Fld := ⟨RW.SYS_SVARR, 2 * c, 2, false⟩
/-- RSV_OWRES.PINk. -/
@[reducible] def OWPIN (k : Nat) : Fld := ⟨RW.RSV_OWRES, 2 * k, 2, false⟩
/-- RSV_OWRES.CELLj. -/
@[reducible] def OWCELL (j : Nat) : Fld := ⟨RW.RSV_OWRES, 10 + 2 * j, 2, false⟩
/-- RSV_OWMV.DELTAk. -/
@[reducible] def OWDELTA (k : Nat) : Fld := ⟨RW.RSV_OWMV, 9 * k, 9, false⟩
/-- LEDG_CRINIT.CRcls for class 1 to 3. -/
@[reducible] def CRINIT (cls : Nat) : Fld := ⟨RW.LEDG_CRINIT, 8 * (cls - 1), 8, false⟩
end R

end Sys2Proof.Machine
end

