-- ==== Sys2Proof/Machine/Bits.lean ====
section
/-!
DEFINITION. Machine/Bits.lean: bit fields of words, exact clamping, rounding (R245, R247), and the word of every register
after reset with the change a reset makes to it (R16, R20, R22, R23, R258).
-/
namespace Sys2Proof.Machine

/-- Bits lo+len-1:lo of a word as a number. -/
def getBits (w : Word) (lo len : Nat) : Nat := (w.toNat >>> lo) % 2 ^ len

/-- The word with ones in bits lo+len-1:lo. -/
def bitMask (lo len : Nat) : Word := BitVec.ofNat 48 ((2 ^ len - 1) <<< lo)

/-- The word with bits lo+len-1:lo replaced by the low bits of v. -/
def setBits (w : Word) (lo len v : Nat) : Word :=
  (w &&& ~~~ bitMask lo len) ||| (BitVec.ofNat 48 ((v % 2 ^ len) <<< lo))

/-- An exact integer clamped to lo..hi, and whether that changed it (R245). -/
def clampInt (x lo hi : Int) : Int × Bool :=
  if x < lo then (lo, true) else if hi < x then (hi, true) else (x, false)

/-- x / 2^n rounded by RM (R247): 0 nearest ties to even, 1 nearest ties away, 2 toward minus infinity, 3 toward zero. -/
def roundShift (rm : BitVec 2) (x : Int) (n : Nat) : Int :=
  let d : Int := 2 ^ n
  let q := x.fdiv d
  let r2 := 2 * (x - q * d)
  if rm = 0 then (if r2 > d then q + 1 else if r2 < d then q else if q % 2 = 0 then q else q + 1)
  else if rm = 1 then (if r2 > d then q + 1 else if r2 < d then q else if x ≥ 0 then q + 1 else q)
  else if rm = 2 then q
  else (if x < 0 ∧ q * d ≠ x then q + 1 else q)

/-- num / den (den ≠ 0) rounded by RM (R247). -/
def roundDiv (rm : BitVec 2) (num den : Int) : Int :=
  let n := if den < 0 then -num else num
  let d := if den < 0 then -den else den
  let q := n.fdiv d
  let r2 := 2 * (n - q * d)
  if rm = 0 then (if r2 > d then q + 1 else if r2 < d then q else if q % 2 = 0 then q else q + 1)
  else if rm = 1 then (if r2 > d then q + 1 else if r2 < d then q else if n ≥ 0 then q + 1 else q)
  else if rm = 2 then q
  else (if n < 0 ∧ q * d ≠ n then q + 1 else q)

/-- Bits of the integer square root of x, from bit n-1 down, above the root r found so far. -/
def isqrtLoop (x : Nat) : Nat → Nat → Nat
  | 0, r => r
  | n + 1, r => if (r + 2 ^ n) * (r + 2 ^ n) ≤ x then isqrtLoop x n (r + 2 ^ n) else isqrtLoop x n r

/-- The floor of the square root of x below 2^96. -/
def isqrt (x : Nat) : Nat := isqrtLoop x 48 0

/-- The square root of x rounded by RM: the root of an integer is never a tie, and 2 and 3 both give the floor. -/
def sqrtRound (rm : BitVec 2) (x : Nat) : Nat :=
  let q := isqrt x
  if rm = 0 ∨ rm = 1 then (if x > q * q + q then q + 1 else q) else q

/-- A count that saturates at its field's greatest value. -/
def satAdd (len n k : Nat) : Nat := min (n + k) (2 ^ len - 1)

/-- Whether an encoding of a field is not reserved (R20). -/
def Legal.ok : Legal → Nat → Bool
  | .any, _ => true
  | .range lo hi, v => decide (lo ≤ v ∧ v ≤ hi)
  | .zeroOr lo hi, v => decide (v = 0 ∨ (lo ≤ v ∧ v ≤ hi))
  | .even lo hi, v => decide (lo ≤ v ∧ v ≤ hi ∧ v % 2 = 0)

/-- The word whose fields hold their values after reset. -/
def fieldsReset (fs : List FieldRow) : Word := fs.foldl (fun w f => setBits w f.lo f.len f.reset) 0

/-- The word at a register address after reset (R21); zero where no register lies. -/
def resetWord (a : Nat) : Word :=
  match regRow a with
  | some r => fieldsReset r.fields
  | none => 0

/-- One field of a write of v over the word w, by its access code (R16, R20). -/
def writeField (v : Word) (w : Word) (f : FieldRow) : Word :=
  let x := getBits v f.lo f.len
  match f.acc with
  | .rw | .rwt => if f.legal.ok x then setBits w f.lo f.len x else w
  | .w1c => setBits w f.lo f.len (((getBits w f.lo f.len) &&& ((2 ^ f.len - 1) ^^^ x)))
  | .ro | .wo => w

/-- A write of v over the word w, field by field (R258). -/
def writeFields (fs : List FieldRow) (w v : Word) : Word := fs.foldl (writeField v) w

/-- The word w after its fields of the lost keep classes have returned to their values after reset (R22, R23). -/
def loseFields (lost : Keep → Bool) (fs : List FieldRow) (w : Word) : Word :=
  fs.foldl (fun w f => if lost f.keep then setBits w f.lo f.len f.reset else w) w

/-- The register file after the lost keep classes have returned to their values after reset (R22, R23). -/
def loseRegs (lost : Keep → Bool) (regs : Sparse Word) : Sparse Word :=
  spMap resetWord (fun a w => match regRow a with
    | some r => loseFields lost r.fields w
    | none => w) regs

/-- The fields of a register word that a strand, the host, a remote chip or the debug port can write (R814). -/
def writable (fs : List FieldRow) : Bool := fs.any (fun f => f.acc != .ro)

end Sys2Proof.Machine
end

