-- ==== Sys2Proof/Config.lean ====
section
/-!
DEFINITION. Config.lean: what one part fixes and the spec leaves open, and the free values. Every constant here is opaque:
nothing can evaluate it, so a statement about it holds whatever it is.
-/
namespace Sys2Proof.Config

/-- A value the spec leaves open, fresh for each number: the state's counter `free` says which one is next (log entry 5, DESIGN CHOICE). -/
opaque freeValue : Nat → BitVec 48

/-- The error of the rotation unit within the bound of R295, a fixed function of the operation (0 sincos, 1 polar, 2 rotv), the part of
its result, the operands and RM; Machine/Rotate.lean holds it within that bound (log entry 6, DESIGN CHOICE). -/
opaque rotErr : Nat → Nat → Word → Word → Word → BitVec 2 → Int

/-- The length in beats of always-on period n since power-on (R77, log entry 60, DESIGN CHOICE). -/
opaque aoLen : Nat → BitVec 12

/-- The factory coefficients of slice k of the fast converter: offset, gain, skew (R444, log entry 7, DESIGN CHOICE). -/
opaque adcOfs : Nat → BitVec 10
opaque adcGain : Nat → BitVec 16
opaque adcSkew : Nat → BitVec 7
/-- The factory values of ICONV_CALR.STEP and ICONV_CALB.STEP (chapter 16, log entry 7, DESIGN CHOICE). -/
opaque calR : BitVec 32
opaque calB : BitVec 32
/-- The temperature, in 1/256 °C as a signed number, that a result of an NTC input stands for (R587, log entry 30, DESIGN CHOICE). -/
opaque ntcTemp : BitVec 20 → BitVec 16
/-- The words of the boot ROM (R160), whose content the spec does not give (log entry 7, DESIGN CHOICE). -/
opaque romWord : Nat → Word

end Sys2Proof.Config
end

