-- ==== Sys2Proof/Machine/State.lean ====
section
/-!
DEFINITION. Machine/State.lean: the state of the block as plain data, the reasons a step can stop, and the state after
reset. The registers of the peripheral region are held in `regs`, one 48-bit word for each address that differs from its
value after reset (Machine/RegMap.lean lists every register, its fields and those values); what the spec gives the machine
beside its registers is held in the typed parts below. A part's docstring names the rules it comes from.
-/
namespace Sys2Proof.Machine

/-- The states of a strand, with their codes (R197). -/
inductive StrandState where
  | free | runnable | waiting | parked | faulted | halted | draining
  deriving DecidableEq, Repr

/-- The status word ST of a strand (R234, R235, R247; spec/07 Registers). -/
structure Status where
  z : Bool := false
  n : Bool := false
  c : Bool := false
  v : Bool := false
  sat : Bool := false
  aov : Bool := false
  dz : Bool := false
  dom : Bool := false
  rm : BitVec 2 := 0
  deriving DecidableEq, Repr

/-- What a strand's wait in progress will complete with (R211, R311, R853): nothing yet, a line, or its deadline. -/
inductive WaitEnd where
  | none
  | line (n : BitVec 8)
  | deadline
  deriving DecidableEq, Repr

/-- The fault record SCH_Ss_FLT0 and SCH_Ss_FLT1 (R320, R321, R322). -/
structure FaultRec where
  cause : BitVec 4 := 0
  defer : Bool := false
  fetch : Bool := false
  more : Bool := false
  resv : Bool := false
  ipc : BitVec 24 := 0
  ea : BitVec 24 := 0
  respc : BitVec 24 := 0
  deriving DecidableEq, Repr

/-- One strand (R229, R197, R209 to R214, R311). w holds w0 to w31; w0 is read and written through `Strand.rd` and
`Strand.wr` only, which read zero and discard. -/
structure Strand where
  state : StrandState := .free
  /-- the state a debug halt returns to (R789) -/
  heldFrom : StrandState := .free
  /-- the state a drain ends in (R197) -/
  drainTo : StrandState := .free
  cls : BitVec 2 := 0
  w : Vector Word 32 := Vector.replicate 32 0
  a0 : Acc := 0
  a1 : Acc := 0
  pc : BitVec 24 := 0
  st : Status := {}
  mask : BitVec 256 := 0
  pend : BitVec 256 := 0
  evMerge : Bool := false
  /-- destination of the wait in progress -/
  waitRd : BitVec 5 := 0
  /-- deadline of the wait in progress, none when T is 0 (R311) -/
  waitDl : Option Word := none
  waitEnd : WaitEnd := .none
  /-- the beat in which waitEnd was fixed (R213, R853) -/
  waitAt : Word := 0
  /-- the beat in which an operation of the strand completed last (R199, R853) -/
  opEnd : Option Word := none
  /-- the key of R204: the later of the beat it became RUNNABLE and the beat of its last issue -/
  key : Word := 0
  /-- an XIP load that missed and waits for its word: its address and the load (R279, R647) -/
  xipWait : Option (BitVec 24 × FmtM) := none
  flt : FaultRec := {}
  /-- a debug step in progress (R792) -/
  stepping : Bool := false
  /-- the register values written in this beat, an accumulator as two words (R745) -/
  wrote : List Word := []
  deriving DecidableEq, Repr

/-- What a long operation does (R284); results that the operands fix at issue are carried with it. -/
inductive OpBody where
  /-- division (kind 1) and square root (kind 2) -/
  | compute (kind : Nat) (rd : BitVec 5) (res : Word) (sat dz dom : Bool)
  /-- rotation (kind 3) -/
  | rotate (rd : BitVec 5) (x y : Word) (sat dom : Bool)
  /-- RAM atomic (kind 4) -/
  | atomic (xfn : BitVec 3) (rd : BitVec 5) (ea : BitVec 24) (src expect : Word)
  /-- persist (kind 5): n words from RAM address src to MRAM address dst -/
  | persist (rd : BitVec 5) (dst src : BitVec 24) (n : Nat)
  /-- peripheral load (kind 6) -/
  | load (rt : BitVec 5) (ea : BitVec 24)
  /-- peripheral store (kind 7) -/
  | store (ea : BitVec 24) (val : Word)
  /-- remote access (kind 8), a write when val is some -/
  | remote (rd : BitVec 5) (pos : Chip) (ea : BitVec 24) (val : Option Word)
  /-- network send (kind 9) -/
  | nsend (rd : BitVec 5) (desc : BitVec 24) (lin : Bool)
  /-- supervisor call (kind 10) -/
  | svc (rd : BitVec 5) (num : BitVec 12) (ra rb : Word)
  deriving DecidableEq, Repr

/-- How far a long operation has come: not begun, begun, or ended with its result words, its CSW code and detail. -/
inductive OpStage where
  | waiting
  | begun
  | ended (res : Word) (code : BitVec 4) (detail : BitVec 8)
  deriving DecidableEq, Repr

/-- A long operation in flight (R284, R286, R331). -/
structure Op where
  /-- number of the operation in the order of issue -/
  id : Nat
  str : StrandId
  pc : BitVec 24
  issue : Word
  body : OpBody
  stage : OpStage := .waiting
  deriving DecidableEq, Repr

/-- An escalation in progress (R326, R327). -/
structure Escalation where
  /-- DTIME of beat F -/
  f : Word
  /-- SCH_SNAPHDR.SRC: 1 watchdog, 2 machine fault, 3 SWR -/
  src : BitVec 2
  /-- RST_STAT.WDRSRC of the WDR that follows (R135) -/
  wdrsrc : BitVec 2 := 0
  mcause : BitVec 4
  strand : BitVec 6
  more : Bool := false
  /-- DTIME of the last completion of an operation since F (R327 G2) -/
  doneAt : Word := 0
  /-- G2 has ended and the snapshot is written, in beat D; the escalation entry is on its way (R327 G3, G4) -/
  snapped : Bool := false
  d : Word := 0
  logged : Bool := false
  /-- operations in flight at F, and the outcomes of those that have completed since: the operation's number, 1 DONE or
  2 NOT-DONE (R331, R333) -/
  atF : List Op := []
  outcomes : List (Nat × Nat) := []
  deriving DecidableEq, Repr

/-- The strands, the scheduler, the watchdog and the escalation machinery (spec/06, spec/07, spec/10). -/
structure Core where
  strands : Vector Strand 64 := Vector.replicate 64 {}
  /-- operations in flight in the order of their issue across the machine (R224, R331) -/
  ops : List Op := []
  nextOp : Nat := 0
  esc : Option Escalation := none
  /-- watchdog: beats since the last counted kick; it runs from the first user instruction (R217) -/
  wdBeats : Nat := 0
  wdRun : Bool := false
  /-- its window has opened since (R221) -/
  wdOpen : Bool := false
  /-- user strand faults raised in the current millisecond of DTIME, that millisecond, and whether it raised STORM (R325) -/
  stormMs : Nat := 0
  stormCnt : Nat := 0
  stormed : Bool := false
  /-- lines that are asserted in the next beat (R215, R538) -/
  nextEv : BitVec 256 := 0
  /-- class-0 strands and strands that were RUNNABLE in the previous beat (SCH_STAT) -/
  prevC0 : Nat := 0
  prevRun : Nat := 0
  /-- the millisecond of DTIME in which a strand-fault entry was last logged (R338) -/
  logMs : Option Nat := none
  /-- whether issue is stopped: no program runs yet, a low-power stop, or G1 (R159, R126, R327) -/
  issueOn : Bool := false
  deriving DecidableEq, Repr

/-- The ports through which the chip sends. -/
inductive Port where
  | can | lin | peerA | peerB | host | flash | debug
  deriving DecidableEq, Repr

/-- What a chip sends of its own: a control frame, credit, beacon or reply (spec/25, spec/26), a twin or cascade frame
(spec/27, spec/28), the answer of the host port or the debug port (spec/22, spec/29). -/
inductive SentKind where
  | txBuffer | control | credit | rcpReply | rcpRequest | beacon | linWake | linResponse | canWakeup
  | journal | status | nak | handover | resume | pair | remoteRequest | remoteReply | remoteCall | loss | census | sync
  | fire | globalArm | command | hostData | flashFrame | debugData
  deriving DecidableEq, Repr

/-- One message, as the words that R687 to R714, R737 to R740 and R765 to R778 give it. -/
structure Sent where
  port : Port
  kind : SentKind
  words : List Word
  deriving DecidableEq, Repr

/-- Clock, device time and network time (spec/02). r is TIME_RATE.R and the state of network time is TIME_STAT.NT_STATE. -/
structure Time where
  /-- the reference is valid (R61), the PLL has locked (R62), the beat is delivered (R62) -/
  refValid : Bool := false
  pllLocked : Bool := false
  beatOn : Bool := false
  /-- a twin shadow runs from its own crystal (R731) -/
  onCrystal : Bool := false
  dtime : Word := 0
  /-- DTIME at the stop, and always-on periods counted since (R78, R79) -/
  dStop : Word := 0
  aoCount : Nat := 0
  /-- the next always-on edge loads DTIME (R79) -/
  handoff : Bool := false
  /-- K as it stood at the last stop, and whether it has been measured since POR (R77) -/
  kHeld : BitVec 24 := 0x3C000
  kMeasured : Bool := false
  /-- always-on periods since POR, the beats of the present one, and the whole periods measured since the beat was released (R77) -/
  aoNum : Nat := 0
  aoIn : Nat := 0
  aoRun : Nat := 0
  /-- network time in units of 2^-40 microsecond (R85) -/
  nt : BitVec 88 := 0
  epoch : BitVec 16 := 0
  /-- error still to be slewed, in units of 2^-40 microsecond (R90) -/
  slew : Int := 0
  tmPrev : BitVec 64 := 0
  dPrev : Word := 0
  prevValid : Bool := false
  /-- beacon samples waiting to be processed: tm, d, nl (R89, R90) -/
  beacons : List (BitVec 64 × Word × BitVec 64) := []
  /-- the beat since which network time has run with the present rate and slew, with network time and the error to slew in it, and whether a
  new such beat begins (R90, R97) -/
  markAt : Word := 0
  markNt : BitVec 88 := 0
  markSlew : Int := 0
  remark : Bool := false
  /-- a step of network time that takes effect at the end of this beat, in units of 2^-40 microsecond (R91) -/
  ntStep : Option Int := none
  /-- beats since the last processed beacon and since the entry into the present state (R86) -/
  ageBeacon : Nat := 0
  ageState : Nat := 0
  /-- the uncertainty in microseconds at the entry into the present state, and what has grown since, in 1/240,000,000 microsecond
  (R94, R95); none: unknown -/
  uncBase : Option Nat := none
  uncGrow : Nat := 0
  /-- the latches behind TIME_NTAUX and TIME_NTUNC, one for each reader (R96): reader, TIME_NTAUX, TIME_NTUNC -/
  ntLatch : List (Nat × Word × Word) := []
  /-- TPULSE is high, and the beats for which it stays so (R98, R99) -/
  tpHigh : Bool := false
  tpLeft : Nat := 0
  /-- NTIME has reached a pulse boundary in this beat, and the pulse or its skip is still to come; the same for the beat after this one
  (R98, R100, R101) -/
  tpDue : Bool := false
  tpNext : Bool := false
  /-- corrections in a row within one tap of each delay line (R71) -/
  dlGood : Vector Nat 2 := Vector.replicate 2 0
  deriving DecidableEq, Repr

/-- Who asked for a persist, so that its commit is reported there (R171, R176, R184, R187, R337, R699). -/
inductive PersistOwner where
  /-- the long operation with this number -/
  | op (id : Nat)
  | journal (reason : BitVec 8)
  | faultLog (esc : Bool)
  | shadow (a : Nat)
  | writeOnce (op : BitVec 2)
  /-- the command ledger: its persist point tag (R699) -/
  | ledger (tag : Nat)
  /-- the drive supervisor's record of a course: false motor record, true friction profile -/
  | supervisor (c : Course) (prof : Bool)
  /-- words that a pair start brings a shadow (R760) -/
  | pair
  deriving DecidableEq, Repr

/-- A persist on its way: waiting for phase 1, or staging (R170, R174, R301). -/
structure Persist where
  owner : PersistOwner
  target : BitVec 24
  /-- the words; for a strand's persist the words its source held at issue, or was given since (R300) -/
  data : List Word
  /-- RAM address of the source of a strand's persist (R300, R302) -/
  src : Option (BitVec 24) := none
  staging : Bool := false
  deriving DecidableEq, Repr

/-- A committed staging slot that is not yet retired (R170, R173). -/
structure Slot where
  seq : Word
  target : BitVec 24
  data : List Word
  deriving DecidableEq, Repr

/-- Memory engines and MRAM content that has no stated address layout (spec/05). -/
structure Mem where
  /-- bits in error of RAM and MRAM words, by address (R164, R167, R852) -/
  ramErr : List (Nat × Nat) := []
  mramErr : List (Nat × Nat) := []
  /-- corrected words waiting for their write-back (R164, R177) -/
  ramWb : List Nat := []
  mramWb : List Nat := []
  /-- scrubber addresses (R179) -/
  ramScrub : Nat := 0x100000
  mramScrub : Nat := 0
  /-- persists in the order in which they reached the staging ring (R173) -/
  persists : List Persist := []
  /-- committed slots not yet retired, in commit order (R173) -/
  slots : List Slot := []
  /-- highest staging sequence number committed, as the slots in MRAM carry it (R851) -/
  stagedSeq : Word := 0
  /-- the positions of the last record (R184) -/
  jLast : Vector Word 8 := Vector.replicate 8 0
  /-- when the period of MEM_JCTL.PER last ended (R184) -/
  jAt : Word := 0
  /-- slots of the newest fault-log entry and of the newest position record (R339, R185) -/
  flogSlot : Nat := 511
  jSlot : Nat := 2047
  /-- the write-once region (R187) -/
  bootKey : Option (BitVec 128) := none
  unlockCode : Option (BitVec 64) := none
  lockWord : Bool := false
  /-- operands of WODATA0 to WODATA2 (write-only, R187, R188) -/
  woData : Vector Word 3 := Vector.replicate 3 0
  /-- operands taken by the write-once operation in progress -/
  woTaken : List Word := []
  deriving DecidableEq, Repr

/-- The debug port, the test access port and the trace buffer (spec/29). -/
structure Debug where
  /-- current TAP instruction (R783) -/
  ir : BitVec 5 := 0b00010
  /-- the boundary register, 150 balls of three cells (R784, R802) -/
  boundary : BitVec 450 := 0
  /-- the last debug access: status (0 OK, 1 PEND, 2 REFUSED, 3 LOCKED), address, data (R786) -/
  accStat : BitVec 2 := 0
  accAddr : BitVec 24 := 0
  accData : Word := 0
  /-- the debug access that waits: its number in the order of R224, and the word of a write -/
  acc : Option (Nat × Option Word) := none
  /-- the pins follow the boundary register, or are high-impedance (R785) -/
  pinsHeld : Bool := false
  pinsOff : Bool := false
  /-- a reset has begun since the current TAP instruction was loaded, so that the gate pins wait for OUTEN (R142) -/
  gatesOff : Bool := false
  /-- trace entries, oldest first (R795) -/
  trace : List Word := []
  deriving DecidableEq, Repr

/-- The values of a course's shadowed registers that are in force (R346). -/
structure PwmAct where
  pre : Nat := 0
  evpre : Nat := 0
  per : Nat := 0x2EDF
  cmp : Vector Nat 3 := Vector.replicate 3 0
  tap : Vector Nat 3 := Vector.replicate 3 0
  aux : Nat := 0
  auxlen : Nat := 0
  dthl : Nat := 0x30
  dtlh : Nat := 0x30
  minp : Nat := 0
  stretch : Bool := false
  deriving DecidableEq, Repr

/-- A commutation by its kind, with the index or the direction it gives (R364). -/
inductive CommutKind where
  | set (idx : Nat)
  | hall (idx : Nat)
  | bemf (up : Bool)
  | step (up : Bool)
  deriving DecidableEq, Repr

/-- A commutation waiting to take effect: its index, the timing rule of R368, whether it is a SET, and its beat (R369). -/
structure Commut where
  idx : Nat
  take : Nat
  isSet : Bool
  beat : Word
  deriving DecidableEq, Repr

/-- What a course holds beside its registers (spec/11, spec/12, spec/14). -/
structure PwmCourse where
  act : PwmAct := {}
  /-- the reference signal of each pair (R343), and whether the pulse of its present level is suppressed (R371) -/
  ref : Vector Bool 3 := Vector.replicate 3 false
  sup : Vector Bool 3 := Vector.replicate 3 false
  /-- the effective high time of each pair in this period, in beats and taps (R343, R357) -/
  heff : Vector Nat 3 := Vector.replicate 3 0
  teff : Vector Nat 3 := Vector.replicate 3 0
  /-- beats since the counter last advanced (R341) -/
  presc : Nat := 0
  /-- what the carrier brings about in this beat and has not yet done: bit 0 the return to 0, bits 1 to 5 the events of EVSEL, bits 6 to
  8 the compare edges of the pairs (R341, R343, R352) -/
  due : BitVec 9 := 0
  /-- the shadows as they stood at the start of this beat and of the one before, none while SHOLD was 1 (R346, R347) -/
  shNow : Option PwmAct := none
  shPrev : Option PwmAct := none
  /-- DTIME of the last period boundary and of the last first beat of counter value AUX (R351, R368) -/
  bndAt : Option Word := none
  auxAt : Option Word := none
  stopReq : Bool := false
  /-- internal half-bridges wait for the next period boundary after a lock-out or a reaction (R394, R433), or after capo hold (R378) -/
  waitBnd : Bool := false
  waitCapo : Bool := false
  wait : Option Commut := none
  /-- the commutations raised in the beat of `wait`, and what waited before them (R369) -/
  raised : List CommutKind := []
  waitOld : Option Commut := none
  /-- every pair floats after an invalid Hall state (R365) -/
  floatAll : Bool := false
  bemfArmed : Bool := false
  /-- beats of CDLY still to come (R364) -/
  bemfLeft : Nat := 0
  /-- pair drive in force, and Brake periods still to come (R375) -/
  pdrv : Nat := 0
  brake : Nat := 0
  /-- a cycle-by-cycle hold, a trip seen in this period, consecutive periods with one (R429) -/
  cbc : Bool := false
  cbcSeen : Bool := false
  cbcRun : Nat := 0
  /-- DTIME of the last cycle-by-cycle trip (R429) -/
  cbcAt : Option Word := none
  /-- reaction latched for each source code (R424, R428) -/
  lat : Vector Nat 13 := Vector.replicate 13 0
  /-- an open blanking window for the course named (R354, R418) -/
  win : Option Course := none
  /-- beats for which it stays open, and the last window that closed with its DTIME (R417, R418) -/
  winLeft : Nat := 0
  winEnd : Option (Course × Word) := none
  /-- the last H or L command edge (R366, R416) -/
  lastEdge : Word := 0
  /-- single-shunt requests issued in this period (R380) -/
  ss1 : Bool := false
  ss2 : Bool := false
  /-- the last accepted serial token, and a serial timeout in force (R402, R403) -/
  tok : Option (BitVec 4) := none
  sgOff : Bool := false
  /-- beats since the last accepted serial write (R403) -/
  sgAge : Nat := 0
  deriving DecidableEq, Repr

/-- What a half-bridge holds beside its registers (spec/13). -/
structure HalfBridge where
  /-- H and L commands at the drivers, their rises under dead time, and their rises held by the interlock (R356, R396) -/
  outH : Bool := false
  outL : Bool := false
  dtH : Bool := false
  dtL : Bool := false
  ilH : Bool := false
  ilL : Bool := false
  /-- beats of dead time still to come (R356) -/
  dtHLeft : Nat := 0
  dtLLeft : Nat := 0
  /-- DTIME of the last command edge of each driver, or of the rise that the interlock holds (R407, R414) -/
  edgeH : Word := 0
  edgeL : Word := 0
  /-- the commands that the source and OUTEN gave last, which a machine halt holds (R361) -/
  reqH : Bool := false
  reqL : Bool := false
  /-- the source that governs, and the guard after a change of source (R404) -/
  src : Nat := 0
  guard : Bool := false
  guardLeft : Nat := 0
  /-- levels of the external pins XP and XE, and as they stood one, two and three beats ago (R400) -/
  xp : Bool := false
  xe : Bool := false
  seen : Vector (Bool × Bool) 3 := Vector.replicate 3 (false, false)
  /-- a cycle-by-cycle trip holds this half-bridge off (R429) -/
  hold : Bool := false
  /-- the strengths in force, of the high-side and of the low-side driver (R385) -/
  isrc : Nat := 3
  isnk : Nat := 3
  isrcL : Nat := 3
  isnkL : Nat := 3
  deriving DecidableEq, Repr

/-- A gate-supply domain (R391 to R394): supplies below threshold, and a lock-out not yet ended. -/
structure GateDom where
  vcpLow : Bool := false
  vglLow : Bool := false
  latched : Bool := false
  deriving DecidableEq, Repr

/-- Courses, half-bridges, gate domains and the chip's protection (spec/11 to spec/14). -/
structure Stage where
  courses : Vector PwmCourse 8 := Vector.replicate 8 {}
  hbs : Vector HalfBridge 24 := Vector.replicate 24 {}
  doms : Vector GateDom 4 := Vector.replicate 4 {}
  /-- a timed start that is pending: its courses and its DTIME (R350) -/
  timed : Option (BitVec 8 × Word) := none
  /-- courses whose start a machine halt holds (R361) -/
  begin : BitVec 8 := 0
  /-- the last beat in which each delay line placed a PWM edge (R345) -/
  dlEdge : Vector (Option Word) 2 := Vector.replicate 2 none
  /-- the all-off of a cascade follower that lost its chain (R777) -/
  lossOff : Bool := false
  /-- consecutive NTC results at or below, and above, the threshold, and the condition (R423) -/
  ntcLow : Vector Nat 4 := Vector.replicate 4 0
  ntcHigh : Vector Nat 4 := Vector.replicate 4 0
  ntcCond : Vector Bool 4 := Vector.replicate 4 false
  /-- beats since the last result of each enabled NTC (R423) -/
  ntcAge : Vector Nat 4 := Vector.replicate 4 0
  deriving DecidableEq, Repr

/-- What a course's position counter holds beside its registers (spec/18). -/
structure Pos where
  /-- the Hall state registered last, after inversion, and the reference sector (R519, R520) -/
  hst : BitVec 3 := 0
  ref : Option Nat := none
  /-- edge beat of the last transition, when the next one makes an interval (R530) -/
  chain : Option Word := none
  /-- the state at P0 of an unsampled domain and the beat of X4 (R527) -/
  cmp : Option (BitVec 3 × Word) := none
  /-- the beat of the last POSc_SET, and the beat and change of the last registration (R522) -/
  setBeat : Option Word := none
  regBeat : Option (Word × Int) := none
  /-- POSc_CNT, POSc_LAST, POSc_TINT and POSc_STAT before that registration -/
  regOld : List Word := []
  /-- the count since the start of E2, for the Hall wake (R115, R123) -/
  e2 : Option Int := none
  /-- the sampler's previous sample, its delta, and the always-on count and DTIME of its last transition (R524, R525) -/
  lpPrev : BitVec 3 := 0
  lpDelta : Int := 0
  lpLast : Option (Nat × Word) := none
  deriving DecidableEq, Repr

/-- A capture channel: records oldest first, a loss since the last, an open start with beat, tap and COARSE, and the latches
of TCn_AUX by reader (R535, R537). -/
structure Tc where
  recs : List (Word × Word) := []
  gap : Bool := false
  start : Option (Word × Nat × Bool) := none
  aux : List (Nat × Word) := []
  deriving DecidableEq, Repr

/-- A result of the integrating converter on its way (R480 to R482): the beat in which it enters the queue, that in which its window
closed, the unit, the code, the result with the number of clock edges and the flags; for IC1 whether the sense-wire check asked for it, and
whether it is the last of its pass. -/
structure IcRes where
  due : Word
  closed : Word
  unit : Fin 3
  code : Nat
  res : BitVec 20
  n : Nat
  clip : Bool
  short : Bool
  test : Bool
  ow : Nat
  last : Bool
  deriving DecidableEq, Repr

/-- The integrating converter beside its registers (spec/16); three values belong to QR, QB and IC1, two to QR and QB. -/
structure Iconv where
  /-- SHORT is owed to the window in progress, and it closes at the next clock edge (R478) -/
  short : Vector Bool 3 := Vector.replicate 3 false
  cut : Vector Bool 3 := Vector.replicate 3 false
  /-- the age of the window in progress in 24ths of a clock edge, below 0 while the input of IC1 settles, and the period boundaries of the
  locking course since it began (R472, R476, R479) -/
  age : Vector Int 3 := Vector.replicate 3 0
  bounds : Vector Nat 3 := Vector.replicate 3 0
  /-- IC1 waits for a locking point, and the code that its multiplexer selects (R479) -/
  hold : Bool := false
  input : Option Nat := none
  /-- counts of the window in progress, or of the low-power sum, that are in the counters already (R484, R486, R489) -/
  part : Vector Int 2 := Vector.replicate 2 0
  /-- the clock edges of the window that this is the count of -/
  partN : Vector Nat 2 := Vector.replicate 2 0
  /-- clamping seen (R474) -/
  clip : Vector Bool 2 := Vector.replicate 2 false
  /-- the codes left in the pass of IC1 (R479) -/
  pass : List Nat := []
  /-- results that have still to enter the queue (R480) -/
  due : List IcRes := []
  /-- counts are being summed into the low-power registers, of QR and of QB (R489) -/
  lpSum : Bool := false
  lpR : Bool := false
  lpB : Bool := false
  deriving DecidableEq, Repr

/-- A conversion of the fast converter (R447 to R454, R457, R458): kind 0 scan, 1 urgent, 2 crossing; bits 26 and 27 of its
entry; its slot and slice once it is assigned. -/
structure Conv where
  kind : Nat
  ch : Nat
  f26 : Bool := false
  f27 : Bool := false
  slot : Word := 0
  slice : Nat := 0
  /-- the beat in which it was requested, and the course of an urgent request (R447) -/
  reg : Word := 0
  crs : Nat := 0
  deriving DecidableEq, Repr

/-- An entry of the result queue with the consumers that have not taken it: bit 0 program, 1 to 4 FE0 to FE3, 5 to 8 AQ0 to
AQ3 (R457, R459). -/
structure QEntry where
  word : Word
  mask : BitVec 9
  deriving DecidableEq, Repr

/-- The fast converter and the result queue (spec/15). -/
structure Fadc where
  /-- conversions that wait: urgent, crossing, an aborted scan conversion, the rest of the running scan sequence -/
  urgent : List Conv := []
  cross : List Conv := []
  restart : Option Conv := none
  scan : List Nat := []
  /-- the beat in which the running sequence started (R447, R454) -/
  scanAt : Word := 0
  /-- the next scan conversion is the first of its sequence (R454) -/
  sos : Bool := false
  /-- conversions assigned to slots, oldest first, and the last slot assigned -/
  convs : List Conv := []
  lastSlot : Option Word := none
  /-- the active slices in their rotation, and changes of spare since EN was set (R438, R440, R444) -/
  active : Vector Nat 4 := #v[1, 2, 3, 4]
  changes : Nat := 0
  /-- the beat of the last change of spare (R440) -/
  rotAt : Option Word := none
  queue : List QEntry := []
  /-- a result was counted in QDROP since an entry entered (R458, R462) -/
  gap : Bool := false
  deriving DecidableEq, Repr

/-- A filter engine (spec/17): its history newest first, samples since it was cleared, samples in the decimation group, a
running computation (output, OSAT, TIME), the two coefficient banks, a bank copy with the words its source held when it
began, detector sums, and output writes that wait. -/
structure Fe where
  hist : List Int := []
  taken : Nat := 0
  dec : Nat := 0
  comp : Option (BitVec 28 × Bool × BitVec 20) := none
  banks : Vector (List (BitVec 24)) 2 := Vector.replicate 2 []
  copy : Option (List Word) := none
  dmax : Option Int := none
  dmin : Option Int := none
  dsum : Nat := 0
  dcnt : Nat := 0
  env : Nat := 0
  writes : List Word := []
  deriving DecidableEq, Repr

/-- An open min/max group of an acquisition unit (R556). -/
structure AqGroup where
  hi : Int
  lo : Int
  n : Nat
  time : BitVec 20
  clip : Bool
  gap : Bool
  trig : Bool
  deriving DecidableEq, Repr

/-- The trigger of a capture (R545, R552, R554): its record, its index in its group, CAUSE and TDT. -/
structure AqTrig where
  num : Nat
  ofs : Nat
  cause : BitVec 8
  tdt : Word
  deriving DecidableEq, Repr

/-- An acquisition unit (spec/19). -/
structure Aq where
  base : Nat := 0
  len : Nat := 0
  last : Bool := false
  /-- records closed since arming -/
  recs : Nat := 0
  group : Option AqGroup := none
  prev : Option Int := none
  trig : Option AqTrig := none
  force : Bool := false
  /-- the last record with a GAP entry; an engine item was lost -/
  gapRec : Option Nat := none
  lost : Bool := false
  /-- the capture is complete and its descriptor words are being written: TRUNC -/
  closing : Option Bool := none
  /-- words waiting for the RAM port, oldest first -/
  waits : List (Nat × Word) := []
  /-- lines asserted, and a rising edge of FIRE, since the previous sample or arming (R550) -/
  evs : BitVec 256 := 0
  fire : Bool := false
  deriving DecidableEq, Repr

/-- The filter engines and acquisition units with the chip's global arm and FIRE output (spec/17, spec/19). -/
structure Acq where
  fe : Vector Fe 4 := Vector.replicate 4 {}
  aq : Vector Aq 4 := Vector.replicate 4 {}
  /-- a global arm time that has not been reached (R559); the chip drives FIRE (R560) -/
  garm : Option Word := none
  firing : Bool := false
  /-- the beat of the trigger sample that began it (R560) -/
  fireAt : Word := 0
  deriving DecidableEq, Repr

/-- The power states, with start-up before the beat is released after a POR, a BOR or a wake from REST, and the SRR hold
(R111, R134, R143). -/
inductive PowerMode where
  | off | start | run | doze | standby | rest | srrHold
  deriving DecidableEq, Repr

/-- The steps of an entry into STANDBY or REST (R121). -/
inductive EntryStep where
  | e1 | e2 | e3
  deriving DecidableEq, Repr

/-- Where a reset, or a wake from REST, has got to (R126, R128, R153 to R157, R159). -/
inductive BootPhase where
  /-- the regulators start (R855) -/
  | regs
  /-- the regulators are valid and the lock sequence runs to beat release (R62) -/
  | beat
  /-- the beat is released after a stop, and device time is handed off at the next always-on edge (R79) -/
  | handoff
  /-- the boot ROM begins its flow (R153) -/
  | flow
  /-- the boot ROM tries an image source (0 MRAM, 1 flash, 2 host); those after it in the BOOT order (R146) -/
  | trying (src : Nat) (rest : List Nat)
  /-- a host try waits for RST_HOSTGO (R157) -/
  | hostWait (rest : List Nat)
  /-- an accepted image waits for the pair start or the cascade start (R757, R765) -/
  | accepted
  /-- boot-fail hold (R156) -/
  | failHold
  /-- the user image runs -/
  | user
  deriving DecidableEq, Repr

/-- The steps of a wake from STANDBY that end by commands: X1 (regulators), X2 and X3 (beat), X4 (hand-off) (R126). -/
inductive WakeStep where
  | regs | beat | handoff
  deriving DecidableEq, Repr

/-- A wake that was detected with the beat stopped or inside E3, to be logged at the hand-off (R80, R124, R727). -/
structure LpWake where
  code : Nat
  /-- always-on periods since the stop -/
  n : Nat
  latched : Bool
  /-- FROM of the log entry -/
  from' : Nat
  deriving DecidableEq, Repr

/-- The wakes logged in one always-on period with the beat running (R118, spec/03 At the edges): the period, the device time and FROM of
their entries, whether sources of the target act, the places of the entries in the log, and the codes in rising order. -/
structure WakeRun where
  period : Nat
  dt : Word
  from' : Nat
  target : Bool
  slots : List Nat
  codes : List Nat
  deriving DecidableEq, Repr

/-- What an accepted image's header gives the start of the user (R149, R159). -/
structure Image where
  entry : BitVec 24
  ecls : BitVec 2
  policy : BitVec 24
  deriving DecidableEq, Repr

/-- Supplies, resets, power states and the rest engine (spec/03, spec/04, spec/26). -/
structure Power where
  mode : PowerMode := .start
  boot : BootPhase := .regs
  /-- the reset in progress by its code of R134, 7 a wake from REST, 0 none -/
  kind : Nat := 1
  /-- RESET_N is held low from outside (R136); a PIN reset that a wake sequence leads to (spec/04 At the edges) -/
  pinLow : Bool := false
  pinPend : Bool := false
  /-- the chip drives RESET_N low (R137) -/
  rstDrive : Bool := true
  /-- VRSV supplies VSUP (R102) -/
  vsrc : Bool := false
  /-- the OFF latch is set (R113) -/
  offLatch : Bool := false
  /-- the escalation entry was lost (R328), for the reset entry of the fault log (R337) -/
  logLost : Bool := false
  /-- the entry in progress, the DTIME at which its step began, and its target, true for REST (R121) -/
  entry : Option EntryStep := none
  stepAt : Word := 0
  toRest : Bool := false
  /-- a wake sequence from STANDBY runs (R126) -/
  wake : Option WakeStep := none
  lpWakes : List LpWake := []
  /-- the wakes of the last always-on period that had one with the beat running (R118) -/
  woken : Option WakeRun := none
  /-- the wake timer counts (R117), from this DTIME -/
  wtimer : Bool := false
  wtAt : Word := 0
  /-- a write of PWR_CTL.REQ held until the next RUN (spec/03 At the edges) -/
  heldReq : Option (BitVec 3) := none
  image : Option Image := none
  /-- rest engine: POS0 to POS7 at the start of the commit interval (R722), and wake transmissions still to come (R724) -/
  rvPos : Vector Word 8 := Vector.replicate 8 0
  rvTx : Nat := 0
  /-- the beat from which TVOTE or TANS counts (R718, R719), and a REST_COMMIT on its way (R720) -/
  rvAt : Option Word := none
  rvDecided : Bool := false
  deriving DecidableEq, Repr

/-- A prefetch line of the flash port (R646): its block of 16 words, the valid words, and when it was last used. -/
structure XipLine where
  tag : Option Nat := none
  valid : BitVec 16 := 0
  words : Vector Word 16 := Vector.replicate 16 0
  used : Nat := 0
  deriving DecidableEq, Repr

/-- A fill frame: the next word it delivers and its last (R647, R649). -/
structure Fill where
  next : Nat
  last : Nat
  /-- the lines were invalidated since it began, so that its words are delivered but not kept (R650) -/
  stale : Bool := false
  deriving DecidableEq, Repr

/-- The flash port (spec/23). -/
structure Flash where
  lines : Vector XipLine 8 := Vector.replicate 8 {}
  /-- count of uses of lines, for least recently used -/
  uses : Nat := 0
  fill : Option Fill := none
  /-- strands that wait for an XIP word and its address, oldest first (R649) -/
  misses : List (StrandId × Nat) := []
  /-- the beats in which they missed (R650) -/
  missAt : List (StrandId × Word) := []
  /-- the lock is requested, or its release waits for a software frame; a frame with WRF ran during the lock (R655, R656) -/
  lockReq : Bool := false
  lockRel : Bool := false
  wrote : Bool := false
  /-- a software frame that runs: DIR, buffer, bytes (R651) -/
  frame : Option (Bool × Nat × Nat) := none
  deriving DecidableEq, Repr

/-- A frame in a CAN transmit buffer (R665 to R668): its descriptor, whether its transmission has begun with the DTIME of its
SOF, and for the wake transmission of R678 whether it is one and whether its first frame is still to be sent. -/
structure CanTx where
  desc : List Word
  sof : Option Word := none
  wake : Bool := false
  wupf : Bool := false
  /-- what the frame is, and the network time latched at its SOF (R89, R711) -/
  kind : SentKind := .txBuffer
  nl : BitVec 64 := 0
  deriving DecidableEq, Repr

/-- A frame of the ledger or the rest engine that waits for its transmit buffer (R687, R715). -/
structure EngFrame where
  kind : SentKind
  desc : List Word
  /-- a class-0 reply, placed before all others (R687); a WAKE_ABORT, which goes through buffer 7 ahead of every other frame (R715) -/
  first : Bool := false
  seven : Bool := false
  deriving DecidableEq, Repr

/-- The CAN and LIN controllers (spec/24). -/
structure Net where
  can : Vector (Option CanTx) 8 := Vector.replicate 8 none
  /-- frames of the ledger and the rest engine that wait for their transmit buffer, in order (R687, R715) -/
  engine : List EngFrame := []
  /-- a frame was lost to a full ring since its last record (R672) -/
  canGap : Vector Bool 2 := Vector.replicate 2 false
  /-- bus-off recovery runs (R674) -/
  recover : Bool := false
  /-- errors counted in selective wake (R676) -/
  pnErr : Nat := 0
  lin : Vector (Option (List Word)) 4 := Vector.replicate 4 none
  /-- the buffer whose LIN frame is on the bus (R680) -/
  linCur : Option (Fin 4) := none
  linGap : Bool := false
  deriving DecidableEq, Repr

/-- A window entry of the command ledger (R693 to R701); state by the codes of R689, step holds STEP or REASON. -/
structure LEntry where
  seq : BitVec 16
  state : BitVec 3
  cls : BitVec 2
  step : BitVec 8 := 0
  course : Option Course := none
  op : BitVec 16
  pos : Word := 0
  outcome : BitVec 16 := 0
  lin : Bool := false
  /-- argument bytes and stamp, for the delivery (R691, R692) -/
  args : List (BitVec 8) := []
  t : Word := 0
  lseq : BitVec 32 := 0
  /-- its last reply has been sent (R712) -/
  replied : Bool := false
  deriving DecidableEq, Repr

/-- The window, floor and credits of one originator (R695, R704, R706); credits of class k stand at k - 1. -/
structure LOrig where
  h : BitVec 16 := 0
  floor : BitVec 16 := 0
  entries : List LEntry := []
  g : Vector (BitVec 16) 3 := Vector.replicate 3 0
  c : Vector (BitVec 16) 3 := Vector.replicate 3 0
  r : Vector (BitVec 16) 3 := Vector.replicate 3 0
  /-- grants owed and not yet sent (R708) -/
  owed : Vector Nat 3 := Vector.replicate 3 0
  /-- the beat of the first of them (R708) -/
  owedAt : Word := 0
  deriving DecidableEq, Repr

/-- What waits for a ledger persist to commit (R699, R700, R702, R704, R708). -/
inductive LWait where
  | nothing
  /-- delivery and ACCEPTED reply of a request of class 1 to 3 -/
  | accept (o : Nat) (seq : BitVec 16)
  /-- the end reply of a request and the grant it owes -/
  | ending (o : Nat) (seq : BitVec 16)
  | reject (o : Nat) (seq : BitVec 16)
  | seal (on : Bool)
  | grants (o : Nat) (n : Vector Nat 3)
  deriving DecidableEq, Repr

/-- The command ledger's private store (spec/25). -/
structure Ledger where
  orig : Vector LOrig 13 := Vector.replicate 13 {}
  lseq : BitVec 32 := 0
  nextTag : Nat := 0
  waits : List (Nat × LWait) := []
  /-- the unseal has committed and requests are judged (R702) -/
  open' : Bool := false
  /-- requests held for the unseal, oldest first (R702) -/
  held : List RcpRequest := []
  /-- replies to publish over LIN, oldest first (R690) -/
  linOut : List (List Word) := []
  /-- the latch of the last SYNC beacon: BN, d, nl (R710) -/
  beacon : Option (BitVec 8 × Word × BitVec 64) := none
  /-- BN of the next SYNC of a time master (R711) -/
  bn : BitVec 8 := 0
  /-- the beat in which it sent its last SYNC (R711) -/
  syncAt : Option Word := none
  /-- the MRAM ledger was found invalid at this boot and is to be rewritten (R703) -/
  rewrite : Bool := false
  deriving DecidableEq, Repr

/-- Who waits for the result of a supervisor call (R315, R691, R773): a strand's operation, a ledger request, or the lead. -/
inductive SupCaller where
  | op (id : Nat)
  | ledger (o : Nat) (seq : BitVec 16)
  | remote
  deriving DecidableEq, Repr

/-- A call that has been accepted and waits (R572, R573, R596): its caller and its number among the calls. -/
structure SupCall where
  caller : SupCaller
  num : Nat
  deriving DecidableEq, Repr

/-- A motion of a course (R577 to R580, R591): the service, its argument, the call, its direction, the retries made, and the
cause it will end with once its present state ends (0 none). -/
structure SupMotion where
  svc : BitVec 12
  arg : Word
  call : SupCall
  up : Bool
  retries : Nat := 0
  cause : BitVec 4 := 0
  deriving DecidableEq, Repr

/-- What the learning of R595 has gathered of a bin: the sum and number of its outputs, and whether all came at VINT or more. -/
structure SupBin where
  bin : Nat
  sum : Int
  n : Nat
  fast : Bool
  deriving DecidableEq, Repr

/-- What the drive supervisor holds of a course (spec/20). -/
structure SupCourse where
  /-- its copy of the policy section (R565, R597) -/
  sec : Vector Word 16 := Vector.replicate 16 0
  /-- the tuning step in progress, 0 none, its results R, L, Ke, Tf, J and p, HPOL, MOFS, PPASSUMED as in word 6 (R582) -/
  step : Nat := 0
  tune : Vector Word 5 := Vector.replicate 5 0
  tuneInfo : Word := 0
  rotate : Bool := false
  /-- the motor record is being persisted -/
  saving : Bool := false
  mot : Option SupMotion := none
  motions : BitVec 16 := 0
  /-- DTIME at which STARTING, STOPPING, STALLED, REVERSING or the tuning step in progress began (R582, R585, R590, R591) -/
  since : Word := 0
  /-- DTIME of the last derating, none before the first (R587) -/
  derAt : Option Word := none
  mrec : Vector Word 8 := Vector.replicate 8 0
  /-- the friction profile, the copy in force, persists of a copy still to commit, the selector is being persisted, the profile
  changed since, and the PROFCLR calls that wait (R594, R596) -/
  prof : List (BitVec 16) := []
  profB : Bool := false
  storing : Nat := 0
  select : Bool := false
  dirty : Bool := false
  clears : List SupCall := []
  /-- the LIMIT override, 0 none, and kntc as it was last computed (R587) -/
  limit : Word := 0
  kntc : Int × Int := (1, 1)
  /-- a user strand took a sample of this period (R568) -/
  stolen : Bool := false
  /-- a TAKE or GIVE that waits, the arrangement it asks for, and the beat of its acceptance (R572, R573) -/
  take : Option (SupCall × Nat) := none
  takeAt : Word := 0
  /-- pinch: outputs over threshold in a row, whether the motion had any, and Brake periods still to come (R592, R593) -/
  pinch : Nat := 0
  pinched : Bool := false
  brake : Nat := 0
  /-- the bins of the motion, and that VBAT left LVLO to LVHI (R595) -/
  bins : List SupBin := []
  badVbat : Bool := false
  deriving DecidableEq, Repr

/-- The drive supervisor (spec/20). -/
structure Sup where
  hdr : Vector Word 4 := Vector.replicate 4 0
  /-- the address of the policy table -/
  table : BitVec 24 := 0
  courses : Vector SupCourse 8 := Vector.replicate 8 {}
  /-- calls taken; the record of call n is SYS_SVCALL(n mod 8) (R578) -/
  calls : Nat := 0
  /-- the last value taken of each fast channel -/
  vals : Vector (Option (BitVec 16)) 48 := Vector.replicate 48 none
  /-- when the last result of each NTC arrived (R587) -/
  ntcAt : Vector (Option Word) 4 := Vector.replicate 4 none
  /-- a remote call in progress: its TOK, and its result word once it has ended (R773, R774) -/
  rsvc : Option (BitVec 4 × Option Word) := none
  deriving DecidableEq, Repr

/-- The steps of a sense-wire check (R608): it waits for the pass in progress, converts the baseline, waits for the settling of
pin k, or converts the cells beside pin k. -/
inductive OwStep where
  | wait
  | base
  | settle (k : Nat)
  | conv (k : Nat)
  | fin
  deriving DecidableEq, Repr

/-- A sense-wire check: its step, the codes it still converts, the baseline by code, and the on-values by pin and code. -/
structure OwCheck where
  step : OwStep
  /-- the beat in which the step began -/
  since : Word := 0
  base : List (Nat × Int) := []
  on : List (Nat × Nat × Int) := []
  deriving DecidableEq, Repr

/-- The reserve stack and the shutdown sequence beside their registers (spec/21). -/
structure Reserve where
  /-- charging pauses at the target (R605) -/
  paused : Bool := false
  /-- results of the pass of IC1 in progress: code, result, and whether it carries CLIP, GAP or TEST (R603) -/
  pass : List (Nat × Int × Bool) := []
  /-- the balancing switches that R606 turns on -/
  bal : Nat := 0
  check : Option OwCheck := none
  /-- CONNECT is in force, and the beat in which it last ended (R614, R617) -/
  connect : Bool := false
  connEnd : Option Word := none
  /-- DTIME at the start of S3 and at the first start of S4, POS0 to POS7 at S3, and VEND was reached during a reserve motion -/
  s3At : Word := 0
  s4At : Word := 0
  s3Pos : Vector Word 8 := Vector.replicate 8 0
  vend : Bool := false
  /-- the last beat in which a course of RCRS ran (R614), in which VBATUV became 0 (R143), and in which an SRR hold began (R617) -/
  movedAt : Word := 0
  vbAt : Word := 0
  holdAt : Word := 0
  deriving DecidableEq, Repr

/-- An operation of a host frame that waits (R625, R638): the write of WRT carries its token. -/
inductive HostOp where
  | rd (a : BitVec 24)
  | wr (a : BitVec 24) (v : Word) (tok : Option (BitVec 4))
  | rdm (a : BitVec 24) (n : Nat)
  deriving DecidableEq, Repr

/-- A stream frame that runs (R632, R633): the words written, the words in the buffer, the result that
has ended its writing, and the bytes discarded at its select release once that has come. -/
structure HostStream where
  words : Nat := 0
  buf : List Word := []
  res : Option Nat := none
  disc : Option Nat := none
  deriving DecidableEq, Repr

/-- The host serial port (spec/22): whether the frame that runs is accepted, the reply bytes of the last accepted frame, the
operation that waits, and the stream. -/
structure HostPort where
  sel : Option Bool := none
  reply : List (BitVec 8) := []
  op : Option HostOp := none
  /-- the number of the operation in the machine-wide order of R224, and whether its select release fell after the start of E1 -/
  ord : Nat := 0
  late : Bool := false
  stream : Option HostStream := none
  deriving DecidableEq, Repr

/-- What a twin chip holds beside its registers (spec/27). -/
structure Twin where
  /-- the start beat M, and the number of the present window (R736, R757) -/
  start : Word := 0
  win : Nat := 0
  /-- FSEQ of the next frame: to be sent by the primary, to be received by the shadow -/
  seq : BitVec 16 := 0
  /-- the items of the present window, and the frames that no ASEQ covers yet (R739) -/
  items : List TwinItem := []
  held : List TwinFrame := []
  /-- ledger frames that wait for an ASEQ, with the FSEQ of the window in which each was formed (R744) -/
  outbox : List (BitVec 16 × EngFrame) := []
  /-- the first beat in which a pending HANDOVER may release (R751) -/
  handover : Option Word := none
  /-- the last beat of the newest good frame, and frames missing in a row (R740, R749) -/
  bEnd : Word := 0
  miss : Nat := 0
  /-- values of LIVE items not yet used, and the digest of the newest DIGEST item (R734, R746) -/
  live : List Word := []
  digest : Option Word := none
  /-- the physical beat since which TWFAIL has read high for 48 beats; an END or HANDOVER replayed: its cause, 0 for HANDOVER, and beat; the
  claim to be made: its trigger, beat C and physical trigger beat (R749, R752) -/
  twfail : Option Word := none
  ended : Option (Nat × Word) := none
  claim : Option (Nat × Word × Word) := none
  /-- items received whose beats have not been executed yet, with those beats (R732); the code of the last integrating entry replayed, 16
  for none, and the words of a software flash frame (R737) -/
  rxq : List (Word × TwinItem) := []
  rcode : Nat := 16
  rwords : List Word := []
  /-- the digest so far, the beat of the last checkpoint, the last beat the digest took, and the register words as that beat left them (R745,
  R746) -/
  crc : BitVec 48 := 0xFFFFFFFFFFFF
  ckAt : Word := 0
  fedAt : Option Word := none
  seen : List Word := []
  /-- the beat of the last status frame (R742) -/
  statAt : Word := 0
  /-- the beat in which the chip released, or a reset of it began: TWFAIL is driven for 120 beats more (R748, R750) -/
  tail : Option Word := none
  /-- a shadow's own hand-off, while it waits for the RESUME item (R762) -/
  handed : Option Word := none
  /-- PEER_TWPDT.T less DTIME (R732, R752) -/
  pdt : Word := 0
  /-- the last 16 frames heard, the Hall states registered by the own inputs with their physical beats, newest first, and the
  newest stamp of a journaled record (R754, R755) -/
  heard : List RxEvent := []
  halls : List (Course × BitVec 3 × Word) := []
  stamp : Word := 0
  /-- the own modulators' counts since the newest journaled checkpoint (R754) -/
  own : Int × Int := (0, 0)
  deriving DecidableEq, Repr

/-- The links of a cascade: the last frame sent from port A and from port B, and whether it has been retransmitted (R768), and an alignment in
progress. -/
structure Link where
  lastA : Option (Sent × Bool) := none
  lastB : Option (Sent × Bool) := none
  /-- the lead aligns its chain again (R778), or will once its ports have trained after a wake (R781) -/
  realign : Bool := false
  wakeAlign : Bool := false
  /-- the beat of X5 from which CHAINTO counts then -/
  alignAt : Word := 0
  /-- the positions that the chain has, as the census has told a follower (R305) -/
  chain : BitVec 4 := 0xF
  /-- the number of the last request performed for each issuing position (R306, R768) -/
  served : Vector (Option Nat) 4 := Vector.replicate 4 none
  deriving DecidableEq, Repr

/-- What has come about in the present beat and counts until its end: the W1C bits that the hardware has set, by register word (R17),
the event lines asserted (R209), the first refusal in the order of R58 with the number of refusals, TIME_RATE.R before HOLDOVER
expired (spec/02 At the edges), the results that found the queue full with their masks and the gap before them (R463), the cause of
a charge gap (spec/16 At the edges), the capture edges, as channel, whether of PSRC, whether rising, and tap (R535), and whether STANDBY has
lasted DEEPEN minutes (spec/03 At the edges), the strands whose XIP words are found to be late and whether a fill frame has ended (R650, R655),
and the issue words and stores of the digest (R745). -/
structure Now where
  w1c : List (Nat × Word) := []
  /-- what a record whose VALID is set would have taken in this beat had VALID been clear: VALID's register, a register and its word (R17) -/
  again : List (Nat × Nat × Word) := []
  lines : BitVec 256 := 0
  refusal : Option (Nat × Nat × Nat × Nat) := none
  rate : Option Nat := none
  missed : List (Word × BitVec 9 × Bool) := []
  gapSrc : Option Nat := none
  edges : List (Fin 16 × Bool × Bool × Nat) := []
  deepen : Bool := false
  xto : List StrandId := []
  fillEnd : Bool := false
  issues : List Word := []
  stores : List Word := []
  deriving DecidableEq, Repr

/-- The whole state of the block. -/
structure State where
  /-- peripheral registers that differ from their value after reset, by word address (R258, R815) -/
  regs : List (Nat × Word) := []
  /-- RAM words that are not zero, by word address (R160, R163, R164) -/
  ram : List (Nat × Word) := []
  /-- MRAM words that are not zero, by word address (R160, R167) -/
  mram : List (Nat × Word) := []
  core : Core := {}
  time : Time := {}
  mem : Mem := {}
  dbg : Debug := {}
  stage : Stage := {}
  pwr : Power := {}
  flash : Flash := {}
  fadc : Fadc := {}
  acq : Acq := {}
  pos : Vector Pos 8 := Vector.replicate 8 {}
  tc : Vector Tc 16 := Vector.replicate 16 {}
  iconv : Iconv := {}
  net : Net := {}
  sup : Sup := {}
  rsv : Reserve := {}
  ledg : Ledger := {}
  host : HostPort := {}
  twin : Twin := {}
  link : Link := {}
  now : Now := {}
  /-- levels of the GPIO balls, an input from outside (R807) -/
  gpioIn : BitVec 48 := 0
  /-- what the chip has sent, newest first; the model's own field, the outward side of its commands -/
  sent : List Sent := []
  /-- number of the next free value (log entry 5, DESIGN CHOICE); the model's own field -/
  free : Nat := 0
  /-- commands that wait, first in first out -/
  pending : List Instr := []
  deriving DecidableEq, Repr

/-- Why a step stops with a fault: no command of this block does. -/
inductive Fault where
  /-- Raised by no command; kept so that the outcome has the host's three forms. Safe. -/
  | never
  deriving DecidableEq, Repr

/-- Why a step answers a refusal. -/
inductive Refusal where
  /-- The command's meaning has not been written. Safe: nothing is claimed of it. -/
  | notModelled (mnemonic : String)
  deriving DecidableEq, Repr

/-- The state right after power-on reset begins: every register at its value after reset, memory with nothing listed. -/
def State.reset : State := {}

end Sys2Proof.Machine
end

