-- ==== Sys2Proof/Machine/Ops.lean ====
section
/-!
DEFINITION. Machine/Ops.lean: the named operations every command is written with: reading and writing register words and
fields, memory with its error codes, free values, strands, event lines, the trace buffer, persists, fences and conflicts.
-/
namespace Sys2Proof.Machine

/-! ## Registers -/

/-- The word at a register address (R258). -/
def State.reg (s : State) (a : Nat) : Word := spGet resetWord s.regs a

/-- Set the word at a register address. -/
def State.setReg (s : State) (a : Nat) (w : Word) : State := { s with regs := spSet resetWord s.regs a w }

/-- The value of a field. -/
def State.get (s : State) (f : Fld) : Nat := getBits (s.reg f.addr) f.lo f.len

/-- The present beat with the hardware's setting of bits m of a W1C field noted (R17). -/
def Now.mark (n : Now) (f : Fld) (m : Nat) : Now :=
  if f.w1c && m % 2 ^ f.len != 0 then { n with w1c := spSet (fun _ => 0) n.w1c f.addr (setBits (spGet (fun _ => 0) n.w1c f.addr) f.lo f.len
    (getBits (spGet (fun _ => 0) n.w1c f.addr) f.lo f.len ||| m)) } else n

/-- The bits of v that are not in w. -/
def newBits (v w : Nat) : Nat := v ^^^ (v &&& w)

/-- Set a field to the low bits of v; the bits of a W1C field that this sets stay set through this beat (R17). -/
def State.put (s : State) (f : Fld) (v : Nat) : State :=
  { s.setReg f.addr (setBits (s.reg f.addr) f.lo f.len v) with now := s.now.mark f (if f.len = 1 then v else newBits v (s.get f)) }

/-- Set the bits m of a field (R17). -/
def State.orF (s : State) (f : Fld) (m : Nat) : State :=
  { s.setReg f.addr (setBits (s.reg f.addr) f.lo f.len (s.get f ||| m)) with now := s.now.mark f m }

/-- Whether a field is not zero. -/
def State.on (s : State) (f : Fld) : Bool := s.get f != 0

/-- Set a field to one or zero. -/
def State.putB (s : State) (f : Fld) (b : Bool) : State := s.put f (if b then 1 else 0)

/-- Add to a counting field that saturates. -/
def State.bump (s : State) (f : Fld) (k : Nat := 1) : State := s.put f (satAdd f.len (s.get f) k)

/-- Run f when c holds. -/
def State.when (s : State) (c : Bool) (f : State → State) : State := if c then f s else s

/-- Run f for each number below n. -/
def State.forN (s : State) (n : Nat) (f : Nat → State → State) : State := (List.range n).foldl (fun t i => f i t) s

/-- A record whose VALID stands in register key, made by f, comes about: it is taken while VALID is clear, and otherwise kept for a clearing
write of this beat (R17, spec/05 At the edges). -/
def State.record (s : State) (valid : Fld) (regs : List Nat) (f : State → State) : State :=
  if !s.on valid then f s
  else if s.now.again.any (fun p => p.1 == valid.addr) then s
  else
    let t := f s
    { s with now := { s.now with again := s.now.again ++ regs.map (fun a => (valid.addr, a, t.reg a)) } }

/-- After a write that clears VALID of a record, the record takes what came about in this beat (R17). -/
def State.rerecord (s : State) (valid : Fld) : State :=
  if s.on valid then s
  else (s.now.again.filter (fun p => p.1 == valid.addr)).foldl (fun t p => t.setReg p.2.1 p.2.2) s

/-! ## Free values -/

/-- The next free value (log entry 5, DESIGN CHOICE). -/
def State.freeWord (s : State) : Word := Config.freeValue s.free

/-- The state after k free values have been used. Log entry 5, DESIGN CHOICE. -/
def State.useFree (s : State) (k : Nat := 1) : State := { s with free := s.free + k }

/-! ## Time -/

/-- The millisecond of DTIME: its whole multiples of 240,000 beats. -/
def State.ms (s : State) : Nat := s.time.dtime.toNat / 240000

/-- Whether device time t has been reached at d, by the signed difference of R76. -/
def reached (d t : Word) : Bool := decide (0 ≤ (d - t).toInt)

/-! ## Strands -/

/-- A strand of the machine. -/
def State.strand (s : State) (i : StrandId) : Strand := s.core.strands[i]

/-- Replace a strand. -/
def State.setStrand (s : State) (i : StrandId) (x : Strand) : State :=
  { s with core := { s.core with strands := s.core.strands.set i x } }

/-- Change a strand. -/
def State.modStrand (s : State) (i : StrandId) (f : Strand → Strand) : State := s.setStrand i (f (s.strand i))

/-- Read a word register; w0 reads zero (R229). -/
def Strand.rd (x : Strand) (r : BitVec 5) : Word := if r = 0 then 0 else x.w[r.toNat]'(r.isLt)

/-- Write a word register; a write of w0 is discarded (R229). -/
def Strand.wr (x : Strand) (r : BitVec 5) (v : Word) : Strand :=
  if r = 0 then x else { x with w := x.w.set r.toNat v r.isLt, wrote := x.wrote ++ [v] }

/-- The operations a strand has in flight (R207). -/
def State.opsOf (s : State) (i : StrandId) : List Op := s.core.ops.filter (fun o => o.str = i)

/-- Whether the strand is a supervisor strand (R195). -/
def isSup (i : StrandId) : Bool := decide (56 ≤ i.val)

/-- A trace entry takes its place behind those of its beat whose strand is not above its own (R795). -/
def traceInsert (e : Word) (l : List Word) : List Word :=
  let later := l.reverse.takeWhile (fun x => getBits x 24 24 == getBits e 24 24 && decide (getBits e 18 6 < getBits x 18 6))
  l.take (l.length - later.length) ++ e :: later.reverse

/-- Enter an event of a strand into the trace buffer when trace records its kind; those of one beat stand by strand (R795). -/
def State.traceEv (s : State) (kind : Nat) (i : StrandId) (data : Nat) : State :=
  if s.on R.DBG_TRCTL_EN && (s.get R.DBG_TRCTL_KINDS).testBit (kind - 1) then
    let e : Word := Word.ofN ((s.time.dtime.toNat % 2 ^ 24) * 2 ^ 24 + i.val * 2 ^ 18 + kind * 2 ^ 14 + (data % 256) * 2 ^ 6)
    if s.dbg.trace.length < 64 then { s with dbg := { s.dbg with trace := traceInsert e s.dbg.trace } }
    else { s with dbg := { s.dbg with trace := traceInsert e (s.dbg.trace.drop 1) } }.bump R.DBG_STAT_TROVR
  else s

/-- Whether a strand is in a wait that an event can end (R212, R853), also while debug holds it (R199). -/
def Strand.inWait (x : Strand) : Bool :=
  x.state = .waiting || (x.state = .draining && x.drainTo = .waiting)
    || (x.state = .halted && (x.heldFrom = .waiting || (x.heldFrom = .draining && x.drainTo = .waiting)))

/-- The lowest set bit of a line set, as a line number. -/
def lowestLine (b : BitVec 256) : Option (BitVec 8) :=
  (List.range 256).find? (fun i => b.getLsbD i) |>.map (BitVec.ofNat 8)

/-- What a strand's wait completes with once the lines hit were asserted for it in beat now (R212, R311, R853): the deadline if it was
reached in an earlier beat, else the lowest line, else the deadline if it is reached in this beat. A deadline that DEADLINE_REACHED fixed
in this beat gives way to a line. -/
def Strand.ends (x : Strand) (now : Word) (hit : BitVec 256) : WaitEnd :=
  let late : Bool := x.waitDl.any (fun d => decide (0 < (now - d).toInt))
  let due : Bool := x.waitDl.any (reached now)
  let fresh : Bool := match x.waitEnd with
    | .none => true
    | .deadline => x.waitAt == now
    | .line _ => false
  if !x.inWait || !fresh then x.waitEnd
  else if late then .deadline
  else match lowestLine hit with
    | some n => .line n
    | none => if due then .deadline else x.waitEnd

/-- The effect on one strand, at the end of beat now, of the lines asserted in that beat (R209, R210, R212, R853). -/
def Strand.hear (x : Strand) (now : Word) (ls : BitVec 256) : Strand :=
  let hit := ls &&& x.mask
  let e := x.ends now hit
  { x with pend := x.pend ||| hit, evMerge := x.evMerge || (hit &&& x.pend) != 0, waitEnd := e
           waitAt := if e = x.waitEnd then x.waitAt else now }

/-- Assert a set of event lines in this beat: strands hear them at its end (R209); the acquisition units note them for EVENT conditions
(R550). -/
def State.assertLines (s : State) (ls : BitVec 256) : State :=
  { s with
    now := { s.now with lines := s.now.lines ||| ls }
    acq := { s.acq with aq := s.acq.aq.map (fun q => { q with evs := q.evs ||| ls }) } }

/-- Every strand hears the lines asserted in this beat (R209, R210, R212). -/
def State.hearLines (s : State) : State :=
  { s with core := { s.core with strands := s.core.strands.map (fun x => x.hear s.time.dtime s.now.lines) } }

/-- Assert one event line (R209). -/
def State.assertEv (s : State) (l : Nat) : State := s.assertLines (BitVec.ofNat 256 (1 <<< l))

/-- A line is asserted in the next beat (R215, R538). -/
def State.assertNext (s : State) (l : Nat) : State :=
  { s with core := { s.core with nextEv := s.core.nextEv ||| BitVec.ofNat 256 (1 <<< l) } }

/-- The lines that were to be asserted in this beat are (R215, R538). -/
def State.nextLines (s : State) : State :=
  if s.core.nextEv = 0 then s else ({ s with core := { s.core with nextEv := 0 } }).assertLines s.core.nextEv

/-- Class-0 strands that are RUNNABLE. -/
def State.c0Run (s : State) : Nat := (s.core.strands.toList.filter (fun x => x.state = .runnable && x.cls = 0)).length

/-- More than four class-0 strands runnable in one beat set C0_OVER (R50). -/
def State.checkC0 (s : State) : State := s.when (decide (4 < s.c0Run)) (·.put R.SYS_GSTAT_C0_OVER 1)

/-! ## The address map -/

/-- The regions of the address space (R160). -/
inductive Region where
  | mramUser | mramSys | ram | rom | periph | xip | reserved
  deriving DecidableEq, Repr

/-- The region of an address (R160). -/
def region (a : Nat) : Region :=
  if a < 0x70000 then .mramUser
  else if a < 0x80000 then .mramSys
  else if 0x100000 ≤ a ∧ a < 0x200000 then .ram
  else if 0x200000 ≤ a ∧ a < 0x208000 then .rom
  else if 0x400000 ≤ a ∧ a < 0x500000 then .periph
  else if 0x800000 ≤ a ∧ a < 0xC00000 then .xip
  else .reserved

/-- A reserved address, or one of the peripheral region at which no register lies (R161). -/
def unmapped (a : Nat) : Bool := region a == .reserved || (region a == .periph && (regRow a).isNone)

/-- The kinds of access of R160. -/
inductive AccKind where
  | load | store | fetch | persist | atomic
  deriving DecidableEq, Repr

/-- Fault causes (R318). -/
def causeILL : Nat := 1
def causeADDR : Nat := 2
def causePROT : Nat := 3
def causeMEMERR : Nat := 4
def causeXIPERR : Nat := 5

/-- Whether a user strand may load a word of the MRAM system area (R169). -/
def sysLoadable (a : Nat) : Bool :=
  decide (a < 0x78000) || decide (0x7E000 ≤ a ∧ a < 0x7F000) || decide (0x7F800 ≤ a ∧ a < 0x7FF00)

/-- The fault of an access by region and kind, none where it is allowed (R160, R161, R162, R169); the debug block refuses
every strand (R787). -/
def accessFault (sup : Bool) (k : AccKind) (a : Nat) : Option Nat :=
  match region a with
  | .reserved => some causeADDR
  | .mramUser => if k = .load ∨ k = .fetch ∨ k = .persist then none else some causePROT
  | .mramSys =>
    if sup then (if (k = .load ∨ k = .fetch ∨ k = .persist) ∧ a < 0x7FF00 then none else some causePROT)
    else if k = .load ∧ sysLoadable a then none else some causePROT
  | .ram => if k = .persist then some causePROT else none
  | .rom => if sup ∧ (k = .load ∨ k = .fetch) then none else some causePROT
  | .periph =>
    if (regRow a).isNone then some causeADDR
    else if 0x41F000 ≤ a ∧ a < 0x420000 then some causePROT
    else if k = .load ∨ k = .store then none else some causePROT
  | .xip => if k = .load ∨ k = .fetch then none else some causePROT

/-! ## Fences -/

/-- First address and length of a fence, and its owner (R191). -/
def State.fence (s : State) (n : Nat) : Nat × Nat × Nat :=
  (s.get (R.MEM_FENCE_BASE n) * 64, s.get (R.MEM_FENCE_LEN n) * 64, s.get (R.MEM_FENCE_OWNER n))

/-- Whether a fence is active (R191). -/
def State.fenceOn (s : State) (n : Nat) : Bool :=
  let f := s.fence n
  f.2.1 != 0 && f.2.2 != 0

/-- The owner of the active fence that holds address a (R191, R193: active fences do not overlap). -/
def State.fenceOwner (s : State) (a : Nat) : Option Nat :=
  (List.range 8).find? (fun n => s.fenceOn n && decide ((s.fence n).1 ≤ a ∧ a < (s.fence n).1 + (s.fence n).2.1))
    |>.map (fun n => (s.fence n).2.2)

/-- Whether every word of a buffer lies inside one active fence of the owner (R192). -/
def State.fencedBy (s : State) (owner base len : Nat) : Bool :=
  (List.range 8).any (fun n => s.fenceOn n && (s.fence n).2.2 == owner
    && decide ((s.fence n).1 ≤ base ∧ base + len ≤ (s.fence n).1 + (s.fence n).2.1))

/-- The active fence that holds address a, 0xFF where none does. Log entry 47, DEDUCED. -/
def State.fenceIndex (s : State) (a : Nat) : Nat :=
  ((List.range 8).find? (fun n => s.fenceOn n && decide ((s.fence n).1 ≤ a ∧ a < (s.fence n).1 + (s.fence n).2.1))).getD 0xFF

/-- The first word of a buffer that no fence of the owner holds. Log entry 47, DEDUCED. -/
def State.firstOutside (s : State) (owner base len : Nat) : Nat :=
  base + ((List.range len).find? (fun k => s.fenceOwner (base + k) != some owner)).getD 0

/-- Whether a strand's store at a RAM address is refused by a fence that the program does not own (R192). -/
def State.fenceBars (s : State) (a : Nat) : Bool :=
  match s.fenceOwner a with
  | some o => o != 1
  | none => false

/-! ## Conflicts -/

/-- SYS_CONFLICT shows a refusal and the number of refusals (R58). -/
def State.showRefusal (s : State) (kind index claimant count : Nat) : State :=
  ((((s.put R.SYS_CONFLICT_VALID 1).put R.SYS_CONFLICT_KIND kind).put R.SYS_CONFLICT_INDEX index).put
    R.SYS_CONFLICT_CLAIMANT claimant).put R.SYS_CONFLICT_COUNT (satAdd 16 count 0)

/-- Whether a refusal ranks before another of the same beat: the lower KIND, then the lower INDEX (spec/01 At the edges). -/
def ranksBefore (k i : Nat) (r : Nat × Nat × Nat × Nat) : Bool := decide (k < r.1 ∨ (k = r.1 ∧ i < r.2.1))

/-- Record a refused claim in SYS_CONFLICT (R52, R53, R58): a refusal of this beat gives its place to one that ranks before it. -/
def State.conflict (s : State) (kind index claimant : Nat) : State :=
  let n := match s.now.refusal with | some r => r.2.2.2 + 1 | none => 1
  let first := s.now.refusal.all (ranksBefore kind index)
  let now := match s.now.refusal with
    | some r => if first then some (kind, index, claimant, n) else some (r.1, r.2.1, r.2.2.1, n)
    | none => some (kind, index, claimant, 1)
  let own := !s.on R.SYS_CONFLICT_VALID || s.now.refusal.any (fun r => s.get R.SYS_CONFLICT_COUNT == r.2.2.2)
  let t := if !s.on R.SYS_CONFLICT_VALID then s.showRefusal kind index claimant 1
    else if own && first then s.showRefusal kind index claimant (s.get R.SYS_CONFLICT_COUNT + 1)
    else s.bump R.SYS_CONFLICT_COUNT
  { t with now := { t.now with refusal := now } }

/-- Refuse an enable or an arm whose buffer does not lie in a fence of its owner (R52, R192, R546). Log entry 47, DEDUCED. -/
def State.refuseFence (s : State) (owner base len : Nat) : State := s.conflict 4 (s.fenceIndex (s.firstOutside owner base len)) owner

/-! ## Persists -/

/-- Put a persist at the end of those that reach the staging ring (R173). -/
def State.persist (s : State) (p : Persist) : State :=
  { s with mem := { s.mem with persists := s.mem.persists ++ [p] } }

/-- The tag word of a class-N shadow record (R851). -/
def shadowTag (a : Nat) : Word := Word.ofN (0x4E5348 * 2 ^ 24 + a)

/-- The register words that have a record in the class-N shadow: those with a field of class N that R851 does not rebuild. Log entry 16,
DESIGN CHOICE. -/
def shadowWords : List Nat :=
  [RW.RST_BOOTCFG, RW.ICONV_STAT, RW.LEDG_CRINIT, RW.LEDG_STAT, RW.PEER_TWCFG, RW.PEER_CSCFG]
    ++ (List.range 8).flatMap (fun c => [RW.POS_CFG c, RW.POS_STAT c])

/-- The address of the class-N shadow record of a register word (R169, R851): in the order of that list (log entry 16, DESIGN CHOICE). -/
def shadowAddr (a : Nat) : Nat := 0x7F000 + 2 * shadowWords.idxOf a

/-- Start the persist of a register word into the class-N shadow (R176). Log entry 57, DEDUCED. -/
def State.persistShadow (s : State) (a : Nat) : State :=
  s.persist { owner := .shadow a, target := BitVec.ofNat 24 (shadowAddr a), data := [s.reg a, shadowTag a] }

/-- Set a field of keep class N; a change starts the persist of its word (R176). Log entry 57, DEDUCED. -/
def State.putN (s : State) (f : Fld) (v : Nat) : State :=
  let t := s.put f v
  if s.get f = t.get f then t else t.persistShadow f.addr

/-- Write a register word field by field; a change of a keep-class-N field starts its persist (R16, R20, R176, R258). A W1C bit that the
hardware sets in this beat stays set (R17). -/
def State.writePlain (s : State) (a : Nat) (v : Word) : State :=
  match regRow a with
  | none => s
  | some r =>
    let v := v &&& ~~~ spGet (fun _ => 0) s.now.w1c a
    let t := s.setReg a (writeFields r.fields (s.reg a) v)
    if r.fields.any (fun f => f.keep == .n && getBits (t.reg a) f.lo f.len != getBits (s.reg a) f.lo f.len) then t.persistShadow a
    else t

/-- The latest device time not after now whose low 20 bits equal a truncated time (R75). -/
def State.full20 (s : State) (x : Nat) : Word := s.time.dtime - Word.ofN ((s.time.dtime.toNat + (2 ^ 20 - x % 2 ^ 20)) % 2 ^ 20)

/-! ## Memory -/

/-- The word of six flash bytes: the first in bits 47:40, the last in bits 7:0 (R189). -/
def xipWord (b : FlashBytes) : Word := b[0] ++ b[1] ++ b[2] ++ b[3] ++ b[4] ++ b[5]

/-- The word RAM holds (R163). Log entry 4, DEDUCED. -/
def State.ramAt (s : State) (a : Nat) : Word := spGet (fun _ => 0) s.ram a

/-- Whether a RAM word is a source word of a strand's persist that has not committed (R300). -/
def Persist.reads (p : Persist) (a : Nat) : Bool := p.src.any (fun b => decide (b.toNat ≤ a ∧ a < b.toNat + p.data.length))

/-- A store to a source word of a persist: the word is persisted with its earlier or with its later value (R300). Log entry 22, DESIGN CHOICE. -/
def Persist.restore (p : Persist) (a : Nat) (v : Word) (later : Bool) : Persist :=
  if p.reads a && later then { p with data := p.data.set (a - (p.src.getD 0).toNat) v } else p

/-- Write a RAM word with fresh check bits (R166). Which of its values a persist that has the word as a source takes is free (R300). Log
entry 22, DESIGN CHOICE. -/
def State.ramSet (s : State) (a : Nat) (v : Word) : State :=
  { s with
    ram := spSet (fun _ => 0) s.ram a v
    mem := { s.mem with
      ramErr := spSet (fun _ => 0) s.mem.ramErr a 0
      persists := s.mem.persists.mapIdx (fun k p => p.restore a v ((Config.freeValue (s.free + k)).getLsbD 0)) }
    free := s.free + (if s.mem.persists.any (fun p => p.reads a) then s.mem.persists.length else 0) }

/-- The word the MRAM array holds. -/
def State.mramRaw (s : State) (a : Nat) : Word := spGet (fun _ => 0) s.mram a

/-- Write words of the MRAM array from an address up (R170). -/
def State.mramSet (s : State) (a : Nat) : List Word → State
  | [] => s
  | w :: t =>
    State.mramSet { s with
      mram := spSet (fun _ => 0) s.mram a w
      mem := { s.mem with mramErr := spSet (fun _ => 0) s.mem.mramErr a 0 } } (a + 1) t

/-- The value a committed slot gives a word, if the word is one of its targets (R172). -/
def Slot.at (t : Slot) (a : Nat) : Option Word :=
  if t.target.toNat ≤ a then t.data[a - t.target.toNat]? else none

/-- The newest value that a committed persist still to be applied gives a word of MRAM (R172, R173). -/
def State.slotAt (s : State) (a : Nat) : Option Word := (s.mem.slots.reverse.filterMap (fun t => t.at a)).head?

/-- The word of MRAM as a load sees it: the newest committed value (R172). Log entry 4, DEDUCED. -/
def State.mramAt (s : State) (a : Nat) : Word := (s.slotAt a).getD (s.mramRaw a)

/-- Count and record an uncorrectable read (R178). -/
def State.noteUncorr (s : State) (mram : Bool) (a src strand : Nat) : State :=
  let t := s.bump (if mram then R.MEM_ERRCNT_MRAMUE else R.MEM_ERRCNT_RAMUE)
  let t := t.record R.MEM_ERRADDR_VALID [RW.MEM_ERRADDR] (fun t =>
    (((t.put R.MEM_ERRADDR_ADDR a).put R.MEM_ERRADDR_SRC src).put R.MEM_ERRADDR_STRAND strand).put R.MEM_ERRADDR_VALID 1)
  t.assertEv 50

/-- Ask for the write-back of a corrected RAM word (R164). -/
def State.askRamWb (s : State) (a : Nat) : State :=
  if a ∈ s.mem.ramWb then s else { s with mem := { s.mem with ramWb := s.mem.ramWb ++ [a] } }

/-- Ask for the write-back of a corrected MRAM word (R177). -/
def State.askMramWb (s : State) (a : Nat) : State :=
  if a ∈ s.mem.mramWb then s else { s with mem := { s.mem with mramWb := s.mem.mramWb ++ [a] } }

/-- A RAM read with its error code: the word, or none where it reads uncorrectable (R164, R165, R178, R852). src is the
reader code of MEM_ERRADDR. Log entry 21, DESIGN CHOICE. -/
def State.ramRead (s : State) (a src strand : Nat) : Option Word × State :=
  match spGet (fun _ => 0) s.mem.ramErr a with
  | 0 => (some (s.ramAt a), s)
  | 1 => (some (s.ramAt a), (s.bump R.MEM_ERRCNT_RAMCE).askRamWb a)
  | 2 => (none, s.noteUncorr false a src strand)
  | _ =>
    let how := s.freeWord
    let t := s.useFree
    if how.getLsbD 0 then (none, t.noteUncorr false a src strand)
    else (some t.freeWord, (t.useFree).when (how.getLsbD 1) (·.bump R.MEM_ERRCNT_RAMCE))

/-- Bits in error of a word of MRAM as it is read: none in a word whose value comes from a committed persist (R172). -/
def State.mramBad (s : State) (a : Nat) : Nat := if (s.slotAt a).isSome then 0 else spGet (fun _ => 0) s.mem.mramErr a

/-- An MRAM read with its error code (R167, R172, R178, R852); a read by a strand or the scrubber, codes 0 to 2, asks for the write-back of
R177. Log entry 21, DESIGN CHOICE. -/
def State.mramRead (s : State) (a src strand : Nat) : Option Word × State :=
  match s.mramBad a with
  | 0 => (some (s.mramAt a), s)
  | 3 => (none, s.noteUncorr true a src strand)
  | n =>
    if n ≤ 2 then
      (some (s.mramAt a), (s.bump R.MEM_ERRCNT_MRAMCE).when (decide (src ≤ 2 ∧ s.get R.MEM_SCRUB_MWTH ≤ n)) (·.askMramWb a))
    else
      let how := s.freeWord
      let t := s.useFree
      if how.getLsbD 0 then (none, t.noteUncorr true a src strand)
      else (some t.freeWord, (t.useFree).when (how.getLsbD 1) (·.bump R.MEM_ERRCNT_MRAMCE))

/-! ## Outcomes -/

/-- Every command answers a next state. -/
abbrev done (s : State) : Host.Outcome State Fault Refusal := .next s

end Sys2Proof.Machine
end

