-- ==== Sys2Proof/Machine/Flags.lean ====
section
/-!
DEFINITION. Machine/Flags.lean: the status word, its condition flags by instruction kind, its sticky flags and its
conditions (R234, R235, R238).
-/
namespace Sys2Proof.Machine

/-- ST as a word (spec/07 Registers). -/
def Status.word (t : Status) : Word :=
  Word.ofN (t.z.toNat + 2 * t.n.toNat + 4 * t.c.toNat + 8 * t.v.toNat + 16 * t.sat.toNat + 32 * t.aov.toNat
    + 64 * t.dz.toNat + 128 * t.dom.toNat + 256 * t.rm.toNat)

/-- ST from a word, reserved bits ignored (R282). -/
def Status.ofWord (w : Word) : Status :=
  { z := w.getLsbD 0, n := w.getLsbD 1, c := w.getLsbD 2, v := w.getLsbD 3, sat := w.getLsbD 4, aov := w.getLsbD 5,
    dz := w.getLsbD 6, dom := w.getLsbD 7, rm := w.extractLsb' 8 2 }

/-- Whether a condition code holds (R238). -/
def Status.cond (t : Status) (c : BitVec 4) : Bool :=
  match c.toNat with
  | 0 => true
  | 1 => t.z
  | 2 => !t.z
  | 3 => t.n != t.v
  | 4 => t.n == t.v
  | 5 => t.z || (t.n != t.v)
  | 6 => !t.z && (t.n == t.v)
  | 7 => t.c
  | 8 => !t.c
  | 9 => t.c || t.z
  | 10 => !t.c && !t.z
  | 11 => t.n
  | 12 => !t.n
  | 13 => t.v
  | 14 => !t.v
  | _ => t.sat

/-- Set the condition flags for a result, with C and V given, when F is 1 (R234). -/
def Strand.flags (x : Strand) (f : Bool) (res : Word) (c v : Bool) : Strand :=
  if f then { x with st := { x.st with z := res == 0, n := res.getLsbD 47, c := c, v := v } } else x

/-- Set the sticky flag SAT when a word result saturated, whatever F holds (R235). -/
def Strand.satIf (x : Strand) (b : Bool) : Strand :=
  if b then { x with st := { x.st with sat := true } } else x

/-- Set the sticky flag AOV when an accumulator saturated (R235). -/
def Strand.aovIf (x : Strand) (b : Bool) : Strand :=
  if b then { x with st := { x.st with aov := true } } else x

/-- Set the sticky flags a long operation sets at its completion (R235, R288). -/
def Strand.sticky (x : Strand) (sat dz dom : Bool) : Strand :=
  { x with st := { x.st with sat := x.st.sat || sat, dz := x.st.dz || dz, dom := x.st.dom || dom } }

/-- Carry out of bit 47 of the exact sum (R234, Add row). -/
def carryOut (a b : Word) (cin : Nat) : Bool := decide (2 ^ 48 ≤ a.toNat + b.toNat + cin)

/-- Borrow of the exact difference (R234, Subtract row). -/
def borrowOut (a b : Word) (cin : Nat) : Bool := decide (a.toNat < b.toNat + cin)

/-- Whether an exact value lies outside s48. -/
def outS48 (x : Int) : Bool := decide (x < s48Min ∨ s48Max < x)

/-- Signed overflow of the exact sum (R234). -/
def addOverflow (a b : Word) (cin : Nat) : Bool := outS48 (a.toInt + b.toInt + cin)

/-- Signed overflow of the exact difference (R234). -/
def subOverflow (a b : Word) (cin : Nat) : Bool := outS48 (a.toInt - b.toInt - cin)

end Sys2Proof.Machine
end

