-- ==== Sys2Proof/Machine/Operands.lean ====
section
/-!
DEFINITION. Machine/Operands.lean: the operand forms of Ibben-48: immediates, effective addresses with their base
write-back, and the encodings each format forbids (R249 to R257, R261, R270, R271, R291).
-/
namespace Sys2Proof
open Machine

/-- A word as an exact integer, signed or unsigned (spec/08, ext). -/
def ext (u : Bool) (w : Word) : Int := if u then (w.toNat : Int) else w.toInt

/-- IMM29 extended to a word by U (R249). -/
def FmtI.immWord (x : FmtI) : Word := if x.u then x.imm.zeroExtend 48 else x.imm.signExtend 48

/-- IMM16 sign-extended (R296). -/
def FmtX.simm (x : FmtX) : BitVec 24 := x.imm.signExtend 24

/-- A 24-bit address from a word (R256). -/
def lowAddr (w : Word) : BitVec 24 := w.setWidth 24

/-- The effective address of an M-format instruction (R254). -/
def FmtM.ea (x : FmtM) (t : Strand) : BitVec 24 :=
  let a := lowAddr (t.rd x.ra)
  match x.mode.toNat with
  | 0 => a + x.disp
  | 1 => a + lowAddr (t.rd x.ri) + x.disp
  | 2 => a
  | 3 => a - 1
  | 4 => t.pc + x.disp
  | _ => a

/-- Whether a mode writes its base back (R254). -/
def FmtM.writesBase (x : FmtM) : Bool := x.mode = 2 || x.mode = 3 || x.mode = 5

/-- A register word with bits 23:0 replaced (R256). -/
def putLow24 (w : Word) (a : BitVec 24) : Word := (w &&& 0xFFFFFF000000#48) ||| a.zeroExtend 48

/-- The base register after its write-back (R254, R256). -/
def FmtM.newBase (x : FmtM) (t : Strand) : Word :=
  let w := t.rd x.ra
  match x.mode.toNat with
  | 2 => putLow24 w (lowAddr w + 1 + x.disp)
  | 3 => putLow24 w (lowAddr w - 1)
  | 5 =>
    let k := (x.disp.setWidth 5).toNat
    setBits w 0 k ((w.toNat + 1) % 2 ^ k)
  | _ => w

/-- Write the base register back; the loaded register rt wins where both are one (R257). -/
def FmtM.writeBack (x : FmtM) (t : Strand) : Strand := if x.writesBase then t.wr x.ra (x.newBase t) else t

/-- Forbidden encodings of a memory instruction (R251, R255, R261, R277): ri unused except in MODE 1, DISP24 unused in
MODE 3, and k of MODE 5 from 1 to 20; ra may hold any number in MODE 4. Log entry 75, DESIGN CHOICE. -/
def FmtM.bad (x : FmtM) : Bool :=
  decide (x.mode.toNat ≥ 6) || (x.mode != 1 && x.ri != 0) || (x.mode = 3 && x.disp != 0)
    || (x.mode = 5 && (decide (x.disp.toNat < 1) || decide (20 < x.disp.toNat)))

/-- Unused control bits of format A are zero (R261); each argument says whether the entry uses the field. -/
def FmtA.unused (x : FmtA) (rd ra rb f s u ac am imm : Bool) : Bool :=
  (!rd && x.rd != 0) || (!ra && x.ra != 0) || (!rb && x.rb != 0) || (!f && x.f) || (!s && x.s) || (!u && x.u)
    || (!ac && x.ac) || (!am && x.am != 0) || (!imm && x.imm != 0)

/-- Unused fields of format X are zero (R261), with bits 20:16 always zero (spec/09). -/
def FmtX.unused (x : FmtX) (rd ra rb imm : Bool) : Bool :=
  x.rsv != 0 || (!rd && x.rd != 0) || (!ra && x.ra != 0) || (!rb && x.rb != 0) || (!imm && x.imm != 0)

/-- The pair rd, rd + 1 needs rd from w1 to w30 (R291). -/
def badPair (rd : BitVec 5) : Bool := rd = 0 || rd = 31

/-- The count of a shift is the low 6 bits of its operand (R246). -/
def shiftCount (w : Word) : Nat := (w.setWidth 6).toNat

/-- COND of an A-format instruction, IMM10 bits 3:0 (R281, R282). -/
def FmtA.cond (x : FmtA) : BitVec 4 := x.imm.setWidth 4

/-- IMM10 bits 9:4 must be zero where COND is used (R281, R282). -/
def FmtA.badCond (x : FmtA) : Bool := decide (16 ≤ x.imm.toNat)

end Sys2Proof
end

