-- ==== Sys2Proof/Machine/Alu.lean ====
section
/-!
DEFINITION. Machine/Alu.lean: what the short compute instructions of Ibben-48 do to the strand that issues them, before
its program counter moves (spec/08_ibben_instructions_compute.md).
-/
namespace Sys2Proof.Machine

/-- Clamp an exact result to the range of S = 1, by U (R245). -/
def clampU (u : Bool) (x : Int) : Int × Bool := if u then clampInt x 0 (2 ^ 48 - 1) else clampInt x s48Min s48Max

/-- Form a word from an exact value: wrapping, or saturating when s (R245, R265). -/
def formWord (s u : Bool) (exact : Int) : Word × Bool :=
  if s then let r := clampU u exact; (Word.ofS r.1, r.2) else (Word.ofS exact, false)

/-- add, adc and addi (R264, R265): rd := a + b + cin. -/
def Strand.doAdd (x : Strand) (rd : BitVec 5) (a b : Word) (cin : Nat) (f s u : Bool) : Strand :=
  let r := formWord s u (ext u a + ext u b + cin)
  ((x.wr rd r.1).flags f r.1 (carryOut a b cin) (addOverflow a b cin)).satIf r.2

/-- sub, sbc, neg, subi and rsbi (R264, R265): rd := a - b - cin. -/
def Strand.doSub (x : Strand) (rd : BitVec 5) (a b : Word) (cin : Nat) (f s u : Bool) : Strand :=
  let r := formWord s u (ext u a - ext u b - cin)
  ((x.wr rd r.1).flags f r.1 (borrowOut a b cin) (subOverflow a b cin)).satIf r.2

/-- A result with the Logical row of R234. -/
def Strand.doLogic (x : Strand) (rd : BitVec 5) (res : Word) (f : Bool) : Strand :=
  (x.wr rd res).flags f res false false

/-- abs (R264, R266). -/
def Strand.doAbs (x : Strand) (rd : BitVec 5) (a : Word) (f s : Bool) : Strand :=
  let r := formWord s false (a.toInt.natAbs : Int)
  ((x.wr rd r.1).flags f r.1 false (a == 0x800000000000#48)).satIf r.2

/-- The lesser or greater of a and b (R264). -/
def pickMin (u : Bool) (a b : Word) : Word := if ext u b < ext u a then b else a
def pickMax (u : Bool) (a b : Word) : Word := if ext u a < ext u b then b else a

/-- Last bit shifted out of a left shift by k (R234); 0 for a count of 0. -/
def shlOut (a : Word) (k : Nat) : Bool := decide (1 ≤ k ∧ k ≤ 48) && a.getLsbD (48 - k)
/-- Last bit shifted out of a right shift by k, with the bits above bit 47 equal to fill. -/
def shrOut (a : Word) (k : Nat) (fill : Bool) : Bool :=
  if k = 0 then false else if k ≤ 48 then a.getLsbD (k - 1) else fill

/-- shl (R246, R268). -/
def Strand.doShl (x : Strand) (rd : BitVec 5) (a : Word) (k : Nat) (f s u : Bool) : Strand :=
  let r := if s then formWord true u (ext u a * 2 ^ k) else (a <<< k, false)
  ((x.wr rd r.1).flags f r.1 (shlOut a k) false).satIf r.2

/-- shr (R246, R268). -/
def Strand.doShr (x : Strand) (rd : BitVec 5) (a : Word) (k : Nat) (f : Bool) : Strand :=
  (x.wr rd (a >>> k)).flags f (a >>> k) (shrOut a k false) false

/-- asr (R246, R268). -/
def Strand.doAsr (x : Strand) (rd : BitVec 5) (a : Word) (k : Nat) (f : Bool) : Strand :=
  (x.wr rd (a.sshiftRight k)).flags f (a.sshiftRight k) (shrOut a k (a.getLsbD 47)) false

/-- ror (R268, R269). -/
def Strand.doRor (x : Strand) (rd : BitVec 5) (a : Word) (k : Nat) (f : Bool) : Strand :=
  let r := a.rotateRight (k % 48)
  (x.wr rd r).flags f r (k % 48 != 0 && r.getLsbD 47) false

/-- asrr (R247, R268, R269). -/
def Strand.doAsrr (x : Strand) (rd : BitVec 5) (a : Word) (k : Nat) (f : Bool) : Strand :=
  let r := Word.ofS (roundShift x.st.rm a.toInt k)
  (x.wr rd r).flags f r (shrOut a k (a.getLsbD 47)) false

/-- Bits POS+LEN-1:POS of a word, zero-extended (R270). -/
def fieldU (a : Word) (pos len : Nat) : Word := Word.ofN (getBits a pos len)
/-- The same bits, sign-extended from bit LEN-1 (R270). -/
def fieldS (a : Word) (pos len : Nat) : Word :=
  let v := getBits a pos len
  if v.testBit (len - 1) then Word.ofS ((v : Int) - 2 ^ len) else Word.ofN v

/-- Leading zero bits of a word from bit n-1 down. -/
def clzLoop (a : Word) : Nat → Nat
  | 0 => 0
  | n + 1 => if a.getLsbD n then 0 else clzLoop a n + 1
/-- Trailing zero bits of a word, from bit 48 - n up. -/
def ctzLoop (a : Word) : Nat → Nat
  | 0 => 0
  | n + 1 => if a.getLsbD (47 - n) then 0 else ctzLoop a n + 1
/-- One bits of a word. -/
def popc (a : Word) : Nat := (List.range 48).countP (fun i => a.getLsbD i)
/-- Bit i moved to bit 47 - i. -/
def brev (a : Word) : Word := a.reverse

/-- The exact value does not fit the range of U. -/
def outU (u : Bool) (x : Int) : Bool := (clampU u x).2

/-- mul (R245, R272). -/
def Strand.doMul (x : Strand) (rd : BitVec 5) (a b : Word) (am : BitVec 2) (f s u : Bool) : Strand :=
  if am = 0 then
    let e := ext u a * ext u b
    let r := formWord s u e
    ((x.wr rd r.1).flags f r.1 false (outU u e)).satIf r.2
  else
    let e := roundShift x.st.rm (a.toInt * b.toInt) (if am = 1 then 47 else 24)
    let r := formWord true false e
    ((x.wr rd r.1).flags f r.1 false r.2).satIf r.2

/-- mulh: bits 95:48 of the product (R272). -/
def Strand.doMulh (x : Strand) (rd : BitVec 5) (a b : Word) (f u : Bool) : Strand :=
  let r := Word.ofS ((ext u a * ext u b).fdiv (2 ^ 48))
  (x.wr rd r).flags f r false false

/-- The exact product aligned in the accumulator by AM (R242). -/
def aligned (am : BitVec 2) (u : Bool) (a b : Word) : Int :=
  if am = 1 then (a.toInt * b.toInt).fdiv (2 ^ 15) else ext u a * ext u b

/-- Saturate to the accumulator range (R243). -/
def clampAcc (x : Int) : Int × Bool := clampInt x (-2 ^ 95) (2 ^ 95 - 1)

/-- An accumulator by AC. -/
def Strand.acc (x : Strand) (ac : Bool) : Acc := if ac then x.a1 else x.a0
/-- Write an accumulator. -/
def Strand.setAcc (x : Strand) (ac : Bool) (v : Acc) : Strand :=
  let y := { x with wrote := x.wrote ++ [v.extractLsb' 48 48, v.extractLsb' 0 48] }
  if ac then { y with a1 := v } else { y with a0 := v }

/-- Write an exact value to an accumulator, saturating with AOV (R243, R273). -/
def Strand.putAcc (x : Strand) (ac : Bool) (e : Int) : Strand :=
  let r := clampAcc e
  (x.setAcc ac (BitVec.ofInt 96 r.1)).aovIf r.2

/-- narw (R244, R274). -/
def Strand.doNarw (x : Strand) (rd : BitVec 5) (ac : Bool) (am : BitVec 2) (f : Bool) : Strand :=
  let sh := if am = 0 then 0 else if am = 1 then 32 else 24
  let r := formWord true false (roundShift x.st.rm (x.acc ac).toInt sh)
  ((x.wr rd r.1).flags f r.1 false r.2).satIf r.2

/-- A format conversion of an exact value, saturating to s48 (R248, R275). -/
def Strand.doConv (x : Strand) (rd : BitVec 5) (e : Int) (f : Bool) : Strand :=
  let r := formWord true false e
  ((x.wr rd r.1).flags f r.1 false r.2).satIf r.2

/-- li (R253). -/
def liWord (p : BitVec 2) (imm : BitVec 24) (old : Word) : Word :=
  if p = 0 then imm.signExtend 48
  else if p = 1 then imm.zeroExtend 48
  else (old &&& 0x000000FFFFFF#48) ||| (imm.zeroExtend 48 <<< 24)

/-- Signed quotient, and its SAT and DZ (R237, R292, R293). -/
def divS (a b : Word) : Word × Bool × Bool :=
  if b = 0 then (if a = 0 then 0 else if a.toInt < 0 then Word.ofS s48Min else Word.ofS s48Max, false, true)
  else let r := clampInt (a.toInt.tdiv b.toInt) s48Min s48Max; (Word.ofS r.1, r.2, false)
/-- Unsigned quotient (R237, R292): the largest magnitude is 2^48 - 1. -/
def divU (a b : Word) : Word × Bool × Bool :=
  if b = 0 then (if a = 0 then 0 else Word.ofN (2 ^ 48 - 1), false, true) else (a / b, false, false)
/-- Signed remainder (R292, R293). -/
def remS (a b : Word) : Word × Bool × Bool :=
  if b = 0 then (a, false, true) else (Word.ofS (a.toInt.tmod b.toInt), false, false)
/-- Unsigned remainder (R292, R293). -/
def remU (a b : Word) : Word × Bool × Bool := if b = 0 then (a, false, true) else (a % b, false, false)
/-- Fixed-point quotient with n fraction bits (R237, R292, R293). -/
def divQ (rm : BitVec 2) (n : Nat) (a b : Word) : Word × Bool × Bool :=
  if b = 0 then (if a = 0 then 0 else if a.toInt < 0 then Word.ofS s48Min else Word.ofS s48Max, false, true)
  else let r := clampInt (roundDiv rm (a.toInt * 2 ^ n) b.toInt) s48Min s48Max; (Word.ofS r.1, r.2, false)
/-- Fixed-point square root with n fraction bits: the word, SAT and DOM (R292, R293). -/
def sqrtQ (rm : BitVec 2) (n : Nat) (a : Word) : Word × Bool × Bool :=
  if a.toInt < 0 then (0, false, true)
  else let r := clampInt (sqrtRound rm (a.toNat * 2 ^ n)) s48Min s48Max; (Word.ofS r.1, r.2, false)

end Sys2Proof.Machine
end

