-- ==== Sys2Proof/Machine/TwinBase.lean ====
section
/-!
DEFINITION. Machine/TwinBase.lean: the twin role of a chip, and the journal that the primary keeps of what reaches replayed state
(R729, R736 to R738), as the operations that every other unit uses.
-/
namespace Sys2Proof.Machine

/-- Whether the chip is strapped into a twin pair: ROLE 0b01 or 0b10 (R729). -/
def State.isTwin (s : State) : Bool := s.get R.RST_STRAP_ROLE = 1 || s.get R.RST_STRAP_ROLE = 2
/-- Whether a twin chip drives its gates, CAN, TPULSE, FIRE, CHG and BAL: in ACTIVE and SOLO only (R729). -/
def State.twinDrives (s : State) : Bool :=
  !s.isTwin || s.get R.PEER_TWSTAT_STATE = 1 || s.get R.PEER_TWSTAT_STATE = 2
/-- Whether the chip replays as a twin shadow (R732). -/
def State.shadowing (s : State) : Bool := s.isTwin && s.get R.PEER_TWSTAT_STATE = 3

/-- PEER_TWPDT: the physical beat of the pair (R732). -/
def State.phys (s : State) : Word := s.time.dtime + s.twin.pdt

/-- The chips of a pair that is in sync: ACTIVE and SHADOW (R735, R746). -/
def State.paired (s : State) : Bool := s.isTwin && (s.get R.PEER_TWSTAT_STATE = 1 || s.get R.PEER_TWSTAT_STATE = 3)

/-- The digest of this beat takes the issue word of an instruction (R745). -/
def State.noteIssue (s : State) (i : StrandId) : State :=
  if s.paired then { s with now := { s.now with issues := s.now.issues ++ [Word.ofN (i.val * 2 ^ 24 + (s.strand i).pc.toNat)] } } else s
/-- The digest of this beat takes the address and data of a store, an atomic write or persist words staged (R745). Log entry 69, DESIGN CHOICE. -/
def State.noteStore (s : State) (a : Nat) (ws : List Word) : State :=
  if s.paired then { s with now := { s.now with stores := s.now.stores ++ (ws.mapIdx (fun k w => [Word.ofN (a + k), w])).flatten } } else s

/-- TWFAIL is driven low (R748): in ACTIVE and SOLO, in RUN, DOZE and STANDBY, and for 120 beats after a reset, an escalation or a release has
begun. At the entry into REST or OFF it ends with the power state (log entry 69, DESIGN CHOICE). -/
def State.twfailLow (s : State) : Bool :=
  s.isTwin && ((s.twinDrives && s.core.esc.isNone && (s.pwr.mode = .run || s.pwr.mode = .doze || s.pwr.mode = .standby))
    || s.twin.tail.any (fun t => !reached s.time.dtime (t + 120)))
/-- The beat from which TWFAIL is driven on for 120 beats, if this one ends its drive (R748). -/
def State.twTail (s : State) : Option Word := if s.isTwin && s.twinDrives && s.core.esc.isNone then some s.time.dtime else s.twin.tail
/-- A chip that has released drives every gate off for 120 beats (R750). -/
def State.releasing (s : State) : Bool :=
  s.isTwin && s.get R.PEER_TWSTAT_STATE = 4 && s.twin.tail.any (fun t => !reached s.time.dtime (t + 120))

/-- The chip journals: a primary in ACTIVE (R739). -/
def State.active (s : State) : Bool := s.isTwin && s.get R.PEER_TWSTAT_STATE = 1

/-- Whether the role in force is a cascade role (R763, R764). -/
def State.cascade (s : State) : Bool := s.get R.RST_STRAP_ROLE = 3
/-- The chain position of this chip (R764). -/
def State.chipPos (s : State) : Nat := s.get R.PEER_CSSTAT_POS
/-- Whether the port toward a position is up: port B leads to higher positions (R763, R775). -/
def State.portUp (s : State) (p : Nat) : Bool := s.on (if s.chipPos < p then R.PEER_CSSTAT_LINKB else R.PEER_CSSTAT_LINKA)

def State.modTwin (s : State) (f : Twin → Twin) : State := { s with twin := f s.twin }

/-- The bytes of an item with its tag (R737). -/
def itemLen (i : TwinItem) : Nat :=
  2 + match i.kind.toNat with
    | 3 => 2
    | 4 => 13
    | 6 => 1 + 6 * (match i.rx with | some (.can _) => 14 | some (.rcp q) => if q.lin then 4 else 14 | some (.lin _) => 4 | _ => 14)
    | 7 => 7
    | 8 => 2
    | 9 => 10
    | 0xB => 2 + 6 * i.data.length
    | 0xD => 1
    | 0xE => 0
    | _ => 6

/-- The bytes of a list of items. -/
def itemBytes (l : List TwinItem) : Nat := (l.map itemLen).sum
/-- The bytes that the journal buffer holds: frames that no ASEQ covers, and the items of the window. -/
def State.twinFill (s : State) : Nat := (s.twin.held.map (fun f => 15 + itemBytes f.items)).sum + itemBytes s.twin.items

/-- The beat within the present window (R737). -/
def State.twinOfs (s : State) : BitVec 11 := BitVec.ofNat 11 ((s.time.dtime - s.twin.start).toNat % 960)

/-- Journal an item (R737). -/
def State.jotItem (s : State) (kind : Nat) (data : List Word) (rx : Option RxEvent) : State :=
  if s.active then
    let t := s.modTwin (fun x => { x with items := x.items ++ [{ kind := BitVec.ofNat 5 kind, ofs := s.twinOfs, data := data, rx := rx }] })
    t.put R.PEER_TWFILL_MAX (max (t.get R.PEER_TWFILL_MAX) (min t.twinFill 4095))
  else s
/-- Journal an item with a content of words. -/
def State.jot (s : State) (kind : Nat) (data : List Word) : State := s.jotItem kind data none
/-- Journal what a controller has received (R737). -/
def State.jotRx (s : State) (e : RxEvent) : State := s.jotItem 6 [] (some e)
/-- Journal a COND item (R738). -/
def State.jotCond (s : State) (code index : Nat) : State := s.jot 8 [Word.ofN code, Word.ofN index]

/-- A message leaves on a port. -/
def State.out (s : State) (p : Port) (k : SentKind) (ws : List Word) : State := { s with sent := ⟨p, k, ws⟩ :: s.sent }

/-- A frame leaves on peer port A or B, which keeps it for one retransmission (R767, R768). -/
def State.linkOut (s : State) (b : Bool) (k : SentKind) (ws : List Word) : State :=
  let m : Sent := ⟨if b then .peerB else .peerA, k, ws⟩
  { s with
    sent := m :: s.sent
    link := if b then { s.link with lastB := some (m, false) } else { s.link with lastA := some (m, false) } }

/-- The words of a journal frame: FSEQ, WIN and LEN, then each item's tag and content (R736, R737). -/
def frameWords (f : TwinFrame) : List Word :=
  [f.seq.zeroExtend 48, f.win.zeroExtend 48, Word.ofN (itemBytes f.items)]
    ++ f.items.flatMap (fun i => Word.ofN (i.kind.toNat * 2 ^ 11 + i.ofs.toNat) :: i.data)

/-- The frame of the present window leaves (R736, R739). -/
def State.sendJournal (s : State) : State :=
  let f : TwinFrame := { seq := s.twin.seq, win := BitVec.ofNat 40 s.twin.win, good := true, items := s.twin.items }
  (s.modTwin (fun x => { x with seq := x.seq + 1, win := x.win + 1, items := [], held := x.held ++ [f] })).out .peerA .journal (frameWords f)

/-- The primary stops journaling with END (R741, R749): the frame that carries it leaves. -/
def State.jotEnd (s : State) (cause : Nat) : State := if s.active then (s.jot 0xD [Word.ofN cause]).sendJournal else s

/-- Registers whose loads the journal carries (R734). -/
def chipLocal (a : Nat) : Bool :=
  (0x7F800 ≤ a && a ≤ 0x7FEFF) || a = RW.FADC_STAT || (RW.FADC_COEF 0 ≤ a && a ≤ RW.FADC_COEF 4) || a = RW.ICONV_CALR || a = RW.ICONV_CALB
    || a = RW.ICONV_QRSV || a = RW.ICONV_QBAT || a = RW.ICONV_LPQR || a = RW.ICONV_LPQB || a = RW.TIME_STAT || a = RW.TIME_AOCAL
    || a = RW.TIME_SYNC || a = RW.TIME_CLKCTL || a = RW.MEM_ERRCNT || a = RW.MEM_ERRADDR || a = RW.MEM_WEAR || a = RW.RST_KEYST
    || a = RW.RST_STRAP || (0x417000 ≤ a && a < 0x417020)

/-- The value of a strand's load of a chip-local word (R734): the primary journals it; the shadow takes the journal's, the bits of
TIME_STAT above 6 its own; a value that the journal has not brought is free. -/
def State.liveLoad (s : State) (a : Nat) (w : Word) : Word × State :=
  if !chipLocal a then (w, s)
  else if s.shadowing then
    let mine (v : Word) : Word := if a = RW.TIME_STAT then setBits w 0 7 (getBits v 0 7) else v
    match s.twin.live with
    | v :: rest => (mine v, s.modTwin (fun x => { x with live := rest }))
    | [] => (mine s.freeWord, s.useFree)
  else (w, s.jot 5 [w])

end Sys2Proof.Machine
end

