-- ==== Sys2Proof/Machine/Gates.lean ====
section
/-!
DEFINITION. Machine/Gates.lean: the command of every half-bridge from the state of its course, the precedence of R373, R399
and R425, dead time and the interlock (spec/11 to spec/14).
-/
namespace Sys2Proof.Machine

/-! ## Parts of the power stage -/

def State.pwm (s : State) (c : Course) : PwmCourse := s.stage.courses[c]
def State.setPwm (s : State) (c : Course) (x : PwmCourse) : State :=
  { s with stage := { s.stage with courses := s.stage.courses.set c x } }
def State.modPwm (s : State) (c : Course) (f : PwmCourse → PwmCourse) : State := s.setPwm c (f (s.pwm c))
def State.hb (s : State) (h : HB) : HalfBridge := s.stage.hbs[h]
def State.setHb (s : State) (h : HB) (x : HalfBridge) : State :=
  { s with stage := { s.stage with hbs := s.stage.hbs.set h x } }
def State.modHb (s : State) (h : HB) (f : HalfBridge → HalfBridge) : State := s.setHb h (f (s.hb h))
def State.dom (s : State) (d : Dom) : GateDom := s.stage.doms[d]
def State.modDom (s : State) (d : Dom) (f : GateDom → GateDom) : State :=
  { s with stage := { s.stage with doms := s.stage.doms.set d (f (s.dom d)) } }

def allCourses : List Course := [0, 1, 2, 3, 4, 5, 6, 7]
def allHB : List HB :=
  [0, 1, 2, 3, 4, 5, 6, 7, 8, 9, 10, 11, 12, 13, 14, 15, 16, 17, 18, 19, 20, 21, 22, 23]
/-- Run f for every course. -/
def State.eachCourse (s : State) (f : Course → State → State) : State := allCourses.foldl (fun t c => f c t) s
/-- The half-bridge of pair k of course c (R340). -/
def hbOf (c : Course) (k : Fin 3) : HB := ⟨3 * c.val + k.val, by omega⟩
/-- The course of a half-bridge, and its pair. -/
def courseOf (h : HB) : Course := ⟨h.val / 3, by omega⟩
def pairOf (h : HB) : Fin 3 := ⟨h.val % 3, Nat.mod_lt _ (by decide)⟩
/-- The gate-supply domain of a course (R386). -/
def domOf (c : Course) : Dom := ⟨c.val / 2, by omega⟩

/-- RUN or DOZE, with the beat running: up to P0 of an entry (R111, R121, R437). -/
def State.watching (s : State) : Bool := s.pwr.mode = .run || (s.pwr.mode = .doze && s.pwr.entry != some .e3)

/-- Whether the register of a course has its run bit set (R348, R349). -/
def State.running (s : State) (c : Course) : Bool := s.on (R.PWM_STAT_RUN c)
/-- Whether a machine halt by debug is in force (R361, R791). -/
def State.halted (s : State) : Bool := s.on R.DBG_STAT_MH
/-- Whether the master's stores are those of a user strand, which the arrangements bind (R571, R769). -/
def masterIsUser : Master → Bool
  | .strand i => !isSup i
  | .debug => false
  | _ => true
/-- The arrangement of a course: 0 SUP, 1 SPLIT, 2 USER (R570). -/
def State.arr (s : State) (c : Course) : Nat := s.get (R.ARR c)
/-- Whether the arrangement gives a course's register to the program (R571, R574); split says the register is one of those
that SPLIT gives. -/
def State.progOwns (s : State) (c : Course) (split : Bool) : Bool :=
  s.arr c = 2 || (split && s.arr c = 1 && !([4, 6, 7, 8].contains (s.get (R.SYS_SVST_STATE c))))

/-! ## Reactions -/

/-- Whether a source is latched on a course (R431). -/
def State.latched (s : State) (c : Course) (n : Nat) : Bool := (s.get (R.PROTC_FSTAT_SRC c)).testBit (n - 1)

/-- Reactions that meet on one course: 2 OFF, 3 SHORTL, 4 SHORTH, 0 none (R425). -/
def combineReact (a b : Nat) : Nat :=
  if a = 2 ∨ b = 2 then 2
  else if (a = 3 ∧ b = 4) ∨ (a = 4 ∧ b = 3) then 2
  else if a = 3 ∨ b = 3 then 3
  else if a = 4 ∨ b = 4 then 4
  else if a = 1 ∨ b = 1 then 1
  else 0

/-- The reaction in force on a course (R327, R425, R777). -/
def State.reaction (s : State) (c : Course) : Nat :=
  if s.core.esc.isSome || s.stage.lossOff then 2
  else (List.range 13).foldl (fun r n => if s.latched c n then combineReact r ((s.pwm c).lat.toList.getD n 0) else r)
    (if (s.pwm c).cbc then 1 else 0)

/-- Whether a domain is locked out: EN is 1 and a supply is below threshold, a lock-out has not ended, or RDY is 0 (R392,
R394). -/
def State.lockedOut (s : State) (d : Dom) : Bool :=
  s.on (R.GDRV_DOM_CTL_EN d) &&
    ((s.dom d).latched || (s.dom d).vcpLow || (s.dom d).vglLow || !s.on (R.GDRV_DOM_STAT_RDY d))

/-! ## Commands -/

/-- The mask state of a pair and the pair whose reference it follows: 0 FLOAT, 1 PWM, 2 LOW, 3 HIGH (R363, R365, R373, R374,
R377). -/
def State.pairState (s : State) (c : Course) (k : Fin 3) : Nat × Fin 3 :=
  let x := s.pwm c
  if s.get (R.PWM_OUT_CAPO c) = 3 then (if k.val = s.get (R.PWM_OUT_DCH c) then (1, k) else (2, k))
  else if s.get (R.PWM_OUT_PAIR c) = 1 ∧ k ≠ 2 then
    match x.pdrv, k.val with
    | 0, _ => (0, 0)
    | 1, 0 => (1, 0)
    | 2, 1 => (1, 0)
    | _, _ => (2, 0)
  else if x.floatAll then (0, k)
  else (getBits (s.reg (RW.PWM_MSTAT c)) (4 + 2 * k.val) 2, k)

/-- The H and L commands of a pair as they leave the mask (R363), with a cycle-by-cycle hold of the reference (R429) and a
suppressed pulse (R371). -/
def State.maskCmd (s : State) (c : Course) (k : Fin 3) : Bool × Bool :=
  let p := s.pairState c k
  let r := (s.pwm c).ref[p.2] && !(s.pwm c).cbc
  let sup := (s.pwm c).sup[p.2]
  match p.1 with
  | 1 => (r && !sup, s.on (R.PWM_OUT_COMP c) && !r && !sup)
  | 2 => (false, true)
  | 3 => (true, false)
  | _ => (false, false)

/-- The command of the internal PWM (R373, cases 3 to 6, R378, R394, R433): a running course that waits for its boundary is off, after
capo hold only while no new form is selected. -/
def State.internalCmd (s : State) (c : Course) (k : Fin 3) : Bool × Bool :=
  let capo := s.get (R.PWM_OUT_CAPO c)
  if s.running c && (s.pwm c).waitBnd then (false, false)
  else if capo = 1 then (false, true)
  else if capo = 2 then (true, false)
  else if !s.running c || ((s.pwm c).waitCapo && capo == 0) then (false, false)
  else s.maskCmd c k

/-- The command of the external pins (R400): the levels of three beats ago. -/
def externalCmd (x : HalfBridge) : Bool × Bool := (x.seen[2].2 && x.seen[2].1, x.seen[2].2 && !x.seen[2].1)

/-- The serial command field of a pair (R401). -/
def serialState (c : Course) (k : Fin 3) : Fld := { addr := RW.GDRV_SGC c, lo := 2 * k.val, len := 2, w1c := false }

/-- The serial command of a pair (R401, R403). -/
def State.serialCmd (s : State) (c : Course) (k : Fin 3) : Bool × Bool :=
  if (s.pwm c).sgOff then (false, false)
  else let v := s.get (serialState c k); (v = 3, v = 2)

/-- The command that OUTEN and the source of a half-bridge give (R372, R399, R404, R429). -/
def State.sourceCmd (s : State) (h : HB) : Bool × Bool :=
  let c := courseOf h
  let x := s.hb h
  if s.get (R.PWM_OUT_OUTEN c) ≠ 2 ∨ x.guard then (false, false)
  else if x.src = 0 then s.internalCmd c (pairOf h)
  else if x.hold then (false, false)
  else if x.src = 1 then externalCmd x
  else s.serialCmd c (pairOf h)

/-- The command of a half-bridge in a machine halt (R361, R436): the one held since the halt began, on which a cycle-by-cycle trip still
acts (R429), and which a cleared reaction gives back at a boundary only (R433). -/
def State.heldCmd (s : State) (h : HB) : Bool × Bool :=
  let c := courseOf h
  let x := s.hb h
  if x.src = 0 then
    if s.running c && (s.pwm c).waitBnd then (false, false)
    else if (s.pwm c).cbc && (s.pairState c (pairOf h)).1 = 1 then (false, (x.reqH || x.reqL) && s.on (R.PWM_OUT_COMP c))
    else (x.reqH, x.reqL)
  else if x.hold then (false, false)
  else (x.reqH, x.reqL)

/-- The output enable of the boundary cells of GHh or GLh: in ascending row-major ball order these balls lie first, GH0, GL0, GH1 and
so on, with cells input, output and output enable from bit 0 up (R784, R802). Log entry 29, DEDUCED. -/
def State.cellOn (s : State) (h : HB) (high : Bool) : Bool := s.dbg.boundary.getLsbD (3 * (2 * h.val + (!high).toNat) + 2)
/-- The command that those cells give; no two opposite ones pass (R396, R785). -/
def State.cellCmd (s : State) (h : HB) : Bool × Bool :=
  let on (high : Bool) : Bool := s.cellOn h high && s.dbg.boundary.getLsbD (3 * (2 * h.val + (!high).toNat) + 1)
  if on true && on false then (false, false) else (on true, on false)

/-- The H and L commands of a half-bridge before dead time, by the precedence of R373, R399, R425 and R427; in EXTEST and CLAMP lock-outs
and protection reactions act on the commands of the cells (R785). -/
def State.want (s : State) (h : HB) : Bool × Bool :=
  let c := courseOf h
  if s.pwr.mode ≠ .run ∨ s.lockedOut (domOf c) ∨ !s.on (R.GDRV_DOM_CTL_EN (domOf c))
      ∨ (s.get (R.PWM_OUT_OUTEN c) = 0 ∧ !s.dbg.pinsHeld) then (false, false)
  else match s.reaction c with
    | 2 => (false, false)
    | 3 => (false, true)
    | 4 => (true, false)
    | _ => if s.dbg.pinsHeld then s.cellCmd h else if s.halted then s.heldCmd h else s.sourceCmd h

/-- Whether protection acts on a half-bridge, as it does also in a machine halt (R361, R436). -/
def State.protects (s : State) (h : HB) : Bool :=
  s.lockedOut (domOf (courseOf h)) || decide (1 ≤ s.reaction (courseOf h)) || s.pwr.mode != .run || s.dbg.pinsHeld

/-- A half-bridge whose drivers' commands become h and l at DTIME d, with the strengths of the registers at a driver's command edge (R385,
R407). -/
def HalfBridge.drive (x : HalfBridge) (d : Word) (isrc isnk : Nat) (h l : Bool) : HalfBridge :=
  let y := if h = x.outH then x else { x with outH := h, edgeH := d, isrc := isrc, isnk := isnk }
  if l = x.outL then y else { y with outL := l, edgeL := d, isrcL := isrc, isnkL := isnk }

/-- Set the drivers' commands of a half-bridge; an edge is one of its course (R366, R416). -/
def State.driveHb (s : State) (h : HB) (x : HalfBridge) (hi lo : Bool) : State :=
  let t := s.setHb h (x.drive s.time.dtime (s.get (R.GDRV_HB_CFG_ISRC h)) (s.get (R.GDRV_HB_CFG_ISNK h)) hi lo)
  if hi = x.outH ∧ lo = x.outL then t else t.modPwm (courseOf h) (fun y => { y with lastEdge := s.time.dtime })

/-- Follow the wanted commands at one half-bridge: falls at once, rises after dead time (R356). In EXTEST and CLAMP a rise is held only
while the opposite gate has still to fall (R396, R785). -/
def State.refreshHb (s : State) (h : HB) : State :=
  let w := s.want h
  let x := s.hb h
  let a := (s.pwm (courseOf h)).act
  let req := if s.halted then (x.reqH, x.reqL) else s.sourceCmd h
  if s.dbg.pinsHeld then
    let hi := w.1 && (x.outH || !(x.outL || x.ilH))
    let lo := w.2 && (x.outL || !(x.outH || x.ilL))
    s.driveHb h { x with dtH := false, dtL := false, ilH := w.1 && !hi, ilL := w.2 && !lo, reqH := req.1, reqL := req.2 } hi lo
  else
    let dtH := w.1 && !x.outH && !x.ilH
    let dtL := w.2 && !x.outL && !x.ilL
    s.driveHb h { x with
      dtH := dtH, dtL := dtL, ilH := x.ilH && w.1, ilL := x.ilL && w.2, reqH := req.1, reqL := req.2
      dtHLeft := if dtH then (if x.dtH then x.dtHLeft else a.dtlh) else 0
      dtLLeft := if dtL then (if x.dtL then x.dtLLeft else a.dthl) else 0 } (x.outH && w.1) (x.outL && w.2)

/-- Follow the wanted commands at a course, and show the reaction in force (R425). -/
def State.refresh (s : State) (c : Course) : State :=
  let t := s.put (R.PROTC_STAT_ACT c) (s.reaction c)
  ((t.refreshHb (hbOf c 0)).refreshHb (hbOf c 1)).refreshHb (hbOf c 2)

/-- LOCK of a domain shows a lock-out in force (R392). -/
def State.showLock (s : State) (d : Dom) : State := s.putB (R.GDRV_DOM_STAT_LOCK d) (s.lockedOut d)

/-- Follow the wanted commands everywhere. -/
def State.refreshAll (s : State) : State :=
  (([0, 1, 2, 3] : List Dom).foldl (fun t d => t.showLock d) s).eachCourse (fun c t => t.refresh c)

/-- A delayed rise takes place (R356, R396): the command rises, or the interlock holds it while the opposite gate is above
2.0 V. -/
def State.rise (s : State) (h : HB) (high held : Bool) : State :=
  let x := s.hb h
  if held then s.setHb h (if high then { x with dtH := false, ilH := true, edgeH := s.time.dtime }
    else { x with dtL := false, ilL := true, edgeL := s.time.dtime })
  else if high then s.driveHb h { x with dtH := false, ilH := false } true x.outL
  else s.driveHb h { x with dtL := false, ilL := false } x.outH true

/-- Internal half-bridges of a running course resume at its next boundary after a lock-out or a reaction (R394, R433). -/
def State.resumeAtBoundary (s : State) (c : Course) : State :=
  (s.when (s.running c) (fun t => t.modPwm c (fun x => { x with waitBnd := true }))).refresh c

/-- A course stops (R348, R362): its counter holds at 0, and nothing waits for a boundary any more (R378, R433). -/
def State.haltCourse (s : State) (c : Course) : State :=
  ((s.put (R.PWM_STAT_RUN c) 0).put (R.PWM_CNT_CNT c) 0).modPwm c (fun x => { x with
    stopReq := false, waitBnd := false, waitCapo := false, cbc := false, cbcSeen := false, presc := 0, due := 0
    ref := Vector.replicate 3 false })

/-! ## Gate-supply domains -/

/-- The two courses of a domain (R386). -/
def domCourses (d : Dom) : List Course := [⟨2 * d.val, by omega⟩, ⟨2 * d.val + 1, by omega⟩]

/-- Follow a change of a domain: LOCK shows a lock-out in force (R392), and its courses follow. -/
def State.refreshDom (s : State) (d : Dom) : State :=
  (domCourses d).foldl (fun t c => t.refresh c) (s.showLock d)

/-- The domain's lock-out ends (R394). -/
def State.endLock (s : State) (d : Dom) : State :=
  let s := s.jotCond (0x11 + d.val) 0
  let t := s.modDom d (fun x => { x with latched := false })
  (domCourses d).foldl (fun t c => t.resumeAtBoundary c) (t.showLock d)

/-- The levels a gate pin takes (R112, R142, R372). -/
inductive GatePin where
  | hiZ | low | high
  deriving DecidableEq, Repr

/-- The chip is in reset (R136, R137): it drives RESET_N, or RESET_N holds it. Log entry 61, DEDUCED. -/
def State.inReset (s : State) : Bool := s.pwr.rstDrive || (s.pwr.kind == 3 && s.pwr.pinLow)

/-- The level of GHh or GLh (R112, R142, R372, R729, R750, R785): after a reset the boundary cells give a level only once OUTEN is not HIZ, or the
instruction has been loaded again. Log entry 61, DEDUCED. -/
def State.gatePin (s : State) (h : HB) (high : Bool) : GatePin :=
  let outen := s.get (R.PWM_OUT_OUTEN (courseOf h))
  let off := s.pwr.mode != .run || s.inReset
    || (if s.dbg.pinsHeld then !s.cellOn h high || (s.dbg.gatesOff && outen == 0) else outen == 0 || !s.twinDrives)
  if s.dbg.pinsOff then .hiZ
  else if s.releasing && !s.dbg.pinsHeld then .low
  else if off then .hiZ else if (if high then (s.hb h).outH else (s.hb h).outL) then .high else .low

end Sys2Proof.Machine
end

