-- ==== Sys2Proof/Machine/IconvBase.lean ====
section
/-!
DEFINITION. Machine/IconvBase.lean: the windows, charge counters, passes and low-power sums of the integrating converter (spec/16), as the
operations that courses, resets and power states use.
-/
namespace Sys2Proof.Machine

def State.modIconv (s : State) (f : Iconv → Iconv) : State := { s with iconv := f s.iconv }

/-! ## Charge -/

/-- CHG_GAP is set with its cause, among those of one beat the lower code (R488, spec/16 At the edges). -/
def State.chgGap (s : State) (src : Nat) : State :=
  let c := min src (s.now.gapSrc.getD src)
  let t := (s.putN R.ICONV_STAT_CHG_GAP 1).put R.ICONV_STAT_GAPSRC c
  { t with now := { t.now with gapSrc := some c } }

/-- A modulator of IC0 counts (R484): QR, or QB. -/
def State.icCounts (s : State) (qb : Bool) : Bool := s.on R.ICONV_IC0CFG_EN && s.on (if qb then R.ICONV_IC0CFG_BEN else R.ICONV_IC0CFG_REN)

/-- The place of QR or QB among the units. -/
def icSide (qb : Bool) : Fin 2 := if qb then 1 else 0

/-- Add to the counter of QR or of QB (R484). -/
def State.icAdd (s : State) (qb : Bool) (d : Int) : State :=
  let a := if qb then RW.ICONV_QBAT else RW.ICONV_QRSV
  s.setReg a (s.reg a + BitVec.ofInt 48 d)

/-- The clock edges of the window in progress (R472, R477). -/
def State.icEdges (s : State) (unit : Fin 3) : Nat := (s.iconv.age[unit] / 24).toNat

/-- A count over n clock edges that no command gives, from -n to n (R471): a free value. Log entry 66, DESIGN CHOICE. -/
def freeCount (v : Word) (n : Nat) : Int := ((v.toNat % (2 * n + 1) : Nat) : Int) - n

/-- The counter of QR or QB is seen: what its modulator has counted of the window in progress, or of the low-power sum, is in it (R484, R486).
How much that is stays free. Log entry 66, DESIGN CHOICE. -/
def State.icPart (s : State) (qb : Bool) : State :=
  let k := icSide qb
  let on := if s.iconv.lpSum then (if qb then s.iconv.lpB else s.iconv.lpR) else s.icCounts qb
  if !on || s.shadowing then s
  else
    let n := s.icEdges (k.castLE (by decide))
    let d := freeCount s.freeWord (n - s.iconv.partN[k])
    ((s.useFree).icAdd qb d).modIconv (fun x => { x with part := x.part.set k (x.part[k] + d), partN := x.partN.set k n })

/-- Both counters are seen. -/
def State.icSeen (s : State) : State := (s.icPart false).icPart true

/-- A counting modulator's counter takes the count of its window, or of the low-power sum, of which a part may be in it already (R484, R489). -/
def State.icCount (s : State) (qb : Bool) (cnt : Int) (counts : Bool) : State :=
  let k := icSide qb
  (s.when counts (·.icAdd qb (cnt - s.iconv.part[k]))).modIconv (fun x => { x with
    part := x.part.set k 0, partN := x.partN.set k 0 })

/-! ## Passes of IC1 -/

/-- The number of cells (R599), and the cells adjacent to a pin, as codes (R608). -/
def State.ncell (s : State) : Nat := s.get R.RSV_CFG_NCELL + 2
def adjCells (n k : Nat) : List Nat := (if 0 < k then [4 + (k - 1)] else []) ++ (if k < n then [4 + k] else [])

/-- The self-test target that converts the test DAC (R493): 0 QR, 1 QB, 2 IC1, 3 none. -/
def State.tstTarget (s : State) : Nat := if s.on R.ICONV_TST_EN then s.get R.ICONV_TST_TGT else 3

/-- The codes of a pass in ascending order (R475, R479, R493). -/
def State.passCodes (s : State) : List Nat :=
  (List.range 16).filter (fun j => (s.reg RW.ICONV_IC1MASK).getLsbD j && decide (4 ≤ j) && j != 11 && (j != 10 || s.tstTarget = 2))

/-- IC1 goes on to the first code left of its pass: after a change of input its window begins SETTLE clock edges later, in locked mode at the
first locking point from then on (R479). -/
def State.icInput (s : State) : State :=
  match s.iconv.pass.head? with
  | none => s
  | some j =>
    let new := s.iconv.input != some j
    s.modIconv (fun x => { x with
      input := some j, hold := new && s.on R.ICONV_IC1CFG_WMODE, bounds := x.bounds.set 2 0
      age := x.age.set 2 (if new then -(24 * (s.get R.ICONV_IC1CFG_SETTLE : Int)) else 0) })

/-- The codes that IC1 has still to convert. -/
def State.setPass (s : State) (l : List Nat) : State :=
  ((s.modIconv (fun x => { x with pass := l })).icInput).putB R.ICONV_STAT_IC1BUSY (!l.isEmpty)

/-- A pass starts with the mask read now (R479). -/
def State.passStart (s : State) : State := s.setPass s.passCodes

/-- The step of a sense-wire check that runs (R608). -/
def State.owStep? (s : State) : Option OwStep :=
  match s.rsv.check with
  | some c => some c.step
  | none => none

/-- A sense-wire check goes to a step, in which IC1 converts codes l (R608). -/
def State.owTo (s : State) (st : OwStep) (l : List Nat) : State :=
  ({ s with rsv := { s.rsv with check := s.rsv.check.map (fun (c : OwCheck) => { c with step := st, since := s.time.dtime }) } }).setPass l

/-- A check converts its baseline; pin k's test current comes on and settles (R608). -/
def State.owBase (s : State) : State := s.owTo .base ((List.range s.ncell).map (· + 4) ++ [8])
def State.owSettle (s : State) (k : Nat) : State := s.owTo (.settle k) (adjCells s.ncell k)

/-- IC1 goes on to the next code of its pass, to the check that waits for the end of it or the next step of one that runs, to a new pass, or
ends it (R479, R608). -/
def State.passNext (s : State) : State :=
  let rest := s.iconv.pass.drop 1
  if !rest.isEmpty then s.setPass rest
  else match s.owStep? with
    | some .wait => s.owBase
    | some .base => s.owSettle 0
    | some (.conv k) => if k < s.ncell then s.owSettle (k + 1) else s.owTo .fin []
    | some _ => s.setPass []
    | none => if s.on R.ICONV_IC1CFG_CONT then s.passStart else s.setPass []

/-! ## Windows -/

/-- The result of a window (R480): the 20-bit result and whether it was clamped. -/
def icResult (code : Nat) (cnt : Int) (n : Nat) : BitVec 20 × Bool :=
  if code < 4 then (BitVec.ofInt 20 cnt, false)
  else if 12 ≤ code then
    let r := clampInt (roundDiv 1 (cnt * 2 ^ 20) n) 0 (2 ^ 20 - 1)
    (BitVec.ofInt 20 r.1, r.2)
  else
    let r := clampInt (roundDiv 1 (cnt * 2 ^ 19) n) (-(2 ^ 19)) (2 ^ 19 - 1)
    (BitVec.ofInt 20 r.1, r.2)

/-- The channel code a unit converts: QR 0, QB 1, IC1 the first of its pass. -/
def State.icCode (s : State) (unit : Fin 3) : Option Nat :=
  match unit with
  | 0 => if s.on R.ICONV_IC0CFG_EN then some 0 else none
  | 1 => if s.on R.ICONV_IC0CFG_EN then some 1 else none
  | 2 => if s.on R.ICONV_IC1CFG_EN then s.iconv.pass.head? else none

/-- A sense-wire check converts with its test current on; it lets that current settle (R608). -/
def State.owCurrent (s : State) : Bool := s.rsv.check.any (fun c => match c.step with | .conv _ => true | _ => false)
def State.owSettles (s : State) : Bool := s.rsv.check.any (fun c => match c.step with | .settle _ => true | _ => false)
/-- What the window in progress is to a check: 0 nothing, 1 its baseline, 2 + k its conversion at pin k (R608). -/
def State.owTag (s : State) : Nat :=
  match s.owStep? with
  | some .base => 1
  | some (.conv k) => 2 + k
  | _ => 0

/-- A unit has a window in progress: from the hand-off to E2 of an entry, IC0 also in the SRR hold (R489, R490); IC1 once its input has settled
and, in locked mode, a locking point has come (R479). -/
def State.icOpen (s : State) (unit : Fin 3) : Bool :=
  (s.icCode unit).isSome && !s.iconv.lpSum && !s.shadowing && (s.watching || (unit != 2 && s.pwr.mode == .srrHold))
    && (unit != 2 || (decide (0 ≤ s.iconv.age[2]) && !s.iconv.hold && !s.owSettles))

/-- The windows of a unit are locked to a course; their length when they are not; the boundaries of a locked one (R476). -/
def State.icLocked (s : State) (unit : Fin 3) : Bool := s.on (if unit = 2 then R.ICONV_IC1CFG_WMODE else R.ICONV_IC0CFG_WMODE)
def State.icLen (s : State) (unit : Fin 3) : Nat := s.get (if unit = 2 then R.ICONV_IC1CFG_WLEN else R.ICONV_IC0CFG_WLEN)
def State.icDiv (s : State) (unit : Fin 3) : Nat := s.get (if unit = 2 then R.ICONV_IC1CFG_WDIV else R.ICONV_IC0CFG_WDIV)
def State.icCourse (s : State) (unit : Fin 3) : Nat := s.get (if unit = 2 then R.ICONV_IC1CFG_WCRS else R.ICONV_IC0CFG_WCRS)

/-- A window of n clock edges closes at its locking point (R476), or, SHORT, at the edge that a change of settings gives it (R478) or at the
longest that a window may be. -/
def State.icPoint (s : State) (unit : Fin 3) (n : Nat) (short : Bool) : Bool :=
  n == 524287 || (if s.iconv.cut[unit] then short
    else !short && (if s.icLocked unit then decide (s.icDiv unit < s.iconv.bounds[unit]) else n == s.icLen unit))

/-- A unit can close its window with a count over n clock edges (R471, R476 to R478): the edges are those since the window before. -/
def State.icCloses (s : State) (unit : Fin 3) (cnt : Int) (n : Nat) (short : Bool) : Bool :=
  s.icOpen unit && n != 0 && decide (cnt.natAbs ≤ n) && decide ((24 * (n : Int) - s.iconv.age[unit]).natAbs ≤ 24) && s.icPoint unit n short

/-- A unit closes its window (R476 to R480, R482, R484): its result is on its way. -/
def State.icClose (s : State) (unit : Fin 3) (cnt : Int) (n : Nat) (short : Bool) : State :=
  match s.icCode unit with
  | none => s
  | some code =>
    let r := icResult code cnt n
    let clip := if unit = 0 then s.iconv.clip[(0 : Fin 2)] else if unit = 1 then s.iconv.clip[(1 : Fin 2)] else r.2
    let x : IcRes :=
      { due := s.time.dtime + Word.ofN (2 + unit.val), closed := s.time.dtime, unit := unit, code := code, res := r.1, n := n, clip := clip
        short := short || s.iconv.short[unit] || n == 524287, test := if unit = 2 then s.owCurrent else s.tstTarget == unit.val
        ow := if unit = 2 then s.owTag else 0, last := unit == 2 && s.iconv.pass.length == 1 }
    let t := s.modIconv (fun y => { y with
      due := y.due ++ [x], short := y.short.set unit false, cut := y.cut.set unit false, bounds := y.bounds.set unit 0
      age := y.age.set unit (y.age[unit] - 24 * (n : Int))
      clip := if unit = 0 then y.clip.set 0 false else if unit = 1 then y.clip.set 1 false else y.clip })
    if unit = 2 then t.passNext else t.icCount (unit == 1) cnt (s.icCounts (unit == 1))

/-- A unit closes its window here with a free count. Log entry 66, DESIGN CHOICE. -/
def State.icShut (s : State) (unit : Fin 3) (short : Bool) : State :=
  let n := min (s.icEdges unit) 524287
  if s.icOpen unit && n != 0 then (s.useFree).icClose unit (freeCount s.freeWord n) n short else s

/-- A window that no command closes does so at its locking point (R476, R478), with a free count. Log entry 66, DESIGN CHOICE. -/
def State.icDue (s : State) (unit : Fin 3) : State :=
  let n := s.icEdges unit
  if s.icOpen unit && s.iconv.age[unit] % 24 == 0 && n != 0 && s.icPoint unit n s.iconv.cut[unit] then s.icShut unit s.iconv.cut[unit] else s

/-! ## Clocks and locking points -/

/-- The windows in progress grow by d 24ths of a clock edge (R472, R479). -/
def State.icAge (s : State) (d : Nat) (ic1 : Bool) : State :=
  let ic0 := s.on R.ICONV_IC0CFG_EN
  let ic1 := ic1 && s.on R.ICONV_IC1CFG_EN && !s.iconv.pass.isEmpty
  if !ic0 && !ic1 then s
  else s.modIconv (fun x =>
    let up (k : Fin 3) : Int := x.age[k] + d
    { x with age := #v[if ic0 then up 0 else x.age[0], if ic0 then up 1 else x.age[1],
                       if ic1 && !(x.hold && x.age[2] == 0) then up 2 else x.age[2]] })

/-- A beat of the modulator clocks, which is the beat divided by 24 in RUN and DOZE and in the SRR hold the always-on clock for IC0 (R472,
R490). -/
def State.icBeat (s : State) : State :=
  if s.watching then s.icAge 1 (!s.iconv.lpSum)
  else if s.pwr.mode == .srrHold && s.time.aoIn == 0 then s.icAge 24 false
  else s

/-- An always-on period with the beat stopped: IC0 counts with IC0_KEEP, from P0 of an entry into STANDBY to the hand-off (R472, R490). -/
def State.icPeriod (s : State) : State :=
  s.when (s.on R.PWR_LPCTL_IC0_KEEP && (s.pwr.mode == .standby || (s.pwr.entry == some .e3 && !s.pwr.toRest))) (·.icAge 24 false)

/-- A period boundary of a course is a locking point of the units locked to it (R476, R479). -/
def State.icBoundary (s : State) (c : Course) : State :=
  if !s.on R.ICONV_IC0CFG_EN && !s.on R.ICONV_IC1CFG_EN then s
  else
    let at0 := s.icCourse 0 == c.val
    let at2 := s.icCourse 2 == c.val
    s.modIconv (fun x =>
      let opens := at2 && x.hold && decide (0 ≤ x.age[2])
      { x with
        bounds := #v[if at0 then x.bounds[0] + 1 else x.bounds[0], if at0 then x.bounds[1] + 1 else x.bounds[1],
                     if opens then 0 else if at2 then x.bounds[2] + 1 else x.bounds[2]]
        hold := x.hold && !opens })

/-! ## Low power -/

/-- Each running unit closes its window at E2 and IC1 stops; counts are summed into the low-power registers (R489). -/
def State.icLpClose (s : State) : State :=
  let t := ((s.icShut 0 true).icShut 1 true).icShut 2 true
  (t.modIconv (fun x => { x with
    pass := [], lpSum := true, lpR := s.icCounts false, lpB := s.icCounts true, age := Vector.replicate 3 0
    part := Vector.replicate 2 0, partN := Vector.replicate 2 0 })).put R.ICONV_STAT_IC1BUSY 0

/-- The hand-off, or an abandoned E2, reports the low-power counts, and each running unit starts a new window, flagged SHORT (R489). A sum that
ended before, with its modulator, holds what it had come to. Log entry 67, DEDUCED. -/
def State.icLpEnd (s : State) (qr qb : Word) : State :=
  if !s.iconv.lpSum then s
  else
    let x := s.iconv
    let r : Int := if x.lpR then qr.toInt else x.part[(0 : Fin 2)]
    let b : Int := if x.lpB then qb.toInt else x.part[(1 : Fin 2)]
    let t := (s.icCount false r x.lpR).icCount true b x.lpB
    let t := ((t.setReg RW.ICONV_LPQR (BitVec.ofInt 48 r)).setReg RW.ICONV_LPQB (BitVec.ofInt 48 b)).modIconv (fun x => { x with
      lpSum := false, lpR := false, lpB := false, short := Vector.replicate 3 true, cut := Vector.replicate 3 false
      age := Vector.replicate 3 0, bounds := Vector.replicate 3 0, input := none })
    t.when (t.on R.ICONV_IC1CFG_EN && t.on R.ICONV_IC1CFG_CONT) (·.passStart)

/-- A counting modulator stops at P0 (R488, R490): in REST, and in STANDBY without IC0_KEEP. What it has counted is in its counter. -/
def State.icStop (s : State) (rest : Bool) : State :=
  let t := s.when rest (·.icSeen)
  if (rest || !s.on R.PWR_LPCTL_IC0_KEEP) && (s.icCounts false || s.icCounts true) then t.chgGap (if rest then 4 else 3) else t

end Sys2Proof.Machine
end

