-- ==== Sys2Proof/Machine/FadcBase.lean ====
section
/-!
DEFINITION. Machine/FadcBase.lean: the requests of the fast converter and the result queue with its consumers (spec/15), as
the operations that courses, converters, engines and units use.
-/
namespace Sys2Proof.Machine

def State.modFadc (s : State) (f : Fadc → Fadc) : State := { s with fadc := f s.fadc }

/-! ## The result queue -/

/-- Set the queue's entries and show its levels (R464 to R466). -/
def State.setQueue (s : State) (q : List QEntry) : State :=
  ((s.modFadc (fun f => { f with queue := q })).put R.FADC_QSTAT_LEVEL q.length).put R.FADC_QSTAT_PLEVEL
    (q.filter (fun e => e.mask.getLsbD 0)).length

/-- Add to a counter of R466, which wraps. -/
def State.count (s : State) (a : Nat) (k : Nat) : State := s.setReg a (s.reg a + Word.ofN k)

/-- Results counted in QDROP; the next entry to enter carries GAP (R462). -/
def State.qDrop (s : State) (k : Nat) : State :=
  if k = 0 then s else (s.count RW.FADC_QDROP k).modFadc (fun f => { f with gap := true })

/-- The consumers that may be in a mask: the program and the enabled engines and units (R459). -/
def State.consumers (s : State) : BitVec 9 :=
  BitVec.ofNat 9 (1 + ((List.range 4).map (fun n => (if s.on (R.FE_CFG_EN n) then 2 ^ (n + 1) else 0)
    + (if s.on (R.AQ_CFG_EN n) then 2 ^ (n + 5) else 0))).sum)

/-- An entry enters the queue (R459, R462, R465). -/
def State.enterQ (s : State) (m : BitVec 9) (w : Word) : State :=
  let t := ((s.setQueue (s.fadc.queue ++ [{ word := w, mask := m }])).modFadc (fun f => { f with gap := false })).jot 1 [w]
  t.when (m.getLsbD 0 && decide (t.get R.FADC_QCFG_THR ≤ t.get R.FADC_QSTAT_PLEVEL)) (·.assertEv 106)

/-- An entry that the journal brings a shadow (R470): its consumers are those of its route. -/
def State.replayQ (s : State) (w : Word) : State :=
  let n := if getBits w 22 2 = 3 then 48 + getBits w 16 4 else getBits w 16 6
  (s.count RW.FADC_DONE 1).enterQ (BitVec.ofNat 9 (s.get (R.ROUTE n)) &&& s.consumers) w

/-- A completed conversion of route code n (fast channel n, integrating code n - 48) offers its word (R459, R460, R462, R465,
R466). -/
def State.offer (s : State) (n : Nat) (w : Word) : State :=
  let s := s.count RW.FADC_DONE 1
  let m := BitVec.ofNat 9 (s.get (R.ROUTE n)) &&& s.consumers
  if m = 0 then (s.qDrop 1).put R.FADC_STAT_NOROUTE 1
  else if 256 ≤ s.fadc.queue.length then
    { s.qDrop 1 with now := { s.now with missed := s.now.missed ++ [(w, m, s.fadc.gap)] } }
  else s.enterQ m (setBits w 25 1 s.fadc.gap.toNat)

/-- An entry is freed in the beat in which a result found the queue full: frees come first, so the result enters after all (R463). -/
def State.readmit (s : State) : State :=
  match s.now.missed with
  | [] => s
  | (w, m, gap) :: rest =>
    let t := { s.setReg RW.FADC_QDROP (s.reg RW.FADC_QDROP - 1) with now := { s.now with missed := rest } }
    (t.enterQ m (setBits w 25 1 gap.toNat)).modFadc (fun f => { f with gap := !rest.isEmpty })

/-- Clear a consumer's bit in the first entry that holds it, dropping an entry whose mask empties: the word taken, whether the
entry is freed, and the entries left. -/
def takeFirst (k : Nat) : List QEntry → Option (Word × Bool × List QEntry)
  | [] => none
  | e :: t =>
    if e.mask.getLsbD k then
      let m := e.mask &&& ~~~(1#9 <<< k)
      some (e.word, m = 0, if m = 0 then t else { e with mask := m } :: t)
    else (takeFirst k t).map (fun r => (r.1, r.2.1, e :: r.2.2))

/-- A consumer takes its oldest entry (R459 to R461, R464). -/
def State.qTake (s : State) (k : Nat) : Option Word × State :=
  match takeFirst k s.fadc.queue with
  | none => (none, s)
  | some (w, freed, q) => (some w, (s.setQueue q).when freed (fun t => (t.count RW.FADC_DELIV 1).readmit))

/-- Disabling a consumer takes its bit out of every entry (R461). -/
def State.qLeave (s : State) (k : Nat) : State :=
  let q := s.fadc.queue.map (fun e => { e with mask := e.mask &&& ~~~(1#9 <<< k) })
  (s.setQueue (q.filter (fun e => e.mask != 0))).qDrop (q.filter (fun e => e.mask = 0)).length

/-- The entry FADC_QPEEK shows and FADC_QPOP returns (R464). -/
def State.qPeek (s : State) : Word :=
  match s.fadc.queue.find? (fun e => e.mask.getLsbD 0) with
  | some e => e.word
  | none => 0xFFFFFFFFFFFF#48

/-! ## Requests -/

/-- Whether the converter takes requests: EN in RUN; a twin shadow converts nothing for the queue (R452, R468, R470). -/
def State.fadcOn (s : State) : Bool := s.on R.FADC_CTL_EN && s.pwr.mode = .run && !s.shadowing

/-- The channels set in a mask, rising. -/
def maskChannels (m : Nat) : List Nat := (List.range 48).filter (fun n => m.testBit n)

/-- An urgent conversion after those of earlier requests, and in one beat after those of lower courses (R447). -/
def insertUrgent (u : Conv) : List Conv → List Conv
  | [] => [u]
  | v :: t => if v.reg = u.reg ∧ u.crs < v.crs then u :: v :: t else v :: insertUrgent u t

/-- An urgent request of course c for channels (R448, R452); ss marks a single-shunt request and s2 its second window. -/
def State.urgentReq (s : State) (c : Nat) (chs : List Nat) (ss s2 : Bool) : State :=
  let l := chs.map (fun n => ({ kind := 1, ch := n, f26 := ss, f27 := s2, reg := s.time.dtime, crs := c } : Conv))
  if s.shadowing then s
  else if !s.fadcOn ∨ 32 < s.fadc.urgent.length + l.length then s.bump R.FADC_STAT_UREJ
  else s.modFadc (fun f => { f with urgent := l.foldl (fun q u => insertUrgent u q) f.urgent })

/-- At the end of a beat the first waiting urgent conversion takes a slot of the two beats ahead that is already assigned, from a scan
conversion, which is aborted, or left unused (R449, R450, R451). -/
def State.urgentSlot (s : State) : State :=
  match s.fadc.urgent, s.fadc.lastSlot with
  | u :: rest, some l =>
    if (l - s.time.dtime).toInt ≤ 0 then s
    else match s.fadc.convs.find? (fun c => c.slot == l) with
      | some c =>
        if c.kind = 0 then s.modFadc (fun f => { f with
          urgent := rest, convs := f.convs.map (fun d => if d = c then { u with slot := c.slot, slice := c.slice } else d)
          restart := some { c with f27 := true } })
        else s
      | none => s.modFadc (fun f => { f with
          urgent := rest, convs := f.convs ++ [{ u with slot := l, slice := f.active.toList.getD (l.toNat / 4 % 4) 0 }] })
  | _, _ => s

/-- A crossing request of a half-bridge (R453). -/
def State.crossReq (s : State) (h : HB) (rising : Bool) : State :=
  let edge := s.get R.FADC_XEN_EDGE
  if s.fadcOn && (s.get R.FADC_XEN_EN).testBit h.val && (if rising then edge.testBit 0 else edge.testBit 1) then
    if s.fadc.cross.any (fun c => c.ch = 8 + h.val) then s.bump R.FADC_STAT_XMERGE
    else s.modFadc (fun f => { f with cross := f.cross ++ [{ kind := 2, ch := 8 + h.val, f26 := rising, reg := s.time.dtime }] })
  else s

/-- Start a scan sequence, unless one runs (R454). -/
def State.scanStart (s : State) : State :=
  if !s.fadcOn then s
  else if s.on R.FADC_SCTL_SRUN then s.bump R.FADC_SCTL_SSKIP
  else
    let l := maskChannels (s.get R.FADC_SMASK_MASK)
    if l.isEmpty then s
    else (s.modFadc (fun f => { f with scan := l, sos := true, scanAt := s.time.dtime })).put R.FADC_SCTL_SRUN 1

/-- A continuous sequence starts when none runs (R454). -/
def State.scanAgain (s : State) : State := s.when (s.get R.FADC_SCTL_SMODE == 2 && !s.on R.FADC_SCTL_SRUN) (·.scanStart)

/-- A period boundary of a course starts a sequence in SMODE 0b11 (R454). -/
def State.scanAtBoundary (s : State) (c : Course) : State :=
  if s.get R.FADC_SCTL_SMODE = 3 ∧ s.get R.FADC_SCTL_STRIG = c.val then s.scanStart else s

/-- Waiting conversions that have not begun are discarded and a running sequence ends (R468; EN cleared). -/
def State.fadcDiscard (s : State) : State :=
  (s.modFadc (fun f => { f with
    urgent := [], cross := [], restart := none, scan := [], sos := false
    convs := f.convs.filter (fun c => decide ((c.slot - s.time.dtime).toInt ≤ 0)) })).put R.FADC_SCTL_SRUN 0

end Sys2Proof.Machine
end

