-- ==== Sys2Proof/Machine/Protect.lean ====
section
/-!
DEFINITION. Machine/Protect.lean: trips, their reactions, records and clearing (spec/14), and the commands of protection.
-/
namespace Sys2Proof.Machine

/-! ## Reactions and records -/

/-- The field of PROTc_REACT for a source code (R424). -/
def reactField (c : Course) (n : Nat) : Option Fld :=
  match n with
  | 1 | 2 => some (R.PROTC_REACT_VDS c)
  | 3 => some (R.PROTC_REACT_OC c)
  | 4 => some (R.PROTC_REACT_GFLT c)
  | 6 => some (R.PROTC_REACT_OV c)
  | 7 => some (R.PROTC_REACT_UV c)
  | 8 => some (R.PROTC_REACT_THERM c)
  | 10 => some (R.PROTC_REACT_NTC c)
  | _ => none

/-- The reaction of a course to a source; low says that the fault is of a low side (R422, R424, R426, R429). A source with no
field reacts OFF, but for GUV, which is a record only (R431). -/
def State.reactionTo (s : State) (c : Course) (n : Nat) (low : Bool) : Nat :=
  match reactField c n with
  | none => if n = 5 then 0 else 2
  | some f =>
    let r := s.get f
    if r = 3 ∧ (n = 2 ∨ (n = 4 ∧ low)) then 2
    else if r = 4 ∧ (n = 1 ∨ (n = 4 ∧ !low)) then 2
    else r

/-- Record a trip in PROT_FREC and PROT_FTIME (R431): the first since VALID was cleared, and among trips of one beat the
lowest source code and then the lowest course; a later one counts. -/
def State.recordTrip (s : State) (n : Nat) (c : Course) (hb : Nat) : State :=
  let write (t : State) : State :=
    (((t.put R.PROT_FREC_SRC n).put R.PROT_FREC_COURSE c.val).put R.PROT_FREC_HB hb).put R.PROT_FTIME_T s.time.dtime.toNat
  if !s.on R.PROT_FREC_VALID then (write s).put R.PROT_FREC_VALID 1
  else
    let t := (s.bump R.PROT_FREC_COUNT).record R.PROT_FREC_VALID [R.PROT_FREC_VALID.addr, R.PROT_FTIME_T.addr] (fun t =>
      ((write t).put R.PROT_FREC_COUNT 0).put R.PROT_FREC_VALID 1)
    if s.get R.PROT_FTIME_T = s.time.dtime.toNat ∧
        (n < s.get R.PROT_FREC_SRC ∨ (n = s.get R.PROT_FREC_SRC ∧ c.val < s.get R.PROT_FREC_COURSE)) then write t else t

/-- Latch a source on a course with its reaction (R424, R428, R431). -/
def State.latchOn (s : State) (c : Course) (n r : Nat) : State :=
  let old := if s.latched c n then (s.pwm c).lat.toList.getD n 0 else 0
  let t := s.orF (R.PROTC_FSTAT_SRC c) (1 <<< (n - 1))
  t.modPwm c (fun x => { x with lat := x.lat.setIfInBounds n (if r = 1 then old else combineReact old r) })

/-- A cycle-by-cycle trip (R429): references held low, other half-bridges held off, periods counted. A trip in a boundary beat belongs to
the period that begins there, also while the boundary is still to come in that beat. The flag says that CBCX latches. -/
def State.cbcTrip (s : State) (c : Course) : State × Bool :=
  let x := s.pwm c
  let late := x.due.getLsbD 0 && x.cbcAt != some s.time.dtime
  let first := !x.cbcSeen || late
  let run := if !first then x.cbcRun else if late && !x.cbcSeen then 1 else x.cbcRun + 1
  let t := s.modPwm c (fun x => { x with cbc := true, cbcSeen := true, cbcRun := run, cbcAt := some s.time.dtime })
  let t := t.when first (·.bump (R.PROTC_STAT_CBCCNT c))
  let t := [hbOf c 0, hbOf c 1, hbOf c 2].foldl (fun t h => t.when (decide ((t.hb h).src ≠ 0)) (·.modHb h (fun y => { y with hold := true }))) t
  let max := s.get (R.PROTC_REACT_CBCMAX c)
  (t, max ≠ 0 && decide (max ≤ run) && !s.latched c 12)

/-- A source trips on one course (R424, R425, R429). -/
def State.tripOn (s : State) (n : Nat) (low : Bool) (c : Course) : State :=
  let r := s.reactionTo c n low
  let t := s.latchOn c n r
  if r = 1 then (t.cbcTrip c).1.refresh c else t.refresh c

/-- A trip of a source on the courses it covers (R412, R424, R431), with CBCX after it (R429). -/
def State.trip (s : State) (n : Nat) (low : Bool) (cs : List Course) (hb : Nat) : State :=
  match cs with
  | [] => s
  | c :: _ =>
    let cbcx := cs.filter (fun c => s.reactionTo c n low = 1 && ((s.cbcTrip c).2))
    let t := (cs.foldl (fun t c => t.tripOn n low c) s).recordTrip n c hb
    let t := (t.assertEv 105).jotCond n (if hb = 0 ∧ n ≠ 1 ∧ n ≠ 2 ∧ n ≠ 4 then c.val else hb)
    match cbcx with
    | [] => t
    | d :: _ => cbcx.foldl (fun t c => t.jotCond 12 c.val) ((cbcx.foldl (fun t c => t.tripOn 12 false c) t).recordTrip 12 d 0)

/-- The all-off reaction of a chip source on every course. -/
def State.tripAll (s : State) (n : Nat) : State := s.trip n false allCourses 0

/-- Whether a window blanks a monitor of course c, by the window bit that selects the monitor, or did so within its filter of n + 1 beats
(R417, R418). -/
def State.blanked (s : State) (c : Course) (sel : Fld) (n : Nat) : Bool :=
  s.on sel && allCourses.any (fun p => (s.get (R.PROTC_BLK_WEN c)).testBit p.val
    && ((s.pwm p).win = some c || (match (s.pwm p).winEnd with
      | some (d, t) => d = c && decide ((s.time.dtime - t).toNat < n)
      | none => false)))

/-- Whether n beats have passed since DTIME d. -/
def State.since (s : State) (d : Word) (n : Nat) : Bool := decide (n ≤ (s.time.dtime - d).toNat)

/-! ## Commands -/

/-- The VDS monitor of a half-bridge can have counted its filter length (R414, R417, R418): it is enabled, its driver has been commanded on
for VBLK beats and the filter, and no window has blanked it for the filter. Log entry 79, DEDUCED. -/
def State.vdsOpen (s : State) (h : HB) (high : Bool) : Bool :=
  let c := courseOf h
  let x := s.hb h
  let n := s.get (R.PROTC_VDS_VFILT c)
  s.on (R.PROTC_VDS_VEN c) && (if high then x.outH else x.outL) && s.pwr.mode = .run
    && s.since (if high then x.edgeH else x.edgeL) (s.get (R.PROTC_VDS_VBLK c) + n) && !s.blanked c (R.PROTC_BLK_WVDS c) n

/-- VDS_TRIP (R414, R417, R418, R424, R431): high is the high-side monitor. -/
def execVdsTrip (h : HB) (high : Bool) (s : State) : Host.Outcome State Fault Refusal :=
  if s.shadowing then done s else
  if s.vdsOpen h high then done (s.trip (if high then 1 else 2) (!high) [courseOf h] h.val) else done s

/-- The shunt comparator of a course can have counted its filter length (R416, R417, R418, R437): it is enabled, its course drives, OCBLK
beats and the filter have passed since the last command edge, and no window has blanked it for the filter. Log entry 79, DEDUCED. -/
def State.ocOpen (s : State) (c : Course) : Bool :=
  let n := s.get (R.PROTC_OC_OCFILT c)
  s.on (R.PROTC_OC_OCEN c) && (s.on (R.PROTC_OC_POS c) || s.on (R.PROTC_OC_NEG c)) && s.pwr.mode = .run && s.on (R.PWM_OUT_OUTEN c)
    && s.since (s.pwm c).lastEdge (s.get (R.PROTC_OC_OCBLK c) + n) && !s.blanked c (R.PROTC_BLK_WOC c) n

/-- OC_TRIP (R416, R417, R418). -/
def execOcTrip (c : Course) (s : State) : Host.Outcome State Fault Refusal :=
  if s.shadowing then done s else
  if s.ocOpen c then done (s.trip 3 false [c] 0) else done s

/-- OV_TRIP (R420). -/
def execOvTrip (s : State) : Host.Outcome State Fault Refusal :=
  if s.shadowing then done s else
  if s.on R.PROT_VBAT_OVEN && s.watching then done (s.tripAll 6) else done s

/-- UV_TRIP (R420). -/
def execUvTrip (s : State) : Host.Outcome State Fault Refusal :=
  if s.shadowing then done s else
  if s.on R.PROT_VBAT_UVEN && s.watching then done (s.tripAll 7) else done s

/-- THERM_TRIP (R421): a die comparator, whichever sensor reports. -/
def execThermTrip (_k : Dom) (s : State) : Host.Outcome State Fault Refusal :=
  if s.shadowing then done s else
  if s.watching then done (s.tripAll 8) else done s

/-- TSD_TRIP (R422): OFF on every course. -/
def execTsdTrip (_k : Dom) (s : State) : Host.Outcome State Fault Refusal :=
  if s.shadowing then done s else
  if s.watching then done (s.tripAll 9) else done s

/-- Courses of an 8-bit map. -/
def mapCourses (m : Nat) : List Course := allCourses.filter (fun c => m.testBit c.val)

/-- A result of NTCk has arrived (R423). -/
def State.ntcSeen (s : State) (k : Fin 4) : State := { s with stage := { s.stage with ntcAge := s.stage.ntcAge.set k 0 } }

/-- Compare an NTC result by its upper 16 bits (R423). -/
def State.ntcResult (s : State) (k : Fin 4) (v : Nat) : State :=
  let s := s.ntcSeen k
  if !s.on (R.PROT_NTC_EN k) then s
  else if s.get (R.PROT_NTC_NTCOPEN k) ≤ v then s.orF R.PROT_STAT_NTCOPEN (1 <<< k.val)
  else
    let n := s.get (R.PROT_NTC_NCNT k)
    let low := decide (v ≤ s.get (R.PROT_NTC_NTCTH k))
    let cl := if low then s.stage.ntcLow[k] + 1 else 0
    let ch := if low then 0 else s.stage.ntcHigh[k] + 1
    let cond := if low then decide (n ≤ cl) || s.stage.ntcCond[k] else s.stage.ntcCond[k] && !decide (n ≤ ch)
    let t := { s with stage := { s.stage with
      ntcLow := s.stage.ntcLow.set k (min cl 15), ntcHigh := s.stage.ntcHigh.set k (min ch 15)
      ntcCond := s.stage.ntcCond.set k cond } }
    if low && cl = n then t.trip 10 false (mapCourses (s.get (R.PROT_NTC_MAP k))) 0 else t

/-- NTC_STALE (R423): no result of NTCk for 100 ms, 24,000,000 beats. -/
def execNtcStale (k : Fin 4) (s : State) : Host.Outcome State Fault Refusal :=
  if s.shadowing then done s else
  if s.on (R.PROT_NTC_EN k) && decide (24000000 ≤ s.stage.ntcAge[k]) then done ((s.orF R.PROT_STAT_NTCSTALE (1 <<< k.val)).ntcSeen k) else done s

/-- AUX windows of course c close (R418): after AUXLEN beats, or when the mask bit is cleared (R419). -/
def State.closeWindow (s : State) (c : Course) : State :=
  s.modPwm c (fun x => { x with win := none, winEnd := match x.win with | some d => some (d, s.time.dtime) | none => x.winEnd })

/-- BLANKING_WINDOW_END (R354, R418): the window that the carrier of course c opened closes once AUXLEN beats have passed. -/
def execBlankingWindowEnd (c : Course) (s : State) : Host.Outcome State Fault Refusal :=
  if (s.pwm c).win.isSome && (s.pwm c).winLeft == 0 then done (s.closeWindow c) else done s

/-- Whether a store is barred by the arrangement of a course (R360, R406, R435, R571). -/
def State.barred (s : State) (m : Master) (c : Course) (split : Bool) : Bool := masterIsUser m && !s.progOwns c split

/-- Clear the latched sources of a course whose condition is absent; present has bit n set for each source n whose condition is
present (R432, R433). The NTC condition is the model's own. Log entry 52, DESIGN CHOICE. -/
def State.clearProt (s : State) (c : Course) (present : Nat) : State :=
  let ntc := [0, 1, 2, 3].any (fun k : Fin 4 => s.stage.ntcCond[k] && (s.get (R.PROT_NTC_MAP k)).testBit c.val)
  let pres := (present >>> 1) ||| (if ntc then 1 <<< 9 else 0)
  let old := s.get (R.PROTC_FSTAT_SRC c)
  let keep := old &&& pres
  let before := s.reaction c
  let t := s.put (R.PROTC_FSTAT_SRC c) keep
  let t := t.when (keep != 0) (·.put R.PROT_STAT_CLRREJ 1)
  if before ≠ 0 ∧ t.reaction c = 0 then t.resumeAtBoundary c else t.refresh c

/-- PROTECTION_CLEAR (R432, R435): a write of PROTc_CLR with CLR 1. Log entry 52, DESIGN CHOICE. -/
def execProtectionClear (m : Master) (c : Course) (present : BitVec 13) (s : State) : Host.Outcome State Fault Refusal :=
  if s.barred m c false then done (s.put R.PROT_STAT_WREJ 1) else done (s.clearProt c present.toNat)

/-- CBC_CONDITION_ABSENT (R429): half-bridges that are not on the internal source are released. -/
def execCbcConditionAbsent (c : Course) (s : State) : Host.Outcome State Fault Refusal :=
  if s.shadowing then done s else
  done (([hbOf c 0, hbOf c 1, hbOf c 2].foldl (fun t h => t.modHb h (fun y => { y with hold := false })) s).refresh c)

/-- FAULT_N is low while a latched source of any course is enabled for it (R434). -/
def State.protFaultN (s : State) : Bool :=
  allCourses.any (fun c => (s.get (R.PROTC_FSTAT_SRC c) &&& s.get R.PROT_FNEN_EN) != 0)

end Sys2Proof.Machine
end

