-- ==== Sys2Proof/Machine/Pwm.lean ====
section
/-!
DEFINITION. Machine/Pwm.lean: the carriers, compares, shadows, starts, stops, sync loads, events and the minimum-pulse filter
of the courses (spec/11), commutation masks, pair mode and capo hold (spec/12), and their commands.
-/
namespace Sys2Proof.Machine

/-! ## Shadows -/

/-- The values written to the shadowed registers (R346). -/
def State.shadowSet (s : State) (c : Course) : PwmAct :=
  { pre := s.get (R.PWM_CTL_PRE c), evpre := s.get (R.PWM_CTL_EVPRE c), per := s.get (R.PWM_PER_PER c)
    cmp := #v[s.get (R.PWM_CMP_CMP c 0), s.get (R.PWM_CMP_CMP c 1), s.get (R.PWM_CMP_CMP c 2)]
    tap := #v[s.get (R.PWM_CMP_TAP c 0), s.get (R.PWM_CMP_TAP c 1), s.get (R.PWM_CMP_TAP c 2)]
    aux := s.get (R.PWM_AUX_AUX c), auxlen := s.get (R.PWM_AUX_AUXLEN c)
    dthl := s.get (R.PWM_DT_DTHL c), dtlh := s.get (R.PWM_DT_DTLH c)
    minp := s.get (R.PWM_MINP_MINP c), stretch := s.on (R.PWM_MINP_MODE c) }

/-- Transfer every shadow of a course (R346). -/
def State.transfer (s : State) (c : Course) : State :=
  s.modPwm c (fun x => { x with act := s.shadowSet c, shNow := some (s.shadowSet c), shPrev := some (s.shadowSet c) })

/-- What a boundary in the beat after this one transfers (R346, R347): the shadows as they stand now, none while SHOLD is 1. -/
def State.holdShadow (s : State) (c : Course) : Option PwmAct := if s.on (R.PWM_CTL_SHOLD c) then none else some (s.shadowSet c)

/-! ## High times -/

/-- The period in beats (R341). -/
def PwmAct.beats (a : PwmAct) : Nat := (a.per + 1) * 2 ^ a.pre

/-- The high time that a compare gives, in beats and in taps beyond them (R343, R344). -/
def PwmAct.high (a : PwmAct) (k : Fin 3) : Nat :=
  let v := a.cmp[k]
  if v = 0 then 0 else if v ≤ a.per then v * 2 ^ a.pre else a.beats
def PwmAct.highTap (a : PwmAct) (k : Fin 3) : Nat := if a.cmp[k] = 0 ∨ a.per < a.cmp[k] then 0 else a.tap[k]

/-- Whether the filter passes the high time of a pair: 0, the whole period, or from Lo to Hi (R357). -/
def PwmAct.passes (a : PwmAct) (k : Fin 3) : Bool :=
  let h := a.high k
  let hi := a.beats - a.minp - a.dthl
  h = 0 || h = a.beats || (decide (a.minp + a.dtlh ≤ h) && (decide (h < hi) || (h == hi && a.highTap k == 0)))

/-- Whether the filter's condition fails in this period (R358). -/
def PwmAct.badFilter (a : PwmAct) : Bool := a.minp != 0 && decide (a.beats ≤ 2 * a.minp + a.dthl + a.dtlh)

/-- The effective high time after the minimum-pulse filter, in beats and in taps beyond them (R357, R358). -/
def PwmAct.effHigh (a : PwmAct) (k : Fin 3) : Nat :=
  if a.minp = 0 then a.high k
  else if a.badFilter then 0
  else if a.passes k then a.high k
  else if a.high k < a.minp + a.dtlh then (if a.stretch then a.minp + a.dtlh else 0)
  else (if a.stretch then a.beats - a.minp - a.dthl else a.beats)
def PwmAct.effTap (a : PwmAct) (k : Fin 3) : Nat := if a.minp = 0 || (!a.badFilter && a.passes k) then a.highTap k else 0

/-- Whether the filter changes any high time of the period (R359). -/
def PwmAct.filtered (a : PwmAct) : Bool := [0, 1, 2].any (fun k : Fin 3 => a.effHigh k != a.high k || a.effTap k != a.highTap k)

/-! ## Events -/

/-- Raise an event source of a course: bit of EVSEL and EVSTAT, thinned by EVPRE (R352, R353). -/
def State.pwmEvent (s : State) (c : Course) (bit : Nat) : State :=
  if (s.get (R.PWM_CTL_EVSEL c)).testBit bit && s.get (R.PWM_CNT_PCNT c) % ((s.pwm c).act.evpre + 1) = 0 then
    (s.orF (R.PWM_EVSTAT_SRC c) (1 <<< bit)).assertEv (64 + c.val)
  else s

/-! ## The beginning of a period -/

/-- The step of pair mode at a boundary (R375). -/
def PwmCourse.stepDrive (x : PwmCourse) (target brake : Nat) : PwmCourse :=
  if 1 < x.brake then { x with brake := x.brake - 1 }
  else if x.brake = 1 then { x with brake := 0, pdrv := target }
  else if ((x.pdrv = 1 ∧ target = 2) ∨ (x.pdrv = 2 ∧ target = 1)) ∧ brake ≠ 0 then { x with pdrv := 3, brake := brake }
  else { x with pdrv := target }

/-- What the counter value v brings about in its first beat (R343, R352): bit 1 PER, 2 to 4 CMPk, 5 AUX, and 6 to 8 the compare edges of
pairs whose reference is high, edge falling at the beat e of the period. -/
def PwmCourse.dueAt (x : PwmCourse) (v e : Nat) : BitVec 9 :=
  let a := x.act
  let first := e == v * 2 ^ a.pre
  let ev : List (Nat × Bool) := [(1, v == a.per), (2, a.cmp[0] == v && v != 0), (3, a.cmp[1] == v && v != 0), (4, a.cmp[2] == v && v != 0), (5, a.aux == v)]
  let ed : List (Nat × Bool) := [0, 1, 2].map (fun k : Fin 3 => (6 + k.val, x.ref[k] && x.heff[k] == e && decide (e < a.beats)))
  BitVec.ofNat 9 (((ev.filter (fun p => p.2 && first && decide (v ≤ a.per))) ++ ed.filter (·.2)).foldl (fun n p => n ||| (1 <<< p.1)) 0)

/-- The course has done what bit n stands for. -/
def State.clearDue (s : State) (c : Course) (n : Nat) : State :=
  s.modPwm c (fun x => { x with due := x.due &&& ~~~(1#9 <<< n) })

/-- The beats since the period began (R343, R380). -/
def State.inPeriod (s : State) (c : Course) : Nat := s.get (R.PWM_CNT_CNT c) * 2 ^ (s.pwm c).act.pre + (s.pwm c).presc

/-- Begin a period whose counter starts at v counts (R343, R349, R357 to R359). -/
def State.beginPeriod (s : State) (c : Course) (v : Nat) : State :=
  let a := (s.pwm c).act
  let p := v * 2 ^ a.pre
  let e := #v[a.effHigh 0, a.effHigh 1, a.effHigh 2]
  let up (h : Nat) : Bool := h != 0 && decide (p ≤ h)
  let t := s.modPwm c (fun x =>
    let y := { x with
      heff := e, teff := #v[a.effTap 0, a.effTap 1, a.effTap 2], ref := e.map up, sup := Vector.replicate 3 false, presc := 0 }
    { y with due := y.dueAt v p, auxAt := if a.aux = v then some s.time.dtime else x.auxAt })
  let t := t.when a.badFilter (·.put (R.PWM_STAT_MPCFG c) 1)
  (t.when a.filtered (·.bump (R.PWM_STAT_MPCNT c))).put (R.PWM_CNT_CNT c) v

/-- The windows of single-shunt sampling that hold in a period: pairs by rising effective high time, and whether each window
meets W (R380). -/
def State.ssOrder (s : State) (c : Course) : Fin 3 × Fin 3 × Fin 3 × Bool × Bool :=
  let h := (s.pwm c).heff
  let le (i j : Fin 3) : Bool := decide (h[i] < h[j] ∨ (h[i] = h[j] ∧ i.val ≤ j.val))
  let l : List (Fin 3) := [0, 1, 2]
  let mn := (l.find? (fun i => l.all (fun j => le i j))).getD 0
  let mx := (l.find? (fun i => l.all (fun j => le j i))).getD 2
  let md := (l.find? (fun i => i != mn && i != mx)).getD 1
  let w := (s.pwm c).act.dthl + s.get (R.PWM_SSHUNT_TSET c) + 8
  (mn, md, mx, decide (h[mn] + w ≤ h[md]), decide (h[md] + w ≤ h[mx]))

/-- Whether single-shunt sampling applies: enabled, all three pairs in PWM state, no pair mode and no capo hold (R380). -/
def State.ssActive (s : State) (c : Course) : Bool :=
  s.on (R.PWM_SSHUNT_SSEN c) && s.get (R.PWM_OUT_PAIR c) = 0 && s.get (R.PWM_OUT_CAPO c) = 0
    && [0, 1, 2].all (fun k : Fin 3 => (s.pairState c k).1 == 1)

/-- The end of a period of single-shunt sampling: SSORD with the windows that issued a request, and the missed windows (R381, R382). -/
def State.ssEnd (s : State) (c : Course) : State :=
  let o := s.ssOrder c
  let x := s.pwm c
  if !s.on (R.PWM_SSHUNT_SSEN c) && !x.ss1 && !x.ss2 then s
  else
    let t := ((s.put (R.PWM_SSORD_MIN c) o.1.val).put (R.PWM_SSORD_MID c) o.2.1.val).put (R.PWM_SSORD_MAX c) o.2.2.1.val
    let t := (t.putB (R.PWM_SSORD_W1 c) x.ss1).putB (R.PWM_SSORD_W2 c) x.ss2
    let t := t.when (s.ssActive c && !o.2.2.2.1) (·.bump (R.PWM_SSHUNT_SSMISS c))
    let t := t.when (s.ssActive c && !o.2.2.2.2) (·.bump (R.PWM_SSHUNT_SSMISS c))
    t.modPwm c (fun x => { x with ss1 := false, ss2 := false })

/-! ## Commutations that wait -/

/-- The pulse that a new mask would start, when it ends by the reference within MINP beats of its start (R371). -/
def State.shortPulse (s : State) (c : Course) (k : Fin 3) (was : Bool × Bool) : Bool :=
  let x := s.pwm c
  let p := s.pairState c k
  let new := s.maskCmd c k
  let stop := if x.ref[p.2] then x.heff[p.2] else x.act.beats
  p.1 = 1 && x.act.minp != 0 && ((new.1 && !was.1 && decide (x.heff[p.2] < x.act.beats)) || (new.2 && !was.2))
    && decide (stop ≤ s.inPeriod c + x.act.minp)

/-- The mask governs the course: nothing that ranks above it does (R373, R392, R404). -/
def State.maskGoverns (s : State) (c : Course) (k : Fin 3) : Bool :=
  s.running c && s.get (R.PWM_OUT_CAPO c) = 0 && s.get (R.PWM_OUT_OUTEN c) = 2 && decide (s.reaction c ≤ 1) && !s.lockedOut (domOf c)
    && !(s.pwm c).waitBnd && !(s.pwm c).waitCapo && (s.hb (hbOf c k)).src = 0 && !(s.get (R.PWM_OUT_PAIR c) = 1 && k != 2)

/-- A commutation takes effect (R365, R366, R368, R370, R371). -/
def State.takeCommut (s : State) (c : Course) (w : Commut) : State :=
  let old : Fin 3 → Bool × Bool := fun k => s.maskCmd c k
  let t := s.modPwm c (fun x => { x with wait := none, raised := [], waitOld := none, floatAll := false, bemfArmed := false })
  let t := ((t.put (R.PWM_MSTAT_IDX c) w.idx).put (R.PWM_MSTAT_MASK c) (t.get (R.PWM_MTAB_STATE c w.idx))).put (R.PWM_MSTAT_PEND c) 0
  let cut := ([0, 1, 2] : List (Fin 3)).filter (fun k => t.maskGoverns c k && t.shortPulse c k (old k))
  let t := cut.foldl (fun t k => t.modPwm c (fun x => { x with sup := x.sup.set k true })) t
  let t := t.when (!cut.isEmpty) (·.bump (R.PWM_STAT_MPCNT c))
  (t.assertEv (72 + c.val)).refresh c

/-- Whether a waiting commutation takes effect in this beat (R368): from two beats after it was raised, at once, at a period boundary, or in
the first beat of counter value AUX. -/
def State.commutDue (s : State) (c : Course) (w : Commut) : Bool :=
  let x := s.pwm c
  decide (2 ≤ (s.time.dtime - w.beat).toNat) && !s.halted
    && (w.take == 0 || (w.take == 1 && x.bndAt == some s.time.dtime) || (w.take == 2 && x.auxAt == some s.time.dtime && !x.due.getLsbD 0))

/-- A waiting commutation takes effect when it is due (R368). -/
def State.takeDue (s : State) (c : Course) : State :=
  match (s.pwm c).wait with
  | some w => if s.commutDue c w then s.takeCommut c w else s
  | none => s

/-! ## Boundaries, starts and loads -/

/-- What a period boundary of one course does, but for its followers (R341, R346 to R348, R368, R375, R378, R381, R382, R429, R433). -/
def State.boundary1 (s : State) (c : Course) : State :=
  let t := s.ssEnd c
  let t := t.modPwm c (fun x => { x with
    act := x.shPrev.getD x.act, bndAt := some s.time.dtime, due := 0, auxAt := none
    waitBnd := false, waitCapo := false
    cbc := x.cbc && x.cbcAt == some s.time.dtime, cbcSeen := x.cbcSeen && x.cbcAt == some s.time.dtime
    cbcRun := if x.cbcSeen then x.cbcRun else 0 }.stepDrive (s.get (R.PWM_OUT_PDRV c)) (s.get (R.PWM_OUT_PBRK c)))
  let t := (t.put (R.PWM_CNT_PCNT c) (t.get (R.PWM_CNT_PCNT c) + 1)).beginPeriod c 0
  let t := (((t.pwmEvent c 0).scanAtBoundary c).icBoundary c).takeDue c
  if (t.pwm c).stopReq then (t.haltCourse c).refresh c else t.refresh c

/-- A load of the counter that is no boundary (R351): a high reference falls when the load reaches or passes its compare edge. Log entry 79,
DEDUCED. -/
def State.syncLoad (s : State) (c : Course) (v : Nat) : State :=
  let t := s.modPwm c (fun x =>
    let e := v * 2 ^ x.act.pre
    let y := { x with
      presc := 0
      ref := Vector.ofFn (fun k : Fin 3 => x.ref[k] && !(decide (x.heff[k] ≤ e ∧ x.heff[k] < x.act.beats))) }
    { y with due := y.dueAt v e, auxAt := if x.act.aux = v then some s.time.dtime else none })
  (t.put (R.PWM_CNT_CNT c) v).refresh c

/-- The counter value a start or a sync load gives: PHASE, or 0 when PHASE exceeds PER (R349, R351). -/
def State.phase (s : State) (c : Course) (per : Nat) : Nat :=
  if s.get (R.PWM_SYNC_PHASE c) ≤ per then s.get (R.PWM_SYNC_PHASE c) else 0

/-- The value that the counter of a running course has in this beat: 0 where it returns to 0 (R341). -/
def State.counter (s : State) (c : Course) : Nat := if (s.pwm c).due.getLsbD 0 then 0 else s.get (R.PWM_CNT_CNT c)

/-- Load the running courses that follow course c, and those that follow them, to the given depth (R351). A load of 0 in the beat of the
follower's own boundary is that boundary. -/
def State.syncFollowers : Nat → State → Course → State
  | 0, s, _ => s
  | n + 1, s, c =>
    allCourses.foldl (fun t d =>
      if d ≠ c && t.on (R.PWM_SYNC_SEN d) && t.get (R.PWM_SYNC_MASTER d) = c.val && t.running d then
        let v := t.phase d (t.pwm d).act.per
        let cnt := t.counter d
        let t := t.when (cnt != v) (·.put (R.PWM_STAT_SYNCSLIP d) 1)
        if v ≠ 0 then (if cnt = v ∧ (t.pwm d).presc = 0 then t else t.syncLoad d v)
        else if (t.pwm d).bndAt = some t.time.dtime then t
        else State.syncFollowers n (t.boundary1 d) d
      else t) s

/-- A period boundary of a course with its followers. -/
def State.boundary (s : State) (c : Course) : State := (s.boundary1 c).syncFollowers 8 c

/-- In S4 the stack connects when a reserve course starts, and DOZE ends (R614). -/
def State.reserveStart (s : State) (c : Course) : State :=
  if s.get R.RSV_SDSTAT_STEP = 4 ∧ (s.get R.RSV_SDCFG_RCRS).testBit c.val then
    let t := { s with rsv := { s.rsv with connect := true } }
    if s.pwr.mode = .doze then ({ t with pwr := { t.pwr with mode := .run } }.put R.PWR_STAT_STATE 0).refreshAll else t
  else s

/-- Start a course (R349, R375, R614); a running course is left as it is (R348). A start at 0 is a period boundary. -/
def State.startCourse (s : State) (c : Course) : State :=
  if s.running c then s
  else
    let s := s.reserveStart c
    let t := s.transfer c
    let v := t.phase c (t.pwm c).act.per
    let t := ((t.put (R.PWM_STAT_RUN c) 1).put (R.PWM_CNT_PCNT c) 0).modPwm c
      (fun x => { x with stopReq := false, waitBnd := false, waitCapo := false, cbc := false, cbcSeen := false, cbcRun := 0, ss1 := false
                         ss2 := false, auxAt := none, bndAt := if v = 0 then some s.time.dtime else none })
    let t := t.when (v == 0) (·.modPwm c (fun x => x.stepDrive (t.get (R.PWM_OUT_PDRV c)) (t.get (R.PWM_OUT_PBRK c))))
    let t := t.beginPeriod c v
    if v = 0 then (((((t.pwmEvent c 0).scanAtBoundary c).icBoundary c).takeDue c).refresh c).syncFollowers 8 c else t.refresh c

/-! ## The global start register -/

/-- Whether the arrangement gives a master the start and stop of a course (R360, R571). -/
def State.mayStart (s : State) (m : Master) (c : Course) : Bool := !s.barred m c true

/-- The courses of a write start now, or in a machine halt once it ends, with a timed start that is due (R349, R361). -/
def State.startNow (s : State) (cs : List Course) : State :=
  if s.halted && !cs.isEmpty then
    { s with stage := { s.stage with begin := cs.foldl (fun n c => n ||| (1#8 <<< c.val)) s.stage.begin } }
  else cs.foldl (fun t c => t.startCourse c) s

/-- A write of PWM_GSTART (R348, R349, R350, R360): bits of courses the program does not own set WREJ. -/
def State.writeGstart (s : State) (m : Master) (v : Word) : State :=
  let start := getBits v 0 8
  let stop := getBits v 8 8
  let named := allCourses.filter (fun c => start.testBit c.val || stop.testBit c.val)
  let t := (named.filter (fun c => !s.mayStart m c)).foldl (fun t c => t.put (R.PWM_STAT_WREJ c) 1) s
  let ok := named.filter (fun c => s.mayStart m c && !(start.testBit c.val && stop.testBit c.val))
  let stops := ok.filter (fun c => stop.testBit c.val)
  let starts := ok.filter (fun c => start.testBit c.val)
  let t := stops.foldl (fun t c => t.when (t.running c) (·.modPwm c (fun x => { x with stopReq := true }))) t
  let at1 := getBits v 16 1 = 1
  let dt := Word.ofN (s.get R.PWM_GAT_DT)
  if at1 then
    let t := { t with stage := { t.stage with timed := none } }
    if reached s.time.dtime dt then t.startNow starts
    else { t with stage := { t.stage with
      timed := some (BitVec.ofNat 8 (starts.foldl (fun n c => n ||| (1 <<< c.val)) 0), dt) } }
  else t.startNow starts

/-- COURSE_START (R348, R349): a write of PWM_GSTART with one START bit. -/
def execCourseStart (m : Master) (c : Course) (s : State) : Host.Outcome State Fault Refusal :=
  done (s.writeGstart m (Word.ofN (1 <<< c.val)))

/-- COURSE_STOP (R348): a write of PWM_GSTART with one STOP bit. -/
def execCourseStop (m : Master) (c : Course) (s : State) : Host.Outcome State Fault Refusal :=
  done (s.writeGstart m (Word.ofN (1 <<< (8 + c.val))))

/-- TIMED_START (R349, R350): a write of PWM_GSTART with AT 1; v holds its START and STOP bits. -/
def execTimedStart (m : Master) (v : Word) (s : State) : Host.Outcome State Fault Refusal :=
  done (s.writeGstart m (setBits v 16 1 1))

/-- TIMED_START_REACHED (R349, R361): the courses of the pending timed start start; a halt holds it. -/
def execTimedStartReached (s : State) : Host.Outcome State Fault Refusal :=
  match s.stage.timed with
  | some (cs, dt) =>
    if s.halted || !reached s.time.dtime dt then done s
    else done ((mapCourses cs.toNat).foldl (fun t c => t.startCourse c) { s with stage := { s.stage with timed := none } })
  | none => done s

/-! ## Carrier events -/

/-- Whether a course's carrier moves: it runs, the beat runs and no machine halt holds it (R361, R362). -/
def State.carrierOn (s : State) (c : Course) : Bool := s.running c && !s.halted && s.watching

/-- One beat of a running course (R341, R346): the counter advances, or is about to return to 0, and the new value shows what it brings
about. -/
def State.carrierBeat (s : State) (c : Course) : State :=
  let x := s.pwm c
  let sh := s.holdShadow c
  let cnt := s.get (R.PWM_CNT_CNT c)
  if !s.carrierOn c then s
  else
    let adv := decide (2 ^ x.act.pre ≤ x.presc + 1)
    let t := s.modPwm c (fun x => { x with shPrev := x.shNow, shNow := sh, presc := if adv then 0 else x.presc + 1 })
    if adv && decide (x.act.per ≤ cnt) then t.modPwm c (fun x => { x with due := 1 })
    else
      let v := if adv then cnt + 1 else cnt
      let t := t.modPwm c (fun y => { y with
        due := y.dueAt v (v * 2 ^ x.act.pre + y.presc), auxAt := if adv && x.act.aux = v then some s.time.dtime else x.auxAt })
      t.when adv (·.put (R.PWM_CNT_CNT c) v)

/-- COUNTER_PER_MATCH (R352): the counter enters PER. -/
def execCounterPerMatch (c : Course) (s : State) : Host.Outcome State Fault Refusal :=
  if s.carrierOn c && (s.pwm c).due.getLsbD 1 then done ((s.clearDue c 1).pwmEvent c 1) else done s

/-- The delay line of a course's fine edges (spec/11). -/
def lineOf (c : Course) : Fin 2 := ⟨c.val / 2 % 2, Nat.mod_lt _ (by decide)⟩

/-- Whether the delay line of a course is locked (R72). -/
def State.lineLocked (s : State) (n : Fin 2) : Bool := s.on (if n = 0 then R.TIME_STAT_DL0_LOCK else R.TIME_STAT_DL1_LOCK)

/-- An edge of pair k of course c at its tap: courses 0 to 3 place it by their delay line when the line is locked and the effective high time
has taps (R68, R72, R344, R345, R357). -/
def State.fineEdge (s : State) (c : Course) (k : Fin 3) : Bool :=
  decide (c.val < 4) && (s.pwm c).teff[k] != 0 && s.lineLocked (lineOf c)

/-- A delay line has placed an edge in this beat (R345). -/
def State.markLine (s : State) (c : Course) : State :=
  { s with stage := { s.stage with dlEdge := s.stage.dlEdge.set (lineOf c) (some s.time.dtime) } }

/-- COMPARE_EDGE (R343 to R345, R352, R357): the counter reaches CMPk, or the beat to which the filter has moved the edge of pair k; the
reference falls. -/
def execCompareEdge (c : Course) (k : Fin 3) (s : State) : Host.Outcome State Fault Refusal :=
  let d := (s.pwm c).due
  if s.carrierOn c && (d.getLsbD (2 + k.val) || d.getLsbD (6 + k.val)) then
    let t := (s.clearDue c (2 + k.val)).clearDue c (6 + k.val)
    let t := t.when (d.getLsbD (6 + k.val)) (fun t =>
      (t.modPwm c (fun x => { x with ref := x.ref.set k false, sup := x.sup.set k false })).when (s.fineEdge c k) (·.markLine c))
    done ((t.when (d.getLsbD (2 + k.val)) (·.pwmEvent c (2 + k.val))).refresh c)
  else done s

/-- A delayed rise takes place in this beat: its dead time is over, and no machine halt holds it (R356, R361). -/
def State.riseDue (s : State) (h : HB) (high : Bool) : Bool :=
  let x := s.hb h
  (if high then x.dtH && x.dtHLeft == 0 else x.dtL && x.dtLLeft == 0) && (!s.halted || s.protects h)

/-- DEAD_TIME_RISE (R356, R361, R385, R396, R533): a delayed rise takes place; held says that the opposite gate is still above
2.0 V. The low side's rise after a fall at a tap falls at that tap too. -/
def execDeadTimeRise (h : HB) (high held : Bool) (s : State) : Host.Outcome State Fault Refusal :=
  let c := courseOf h
  let y := s.pwm c
  let fine := !high && (s.hb h).src = 0 && decide (y.heff[pairOf h] < y.act.beats) && s.fineEdge c (pairOf h)
  if s.riseDue h high then done ((s.rise h high held).when fine (·.markLine c)) else done s

/-- INTERLOCK_RISE (R396): a rise held by the interlock begins. -/
def execInterlockRise (h : HB) (high : Bool) (s : State) : Host.Outcome State Fault Refusal :=
  let x := s.hb h
  if if high then x.ilH else x.ilL then done (s.rise h high false) else done s

/-! ## Commutation -/

/-- The ring length (spec/12). -/
def State.ringLen (s : State) (c : Course) : Nat := s.get (R.PWM_MCFG_RLEN c) + 1

/-- The place of a commutation among those of one beat (R369): SET governs, then HALL, BEMF, and ADV or RET. -/
def CommutKind.place : CommutKind → Nat
  | .set _ => 0
  | .hall _ => 1
  | .bemf _ => 2
  | .step _ => 3

/-- The index a commutation gives from index i in a ring of n (R364). -/
def CommutKind.next (k : CommutKind) (n i : Nat) : Nat :=
  match k with
  | .set j | .hall j => j
  | .bemf up | .step up => if up then (i + 1) % n else (i % n + n - 1) % n

/-- The index that the commutations of one beat give from index i (R369). -/
def commutIndex (ks : List CommutKind) (n i : Nat) : Nat :=
  match ks.find? (fun k => k.place == 0) with
  | some k => k.next n i
  | none => (ks.mergeSort (fun a b => decide (a.place ≤ b.place))).foldl (fun i k => k.next n i) i

/-- Raise a commutation (R364, R368, R369): one that is due in this beat takes effect first; another that waits is replaced, and those of one
beat follow their order. -/
def State.commute (s : State) (c : Course) (k : CommutKind) : State :=
  let s := s.takeDue c
  let x := s.pwm c
  let same := x.wait.any (fun w => w.beat == s.time.dtime)
  let old := if same then x.waitOld else x.wait
  let ks := if same then x.raised ++ [k] else [k]
  let isSet := ks.any (fun k => k.place == 0)
  let mt := s.get (R.PWM_MCFG_MTAKE c)
  let take := if isSet then 0 else if mt = 2 ∧ x.act.per < x.act.aux then 1 else mt
  let base := (old.map (·.idx)).getD (s.get (R.PWM_MSTAT_IDX c))
  let t := s.when x.wait.isSome (·.bump (R.PWM_MSTAT_MMERGE c))
  (t.modPwm c (fun y => { y with
    wait := some { idx := commutIndex ks (s.ringLen c) base, take := take, isSet := isSet, beat := s.time.dtime }, raised := ks, waitOld := old })).put
      (R.PWM_MSTAT_PEND c) 1

/-- A write of PWMc_MCMD (R364, R367): more than one of SET, ADV and RET, or a SET index beyond the ring, has no effect. -/
def State.writeMcmd (s : State) (m : Master) (c : Course) (v : Word) : State :=
  if s.barred m c true then s.put (R.PWM_STAT_WREJ c) 1
  else
    let idx := getBits v 0 3
    let n := s.ringLen c
    match getBits v 3 3 with
    | 1 => if idx < n then s.commute c (.set idx) else s
    | 2 => s.commute c (.step true)
    | 4 => s.commute c (.step false)
    | _ => s

/-- MASK_SET (R364, R367). -/
def execMaskSet (m : Master) (c : Course) (idx : BitVec 3) (s : State) : Host.Outcome State Fault Refusal :=
  done (s.writeMcmd m c (Word.ofN (8 + idx.toNat)))

/-- MASK_ADVANCE (R364). -/
def execMaskAdvance (m : Master) (c : Course) (s : State) : Host.Outcome State Fault Refusal := done (s.writeMcmd m c 0x10#48)

/-- MASK_RETREAT (R364). -/
def execMaskRetreat (m : Master) (c : Course) (s : State) : Host.Outcome State Fault Refusal := done (s.writeMcmd m c 0x20#48)

/-- COMMUTATION_TAKE_EFFECT (R368, R370): the waiting commutation, in the beat that its timing rule gives. -/
def execCommutationTakeEffect (c : Course) (s : State) : Host.Outcome State Fault Refusal := done (s.takeDue c)

/-- The Hall commutation of a registered state: its sector, or an invalid state, whatever MSRC holds (R364, R365, R519). -/
def State.hallCommut (s : State) (c : Course) (sector : Option Nat) : State :=
  match sector with
  | some n => s.when (s.get (R.PWM_MCFG_MSRC c) == 1) (·.commute c (.hall ((n + s.get (R.PWM_MCFG_MOFS c)) % 6)))
  | none =>
    let t := s.put (R.PWM_MSTAT_HINV c) 1
    if s.on (R.PWM_MCFG_HINVF c) then (t.modPwm c (fun x => { x with floatAll := true })).refresh c else t

/-- Whether the pair's crossing passes the blanking of BBLK (R366). -/
def State.crossingOpen (s : State) (c : Course) : Bool :=
  decide (s.get (R.PWM_MCFG_BBLK c) ≤ (s.time.dtime - (s.pwm c).lastEdge).toNat)

/-- Arm the BEMF delay at a crossing of a pair (R366). -/
def State.armBemf (s : State) (c : Course) (k : Fin 3) : State :=
  let fl := ([0, 1, 2] : List (Fin 3)).filter (fun j => (s.pairState c j).1 == 0)
  if s.get (R.PWM_MCFG_MSRC c) = 2 ∧ fl = [k] ∧ s.crossingOpen c ∧ !(s.pwm c).bemfArmed then
    s.modPwm c (fun x => { x with bemfArmed := true, bemfLeft := s.get (R.PWM_MCFG_CDLY c) })
  else s

/-- BEMF_DELAY_EXPIRY (R364): CDLY beats have passed since the crossing that armed the delay. -/
def execBemfDelayExpiry (c : Course) (s : State) : Host.Outcome State Fault Refusal :=
  if (s.pwm c).bemfArmed && (s.pwm c).bemfLeft == 0 && s.get (R.PWM_MCFG_MSRC c) = 2 && !s.halted then
    done ((s.modPwm c (fun x => { x with bemfArmed := false })).commute c (.bemf (!s.on (R.PWM_MCFG_BDIR c))))
  else done s

/-- One beat of what a course and its half-bridges count down (R356, R361, R364, R400, R403, R404, R418); a machine halt holds all but the
dead time of a reaction. -/
def State.courseBeat (s : State) (c : Course) : State :=
  let hold := s.halted
  let t := if hold then s else s.modPwm c (fun x => { x with
    bemfLeft := x.bemfLeft - 1, winLeft := x.winLeft - 1, sgAge := x.sgAge + 1 })
  [hbOf c 0, hbOf c 1, hbOf c 2].foldl (fun t h =>
    let x := t.hb h
    if hold && !s.protects h then t
    else
      let y := { x with dtHLeft := x.dtHLeft - 1, dtLLeft := x.dtLLeft - 1 }
      let y := if hold then y else { y with guardLeft := x.guardLeft - 1, seen := #v[(x.xp, x.xe), x.seen[0], x.seen[1]] }
      if y = x then t else (t.setHb h y).when (y.seen != x.seen) (·.refreshHb h)) t

/-! ## Writes of the registers of a course -/

/-- A write of PWMc_OUT (R20, R372, R376, R378). -/
def State.writeOut (s : State) (c : Course) (v : Word) : State :=
  let a := RW.PWM_OUT c
  let old := s.reg a
  let fs := (regRow a).elim [] (·.fields)
  let new := writeFields fs old v
  let pairOld := getBits old 8 2
  let rej := getBits new 8 2 ≠ pairOld ∧ (s.running c ∨ getBits old 0 2 = 2)
  let new := if rej then setBits new 8 2 pairOld else new
  let t := (s.setReg a new).when (decide rej) (·.put (R.PWM_MSTAT_CFGREJ c) 1)
  if getBits old 4 2 ≠ 0 ∧ getBits new 4 2 = 0 then (t.when (t.running c) (·.modPwm c (fun x => { x with waitCapo := true }))).refresh c
  else t.refresh c

/-- A write of PWMc_SYNC: SEN with MASTER equal to c leaves the register unchanged (R351). -/
def State.writeSync (s : State) (c : Course) (v : Word) : State :=
  let a := RW.PWM_SYNC c
  if getBits v 0 1 = 1 ∧ getBits v 1 3 = c.val then s
  else s.setReg a (writeFields ((regRow a).elim [] (·.fields)) (s.reg a) v)

/-- A write of PWMc_SSHUNT: setting SSEN without the auxiliary compare is refused (R379, R52). -/
def State.writeSshunt (s : State) (c : Course) (v : Word) : State :=
  let a := RW.PWM_SSHUNT c
  let rej := getBits v 0 1 = 1 ∧ !s.on (R.PWM_SSHUNT_SSEN c) ∧ s.get (R.PWM_AUXOWN_OWNER c) ≠ 1
  let v' := if rej then setBits v 0 1 0 else v
  let t := s.setReg a (writeFields ((regRow a).elim [] (·.fields)) (s.reg a) v')
  t.when (decide rej) (·.conflict 2 c.val 1)

/-- Whether the present owner of an auxiliary compare is enabled (R53, R379, R419, R818). -/
def State.auxInUse (s : State) (c : Course) : Bool :=
  let o := s.get (R.PWM_AUXOWN_OWNER c)
  (o = 1 && (s.on (R.PWM_SSHUNT_SSEN c) || s.on (R.FADC_UMASK_MASK c)))
    || (16 ≤ o && o < 24 && (s.get (R.PROTC_BLK_WEN (o - 16))).testBit c.val)

/-- A write of PWMc_AUXOWN (R20, R53, R354, R379, R419). -/
def State.writeAuxown (s : State) (c : Course) (v : Word) : State :=
  let o := getBits v 0 8
  if !(o = 0 || o = 1 || (16 ≤ o && o < 24 && o ≠ 16 + c.val)) then s
  else if o ≠ s.get (R.PWM_AUXOWN_OWNER c) ∧ s.auxInUse c then s.conflict 2 c.val o
  else s.put (R.PWM_AUXOWN_OWNER c) o

/-- A write of PROTc_BLK (R418, R419): a WEN bit of a course that is not the owner's window is refused. -/
def State.writeBlk (s : State) (c : Course) (v : Word) : State :=
  let want := getBits v 0 8
  let old := s.get (R.PROTC_BLK_WEN c)
  let bad := allCourses.filter (fun p : Course => want.testBit p.val && !old.testBit p.val && s.get (R.PWM_AUXOWN_OWNER p.val) != 16 + c.val)
  let new := bad.foldl (fun n p => n ^^^ (1 <<< p.val)) want
  let t := s.setReg (RW.PROTC_BLK c) (setBits (writeFields ((regRow (RW.PROTC_BLK c)).elim [] (·.fields)) (s.reg (RW.PROTC_BLK c)) v) 0 8 new)
  let t := bad.foldl (fun t p => t.conflict 2 p.val (16 + c.val)) t
  (allCourses.filter (fun p => !new.testBit p.val && (s.pwm p).win = some c)).foldl (fun t p => t.closeWindow p) t

end Sys2Proof.Machine
end

