-- ==== Sys2Proof/Machine/GateRows.lean ====
section
/-!
DEFINITION. Machine/GateRows.lean: the commands of gate supplies, command sources and gate faults (spec/13), and the writes of
their registers.
-/
namespace Sys2Proof.Machine

/-! ## Gate supplies -/

/-- A lock-out that has recovered ends, with ARST 1, or when nothing holds it (R394); the courses of its domain follow. -/
def State.followLock (s : State) (d : Dom) (was : Bool) : State :=
  let x := s.dom d
  let t := if s.on (R.GDRV_DOM_CTL_ARST d) && !x.vcpLow && !x.vglLow && s.on (R.GDRV_DOM_STAT_RDY d) then s.modDom d (fun x => { x with latched := false })
    else s
  if was && !t.lockedOut d then t.endLock d else t.refreshDom d

/-- GATE_SUPPLY_READY (R389, R394): both supplies of an enabled domain have stayed above their thresholds. -/
def execGateSupplyReady (d : Dom) (s : State) : Host.Outcome State Fault Refusal :=
  if s.on (R.GDRV_DOM_CTL_EN d) && s.pwr.mode = .run && !s.on (R.GDRV_DOM_STAT_RDY d) then
    let t := (s.modDom d (fun x => { x with vcpLow := false, vglLow := false })).put (R.GDRV_DOM_STAT_RDY d) 1
    done (t.followLock d true)
  else done s

/-- GATE_SUPPLY_LOCKOUT (R392, R393, R395, R431): a supply of an enabled domain falls below its threshold. -/
def execGateSupplyLockout (d : Dom) (vgl : Bool) (s : State) : Host.Outcome State Fault Refusal :=
  if s.shadowing then done s else
  let x := s.dom d
  if s.on (R.GDRV_DOM_CTL_EN d) && s.watching && !(if vgl then x.vglLow else x.vcpLow) then
    let t := s.modDom d (fun x =>
      { (if vgl then { x with vglLow := true } else { x with vcpLow := true }) with latched := true })
    let t := (t.put (if vgl then R.GDRV_DOM_STAT_VGLUV d else R.GDRV_DOM_STAT_VCPUV d) 1).bump (R.GDRV_DOM_STAT_UVCNT d)
    let t := ((t.put (R.GDRV_DOM_STAT_RDY d) 0).assertEv 104).refreshDom d
    done ((t.jotCond (0x11 + d.val) 1).trip 5 false (domCourses d) 0)
  else done s

/-- GATE_SUPPLY_RECOVERY (R391, R394): a supply has recovered; with ARST the lock-out ends once both have. The pumps run in RUN alone
(R389). -/
def execGateSupplyRecovery (d : Dom) (vgl : Bool) (s : State) : Host.Outcome State Fault Refusal :=
  if s.shadowing then done s else
  let x := s.dom d
  if s.pwr.mode = .run && (if vgl then x.vglLow else x.vcpLow) then
    let t := s.modDom d (fun x => if vgl then { x with vglLow := false } else { x with vcpLow := false })
    let up := !(t.dom d).vglLow && !(t.dom d).vcpLow && t.on (R.GDRV_DOM_CTL_EN d)
    done ((t.when up (·.put (R.GDRV_DOM_STAT_RDY d) 1)).followLock d (s.lockedOut d))
  else done s

/-- A write of GDRV_DOMd_CTL (R389, R390, R394, R395): a latched lock-out outlives a domain that is switched off. -/
def State.writeDomCtl (s : State) (d : Dom) (v : Word) : State :=
  let en := getBits v 0 1
  let used := (domCourses d).any (fun c => s.on (R.PWM_OUT_OUTEN c))
  let rej := en = 0 ∧ s.on (R.GDRV_DOM_CTL_EN d) ∧ used
  let t := (s.put (R.GDRV_DOM_CTL_ARST d) (getBits v 1 1)).when (decide rej) (·.put R.GDRV_STAT_CFGREJ 1)
  let t := if rej then t else t.put (R.GDRV_DOM_CTL_EN d) en
  let t := if t.on (R.GDRV_DOM_CTL_EN d) then t
    else (t.put (R.GDRV_DOM_STAT_RDY d) 0).modDom d (fun x => { x with vcpLow := false, vglLow := false })
  let x := t.dom d
  let clear := getBits v 2 1 = 1 && x.latched && !x.vcpLow && !x.vglLow
  (t.when clear (·.modDom d (fun x => { x with latched := false }))).followLock d (s.lockedOut d)

/-- UVCLR (R394): a write of GDRV_DOMd_CTL that sets UVCLR and keeps its other fields. -/
def execUvclr (_m : Master) (d : Dom) (s : State) : Host.Outcome State Fault Refusal :=
  done (s.writeDomCtl d (setBits (s.reg (RW.GDRV_DOM_CTL d)) 2 1 1))

/-! ## Command sources -/

/-- EXTERNAL_PIN_LEVEL (R400, R361): the level of a pin changes, and governs the command three beats later; enable selects XEh, otherwise
XPh. -/
def execExternalPinLevel (h : HB) (enable level : Bool) (s : State) : Host.Outcome State Fault Refusal :=
  done (s.modHb h (fun x => if enable then { x with xe := level } else { x with xp := level }))

/-- A write of GDRV_SGCc (R20, R401, R402, R403, R406). -/
def State.writeSgc (s : State) (m : Master) (c : Course) (v : Word) : State :=
  let tok := BitVec.ofNat 4 (getBits v 8 4)
  if s.barred m c true then s.put R.GDRV_STAT_WREJ 1
  else if (s.pwm c).tok = some tok then s.bump R.GDRV_STAT_SGDUP
  else
    let set (t : State) (k : Fin 3) : State :=
      let x := getBits v (2 * k.val) 2
      if x = 1 then t else t.put (serialState c k) x
    let t := ((set (set (set s 0) 1) 2).put (R.GDRV_SGC_TOKEN c) tok.toNat)
    (t.modPwm c (fun x => { x with tok := some tok, sgOff := false, sgAge := 0 })).refresh c

/-- SERIAL_GATE_COMMAND (R401, R402): a write of GDRV_SGCc. -/
def execSerialGateCommand (m : Master) (c : Course) (v : Word) (s : State) : Host.Outcome State Fault Refusal :=
  done (s.writeSgc m c v)

/-- No serial write of a course has been accepted for SGTO microseconds while a half-bridge of it needs one (R403). -/
def State.sgDue (s : State) (c : Course) : Bool :=
  s.on R.GDRV_SGCFG_SGTO && s.get (R.PWM_OUT_OUTEN c) = 2 && !s.halted && !(s.pwm c).sgOff
    && [hbOf c 0, hbOf c 1, hbOf c 2].any (fun h => s.get (R.SRC h) == 2) && decide (240 * s.get R.GDRV_SGCFG_SGTO ≤ (s.pwm c).sgAge)

/-- SERIAL_GATE_TIMEOUT (R403, R361). -/
def execSerialGateTimeout (c : Course) (s : State) : Host.Outcome State Fault Refusal :=
  if s.sgDue c then done (((s.orF R.GDRV_STAT_SGTOUT (1 <<< c.val)).modPwm c (fun x => { x with sgOff := true })).refresh c) else done s

/-- Whether a ball names its external-pulse function (R405, R818). -/
def State.ballX (s : State) (n : Nat) : Bool := s.get (R.GPIO_FUNC_FUNC n) = 1

/-- A write of GDRV_SRC (R404, R405, R406). -/
def State.writeSrc (s : State) (m : Master) (v : Word) : State :=
  allHB.foldl (fun t (h : HB) =>
    let n := getBits v (2 * h.val) 2
    let old := s.get (R.SRC h)
    if n = 3 ∨ n = old then t
    else if s.barred m (courseOf h) false then t.put R.GDRV_STAT_WREJ 1
    else if n = 1 ∧ !s.ballX h.val then t.conflict 1 h.val 1
    else if n = 1 ∧ !s.ballX (24 + h.val) then t.conflict 1 (24 + h.val) 1
    else
      let a := (s.pwm (courseOf h)).act
      ((t.put (R.SRC h) n).modHb h (fun x => { x with guard := true, guardLeft := max a.dthl a.dtlh + 9 })).refreshHb h) s

/-- SOURCE_GUARD_END (R404): the guard of max(DTHL, DTLH) + 8 beats from the beat after the write is over, and the source last written
governs. -/
def execSourceGuardEnd (h : HB) (s : State) : Host.Outcome State Fault Refusal :=
  if (s.hb h).guard && (s.hb h).guardLeft == 0 && !s.halted then done ((s.modHb h (fun x => { x with guard := false, src := s.get (R.SRC h) })).refreshHb h) else done s

/-! ## Gate faults -/

/-- A check of a gate edge can fail now (R407): kind 1 after a command to switch on, 2 after one to switch off, 3 of a rise that the interlock
holds, each GFT beats after it. -/
def State.gateCheck (s : State) (h : HB) (high : Bool) (kind : BitVec 2) : Bool :=
  let x := s.hb h
  let on := if high then x.outH else x.outL
  let held := if high then x.ilH else x.ilL
  s.on (R.GDRV_HB_CFG_GFT h) && (if kind = 1 then on else if kind = 2 then !on && !held else kind == 3 && held)
    && s.since (if high then x.edgeH else x.edgeL) (s.get (R.GDRV_HB_CFG_GFT h))

/-- GATE_FAULT (R407, R408, R424, R431): kind 1 ONSLOW, 2 OFFSLOW, 3 INTERLOCK. -/
def execGateFault (h : HB) (high : Bool) (kind : BitVec 2) (s : State) : Host.Outcome State Fault Refusal :=
  if s.shadowing then done s else
  if s.gateCheck h high kind then
    let t := (s.when (s.on R.GDRV_GFLT_VALID) (·.bump R.GDRV_GFLT_COUNT)).record R.GDRV_GFLT_VALID [R.GDRV_GFLT_VALID.addr, R.GDRV_GFLT_TIME.addr]
      (fun t => (((((t.put R.GDRV_GFLT_VALID 1).put R.GDRV_GFLT_KIND kind.toNat).putB R.GDRV_GFLT_SIDE (!high)).put R.GDRV_GFLT_HB h.val).put
        R.GDRV_GFLT_COUNT 0).put R.GDRV_GFLT_TIME s.time.dtime.toNat)
    done ((t.assertEv 104).trip 4 (!high) [courseOf h] h.val)
  else done s

end Sys2Proof.Machine
end

