-- ==== Sys2Proof/Machine/Sched.lean ====
section
/-!
DEFINITION. Machine/Sched.lean: strand faults, machine faults and escalation (spec/10), the fret wheel, event lines, the
watchdog (spec/06) and breakpoints (spec/29 R794), with the commands of the scheduler.
-/
namespace Sys2Proof.Machine

/-! ## The fault log -/

/-- Fault-log entries on their way into MRAM. -/
def State.flogPending (s : State) : Nat :=
  (s.mem.persists.filter (fun p => match p.owner with | .faultLog _ => true | _ => false)).length

/-- Persist a fault-log entry of a type with the DTIME of its event and its words 2 and 3 (R337, R338, R339); esc marks an escalation's
entry. -/
def State.flogAt (s : State) (esc : Bool) (type : Nat) (at' w2 w3 : Word) : State :=
  let seq := s.get R.SCH_FLOGSEQ_SEQ + 1 + s.flogPending
  let slot := (s.mem.flogSlot + 1 + s.flogPending) % 512
  s.persist { owner := .faultLog esc, target := BitVec.ofNat 24 (0x7E000 + 8 * slot)
              data := [Word.ofN (seq % 2 ^ 40 + type * 2 ^ 40), at', w2, w3, 0, 0, 0, Word.ofN (seq % 2 ^ 40)] }

/-- An entry whose event is in this beat. -/
def State.flog (s : State) (esc : Bool) (type : Nat) (w2 w3 : Word) : State := s.flogAt esc type s.time.dtime w2 w3

/-! ## Escalation -/

/-- The order of the reset kinds, first that ranks highest (R135); the wake from REST ranks below all. Log entry 19, DEDUCED. -/
def resetRank : Nat → Nat
  | 1 => 0
  | 2 => 1
  | 4 => 2
  | 3 => 3
  | 5 => 4
  | 6 => 5
  | _ => 6

/-- A cause of a reset kind is recorded (R135). -/
def State.noteKind (s : State) (kind : Nat) : State := s.orF R.RST_STAT_HIST (1 <<< (kind - 1))

/-- A reset in progress ranks at least as high as a kind, so that it continues (R135). Log entry 19, DEDUCED. -/
def State.outranks (s : State) (kind : Nat) : Bool := s.pwr.kind != 0 && decide (resetRank s.pwr.kind ≤ resetRank kind)

/-- The reset kind that an escalation ends in by its source, and WDRSRC of a WDR (R135, R326). -/
def escKind (src : BitVec 2) : Nat := if src = 3 then 5 else 4
def escWdrsrc (src : BitVec 2) : BitVec 2 := if src = 1 then 1 else 2

/-- A further cause in an escalation leaves it unchanged but for MORE, while the entry's content is open (R337); a cause of a WDR in the
escalation of an SWR makes the reset that follows a WDR, which ranks above it (R135; log entry 18, DEDUCED). -/
def Escalation.further (e : Escalation) (src : BitVec 2) (up : Bool) : Escalation :=
  { e with more := e.more || !e.logged, wdrsrc := if up then escWdrsrc src else e.wdrsrc }

/-- Begin an escalation (R326, R327 G1), or note a further cause in the one in progress. From beat F its reset is in progress (R135, R326):
a cause that a reset in progress outranks is only recorded. -/
def State.escalate (s : State) (src : BitVec 2) (mcause : BitVec 4) (strand : BitVec 6) : State :=
  let kind := escKind src
  let t := s.noteKind kind
  match s.core.esc with
  | some e =>
    let up := kind == 4 && s.pwr.kind == 5
    { t with
      core := { t.core with esc := some (e.further src up) }
      pwr := if up then { t.pwr with kind := 4 } else t.pwr }
  | none =>
    if s.outranks kind then t
    else
      let t := t.jotEnd mcause.toNat
      ({ t with
        core := { t.core with
          issueOn := false, wdRun := false
          esc := some { f := t.time.dtime, src := src, wdrsrc := escWdrsrc src, mcause := mcause, strand := strand
                        atF := t.core.ops, doneAt := t.time.dtime } }
        pwr := { t.pwr with kind := kind }
        twin := { t.twin with tail := t.twTail } }).refreshAll

/-- Note the outcome of an operation that completes during an escalation (R327 G2, R331, R333): 1 DONE, 2 NOT-DONE, 3 UNKNOWN. -/
def State.noteOutcome (s : State) (id outcome : Nat) : State :=
  match s.core.esc with
  | some e =>
    if e.snapped then s
    else { s with core := { s.core with esc := some { e with outcomes := (id, outcome) :: e.outcomes, doneAt := s.time.dtime } } }
  | none => s

/-! ## Strand faults -/

/-- Set or clear a strand's bit of SCH_FLTSUM0 or SCH_FLTSUM1 (R319, R323, R324). -/
def State.fltSum (s : State) (i : StrandId) (on : Bool) : State :=
  let f := if i.val < 48 then R.SCH_FLTSUM0_F else R.SCH_FLTSUM1_F
  let b := 1 <<< (i.val % 48)
  let v := s.get f
  if v.testBit (i.val % 48) = on then s else s.put f (v ^^^ b)

/-- Count a user strand fault toward STORM, which is raised once in a millisecond, at the first fault that finds the count above the
threshold (R325; log entry 62, DESIGN CHOICE). -/
def State.storm (s : State) : State :=
  let same : Bool := s.core.stormMs == s.ms
  let n := (if same then s.core.stormCnt else 0) + 1
  let was := same && s.core.stormed
  let lim := s.get R.SCH_FLTCFG_STORM
  let hit := lim != 0 && decide (lim < n) && !was
  let t := { s with core := { s.core with stormMs := s.ms, stormCnt := n, stormed := was || hit } }
  if hit then
    if s.on R.SCH_FLTCFG_STORMACT then t.escalate 2 3 0 else (t.bump R.SCH_FLTSTAT_STORMS).assertEv 52
  else t

/-- Log a user strand fault, at most once per millisecond of DTIME (R338). -/
def State.logFault (s : State) (i : StrandId) (cause : Nat) (defer fetch : Bool) (ipc ea : BitVec 24) : State :=
  if !s.on R.SCH_FLTCFG_LOGUSER then s
  else if s.core.logMs = some s.ms then s.bump R.SCH_FLTSTAT_LOGSKIP
  else
    let t := s.flog false 1 (Word.ofN (i.val + cause * 2 ^ 8 + defer.toNat * 2 ^ 12 + fetch.toNat * 2 ^ 13))
      (Word.ofN (ipc.toNat + ea.toNat * 2 ^ 24))
    { t with core := { t.core with logMs := some t.ms } }

/-- A strand faults (R233, R318 to R321, R325, R329, R338). A strand that debug holds halted faults in the state it returns
to. Log entry 25, DEDUCED. -/
def State.strandFault (s : State) (i : StrandId) (cause : Nat) (defer fetch : Bool) (ipc ea : BitVec 24) : State :=
  let x := s.strand i
  if defer && s.core.esc.isSome then s
  else if x.state = .faulted || (x.state = .halted && x.heldFrom = .faulted) then
    s.setStrand i { x with flt := { x.flt with more := true } }
  else
    let rec' : FaultRec := { cause := BitVec.ofNat 4 cause, defer := defer, fetch := fetch, ipc := ipc, ea := ea }
    let y := { x with flt := rec', waitEnd := .none, waitDl := none, stepping := false }
    let y := if x.state = .halted then { y with heldFrom := .faulted } else { y with state := .faulted }
    let t := ((s.setStrand i y).fltSum i true).bump R.SCH_FLTSTAT_COUNT
    let t := ((t.traceEv 6 i cause).assertEv 52).when (cause == 5) (·.bump R.XSP_STAT_XERR)
    if isSup i then t.escalate 2 1 (BitVec.ofNat 6 i.val)
    else (t.storm).logFault i cause defer fetch ipc ea

/-! ## The fret wheel -/

/-- The classes tried in a beat, first to last (R201 to R203). -/
def State.classOrder (s : State) : List (BitVec 2) :=
  let f := s.time.dtime.toNat % 16
  if f % 4 = 0 then [0, 1, 2, 3]
  else match s.get (R.HOME f) with
    | 1 => [1, 2, 3, 0]
    | 2 => [2, 1, 3, 0]
    | _ => [3, 1, 2, 0]

/-- The strand of a class that comes first by key and then by number, among those eligible (R204). -/
def State.firstOf (s : State) (elig : StrandId → Bool) (c : BitVec 2) : Option StrandId :=
  (List.finRange 64).foldl (fun b i =>
    if elig i && (s.strand i).cls = c then
      match b with
      | none => some i
      | some j => if ((s.strand i).key - (s.strand j).key).toInt < 0 then some i else b
    else b) none

/-- The strand that wins a beat's fret among the eligible ones (R203, R204). -/
def State.fretWinner (s : State) (elig : StrandId → Bool) : Option StrandId :=
  s.classOrder.findSome? (fun c => s.firstOf elig c)

/-- Strands that are RUNNABLE. -/
def State.runnable (s : State) (i : StrandId) : Bool := (s.strand i).state = .runnable

/-! ## Event lines -/

/-- EVSET (R215): a write of SCH_EVSET asserts the software event lines whose bits are set. -/
def execEvset (_m : Master) (v : Word) (s : State) : Host.Outcome State Fault Refusal := done (s.assertLines (v.setWidth 256))

/-- The strand is RUNNABLE with its wait completed (R212, R213, R311, R853). -/
def Strand.wake (x : Strand) (key : Word) : Strand :=
  match x.waitEnd with
  | .none => x
  | .line n =>
    { (x.wr x.waitRd (n.zeroExtend 48)) with
      pend := x.pend &&& ~~~(1#256 <<< n.toNat), state := .runnable, key := key, waitEnd := .none, waitDl := none }
  | .deadline => { (x.wr x.waitRd 0x100#48) with state := .runnable, key := key, waitEnd := .none, waitDl := none }

/-- The strand has nothing in flight, and its last operation did not complete in this beat (R199, R853). -/
def State.drained (s : State) (i : StrandId) : Bool := (s.opsOf i).isEmpty && (s.strand i).opEnd != some s.time.dtime

/-- The wait of a strand has ended in beat t, and the strand becomes RUNNABLE from the later of beat t + 5 and the beat after its last
operation completes (R213, R311, R853). -/
def State.wakeDue (s : State) (i : StrandId) : Bool :=
  let x := s.strand i
  (x.state = .waiting || (x.state = .draining && x.drainTo = .waiting)) && x.waitEnd != .none && s.drained i
    && reached s.time.dtime (x.waitAt + 5)

/-- The strand becomes RUNNABLE with its wait completed (R212, R213, R311, R853). -/
def State.wakeStrand (s : State) (i : StrandId) : State :=
  let x := s.strand i
  let data := match x.waitEnd with | .line n => n.toNat | _ => 0
  ((s.setStrand i (x.wake s.time.dtime)).traceEv 2 i data).checkC0

/-- STRAND_RUNNABLE (R212, R213, R311, R853). -/
def execStrandRunnable (i : StrandId) (s : State) : Host.Outcome State Fault Refusal := done (if s.wakeDue i then s.wakeStrand i else s)

/-- DEADLINE_REACHED (R311, R853): the deadline of a wait that no event has ended yet. -/
def execDeadlineReached (i : StrandId) (s : State) : Host.Outcome State Fault Refusal :=
  let x := s.strand i
  match x.inWait, x.waitEnd, x.waitDl with
  | true, .none, some d => if reached s.time.dtime d then done (s.setStrand i { x with waitEnd := .deadline, waitAt := s.time.dtime }) else done s
  | _, _, _ => done s

/-- A drain has ended, and no wait of the strand has (R197, R199, R853). -/
def State.drainDue (s : State) (i : StrandId) : Bool :=
  let x := s.strand i
  x.state = .draining && s.drained i && !(x.drainTo = .waiting && x.waitEnd != .none)

/-- The drain of a strand ends (R197, R199, R853). -/
def State.endDrain (s : State) (i : StrandId) : State := s.modStrand i (fun x => { x with state := x.drainTo })

/-- STRAND_DRAIN_END (R197, R199, R853): a DRAINING strand has nothing in flight. -/
def execStrandDrainEnd (i : StrandId) (s : State) : Host.Outcome State Fault Refusal := done (if s.drainDue i then s.endDrain i else s)

/-- Strands whose drain or wait is over at the start of a beat follow (R199, R213, R853). -/
def State.strandsDue (s : State) : State :=
  (List.finRange 64).foldl (fun t i => if t.wakeDue i then t.wakeStrand i else if t.drainDue i then t.endDrain i else t) s

/-! ## The watchdog -/

/-- The watchdog expires with a cause (R218, R326). -/
def State.wdExpire (s : State) (last : Nat) : State := (s.put R.SCH_WDSTAT_LAST last).escalate 1 4 0

/-- Milliseconds since the last counted kick. -/
def State.wdMs (s : State) : Nat := s.core.wdBeats / 240000

/-- The count has reached WDTO (R218); its window has opened (R217, R221). -/
def State.wdOver (s : State) : Bool := decide (s.get R.SCH_WDCFG_WDTO ≤ s.wdMs)
def State.wdInWindow (s : State) : Bool := decide (s.get R.SCH_WDCFG_WDMIN ≤ s.wdMs)

/-- The watchdog counts: in RUN and DOZE from the first user instruction, not in a machine halt (R217, R220). -/
def State.wdCounts (s : State) : Bool := s.core.wdRun && s.watching && !s.halted

/-- A write of SCH_WDKICK (R217, R218, R219): none before the watchdog has started; the expiry of the same beat wins (spec/06 At the edges). -/
def State.wdKick (s : State) (m : Master) (v : Word) : State :=
  let key := getBits v 0 16
  let want := if s.on R.SCH_WDSTAT_EXPECT then 0xC369 else 0x3C96
  let server := match m with | .strand i => decide (i.val = s.get R.SCH_WDCFG_STRAND) | _ => false
  if !s.core.wdRun && s.core.esc.isNone then s
  else if s.wdOver then (if s.core.esc.isSome then s else s.wdExpire 1)
  else if !server then s.wdExpire 4
  else if !s.wdInWindow then s.wdExpire 2
  else if key ≠ want then s.wdExpire 3
  else
    ({ s with core := { s.core with wdBeats := 0, wdOpen := false } }.put R.SCH_WDSTAT_EXPECT (1 - s.get R.SCH_WDSTAT_EXPECT)).put
      R.SCH_WDCFG_LOCK 1

/-- WDKICK (R217, R218): a write of SCH_WDKICK. -/
def execWdkick (m : Master) (v : Word) (s : State) : Host.Outcome State Fault Refusal := done (s.wdKick m v)

/-- The window opens (R221). -/
def State.wdWindow (s : State) : State :=
  if s.wdCounts && s.wdInWindow && !s.core.wdOpen then ({ s with core := { s.core with wdOpen := true } }).assertEv 51 else s

/-- The count reaches WDTO (R218, R220). -/
def State.wdTimeout (s : State) : State := s.when (s.wdCounts && s.wdOver) (·.wdExpire 1)

/-- WATCHDOG_WINDOW_OPEN (R221): the count has reached WDMIN. -/
def execWatchdogWindowOpen (s : State) : Host.Outcome State Fault Refusal := done s.wdWindow

/-- WATCHDOG_EXPIRY (R218, R220, R326, R327): the count has reached WDTO. -/
def execWatchdogExpiry (s : State) : Host.Outcome State Fault Refusal := done s.wdTimeout

/-- One beat of the watchdog (R217, R220). -/
def State.wdBeat (s : State) : State := if s.wdCounts then { s with core := { s.core with wdBeats := s.core.wdBeats + 1 } } else s

/-- A write of SCH_WDCFG (R20, R219). -/
def State.writeWdcfg (s : State) (v : Word) : State :=
  if s.on R.SCH_WDCFG_LOCK then s
  else
    let a := RW.SCH_WDCFG
    let new := writeFields ((regRow a).elim [] (·.fields)) (s.reg a) v
    if getBits new 24 16 < getBits new 8 16 then
      let t := s.setReg a new
      { t with core := { t.core with wdOpen := t.core.wdOpen && t.wdInWindow } }
    else s.setReg a (setBits (setBits new 8 16 (s.get R.SCH_WDCFG_WDTO)) 24 16 (s.get R.SCH_WDCFG_WDMIN))

/-- REGISTER_FILE_PARITY_ERROR (R325, R326): the RFERR machine fault, of strands that are powered. -/
def execRegisterFileParityError (i : StrandId) (s : State) : Host.Outcome State Fault Refusal :=
  if s.watching then done (s.escalate 2 2 (BitVec.ofNat 6 i.val)) else done s

/-! ## Snapshot -/

/-- The kind of an operation (R284), its target and its detail (R333). -/
def OpBody.kind : OpBody → Nat
  | .compute k _ _ _ _ _ => k
  | .rotate .. => 3
  | .atomic .. => 4
  | .persist .. => 5
  | .load .. => 6
  | .store .. => 7
  | .remote .. => 8
  | .nsend .. => 9
  | .svc .. => 10

def OpBody.target : OpBody → Nat
  | .compute _ rd _ _ _ _ => rd.toNat
  | .rotate rd _ _ _ _ => rd.toNat
  | .atomic _ _ ea _ _ => ea.toNat
  | .persist _ dst _ _ => dst.toNat
  | .load _ ea => ea.toNat
  | .store ea _ => ea.toNat
  | .remote _ _ ea _ => ea.toNat
  | .nsend _ d _ => d.toNat
  | .svc _ n _ _ => n.toNat

def OpBody.detail : OpBody → Nat
  | .atomic f _ _ _ _ => f.toNat
  | .persist _ _ _ n => n - 1
  | .remote _ p _ v => p.val + (if v.isSome then 4 else 0)
  | .nsend _ _ lin => lin.toNat
  | _ => 0

/-- The outcome of an operation in flight at F when the drain ends: 1 DONE, 2 NOT-DONE, 3 UNKNOWN (R333, R334). -/
def outcomeOf (e : Escalation) (now : List Op) (o : Op) : Nat :=
  match e.outcomes.find? (fun p => p.1 == o.id) with
  | some p => p.2
  | none =>
    let cur := (now.find? (fun q => q.id == o.id)).getD o
    match o.body, cur.stage with
    | .compute .., _ => 1
    | .rotate .., _ => 1
    | .remote .., .begun => 3
    | .svc .., .begun => 3
    | .persist .., .ended _ 0 _ => 1
    | .load .., .ended .. => 1
    | .store .., .ended .. => 1
    | .remote .., .ended _ 0 _ => 1
    | .nsend .., .ended _ 0 _ => 1
    | .svc .., .ended _ 0 _ => 1
    | _, _ => 2

/-- The operations in flight at F by strand and issue (R331). -/
def Escalation.ordered (e : Escalation) : List Op := (List.finRange 64).flatMap (fun i => e.atF.filter (fun o => o.str == i))

/-- Write snapshot entry k (R332). -/
def State.snapEntry (s : State) (k : Nat) (o : Op) (out : Nat) : State :=
  (s.put (R.SCH_SNAPE0_W k) (o.body.target + o.pc.toNat * 2 ^ 24)).put (R.SCH_SNAPE1_W k)
    (o.body.kind + out * 2 ^ 4 + o.str.val * 2 ^ 6 + o.body.detail * 2 ^ 12 + (o.issue.toNat % 2 ^ 32) * 2 ^ 16)

/-- Operations that have begun and not completed (R327 G2). -/
def State.stillBegun (s : State) : Bool := s.core.ops.any (fun o => o.stage != .waiting)

/-- G2 has ended: the last operation completed in an earlier beat than this, or 2,048 beats have passed since F (R327). -/
def State.drainOver (s : State) (e : Escalation) : Bool :=
  !e.snapped && ((!s.stillBegun && decide (0 < (s.time.dtime - e.doneAt).toInt)) || reached s.time.dtime (e.f + 2048))

/-- The outcomes of the operations in flight at F (R331, R333). -/
def State.outcomes (s : State) (e : Escalation) : List (Op × Nat) := e.ordered.map (fun o => (o, outcomeOf e s.core.ops o))

/-- G2 ends in this beat D, and the snapshot is written (R327, R331 to R335). -/
def State.escSnap (s : State) : State :=
  match s.core.esc with
  | none => s
  | some e =>
    if !s.drainOver e then s
    else
      let l := s.outcomes e
      let t := (s.setReg RW.SCH_SNAPHDR 0).put R.SCH_SNAPHDR_NENT l.length
      let t := (t.put R.SCH_SNAPHDR_RCOUNT (satAdd 16 (s.get R.RST_STAT_COUNT) 1)).put R.SCH_SNAPHDR_SRC e.src.toNat
      let t := (t.putB R.SCH_SNAPHDR_DRAINFULL s.stillBegun).put R.SCH_SNAPTIME_F e.f.toNat
      let t := t.forN 128 (fun k t => match l[k]? with
        | some p => t.snapEntry k p.1 p.2
        | none => (t.put (R.SCH_SNAPE0_W k) 0).put (R.SCH_SNAPE1_W k) 0)
      { t with core := { t.core with esc := some { e with
          snapped := true, d := s.time.dtime, outcomes := l.map (fun p => (p.1.id, p.2)) } } }

/-- ESCALATION_DRAIN_END (R327 G2 and G3, R331 to R335). -/
def execEscalationDrainEnd (s : State) : Host.Outcome State Fault Refusal := done s.escSnap

/-- G4 from beat D + 16 on: the escalation entry goes to the fault log, with its event at beat F (R327, R335, R337). Log entry 18, DEDUCED. -/
def State.escLog (s : State) : State :=
  match s.core.esc with
  | none => s
  | some e =>
    if !e.snapped || e.logged || !reached s.time.dtime (e.d + 16) then s
    else
      let cnt (n : Nat) : Nat := (e.outcomes.filter (fun p => p.2 == n)).length
      let last := if e.mcause = 4 then s.get R.SCH_WDSTAT_LAST * 2 ^ 8 else 0
      let w2 := Word.ofN (e.mcause.toNat + last + e.strand.toNat * 2 ^ 16 + e.more.toNat * 2 ^ 24)
      let w3 := Word.ofN (cnt 1 + cnt 2 * 2 ^ 8 + cnt 3 * 2 ^ 16 + s.get R.SCH_SNAPHDR_DRAINFULL * 2 ^ 24)
      ({ s with core := { s.core with esc := some { e with logged := true } } }).flogAt true 2 e.f w2 w3

/-! ## Halts and breakpoints -/

/-- Put a strand in HALTED (R197, R789). -/
def State.haltStrand (s : State) (i : StrandId) : State :=
  let x := s.strand i
  if x.state = .halted ∨ x.state = .free then s
  else (s.setStrand i { x with state := .halted, heldFrom := x.state }).traceEv 8 i 0

/-- Start a machine halt with its cause (R790). -/
def State.haltMachine (s : State) (cause : Nat) : State := (s.put R.DBG_STAT_MH 1).put R.DBG_STAT_CAUSE cause

/-- The breakpoints that match an access of a strand: kinds 0 fetch, 1 load, 2 store (R794). -/
def State.bpMatch (s : State) (i : StrandId) (kind a : Nat) : List Nat :=
  (List.range 4).filter (fun k =>
    s.on (R.DBG_BP_EN k) && s.get (R.DBG_BP_ADDR k) = a && (s.on (R.DBG_BP_ANY k) || s.get (R.DBG_BP_STRAND k) = i.val)
      && (s.get (R.DBG_BP_KIND k) = kind || (s.get (R.DBG_BP_KIND k) = 3 && kind ≠ 0)))

/-- Matched breakpoints halt the strand or the machine (R794). -/
def State.bpHalt (s : State) (i : StrandId) (ks : List Nat) : State :=
  let t := ks.foldl (fun t k => t.orF R.DBG_STAT_BPHIT (1 <<< k)) s
  let t := if ks.any (fun k => s.on (R.DBG_BP_ACT k)) then t.haltMachine 2 else t.haltStrand i
  (t.put R.DBG_STAT_CAUSE 2).assertEv 54

end Sys2Proof.Machine
end

