-- ==== Sys2Proof/Machine/Xip.lean ====
section
/-!
DEFINITION. Machine/Xip.lean: the prefetch lines and fill frames of the execute-in-place window (spec/23 R645 to R650).
-/
namespace Sys2Proof.Machine

def State.setFlash (s : State) (f : Flash) : State := { s with flash := f }

/-- Whether an XIP word lies beyond the flash size or the template's address width (R645). -/
def State.xipBad (s : State) (a : Nat) : Bool :=
  let b := 6 * (a - 0x800000) + 5
  decide (2 ^ s.get R.XSP_CTL_SZ ≤ b) || decide (2 ^ (8 * (s.get R.XSP_XTPL_ADDRB + 1)) ≤ b)

/-- The line that holds a block of 16 words. -/
def Flash.lineOf (f : Flash) (blk : Nat) : Option (Fin 8) := (List.finRange 8).find? (fun k => f.lines[k].tag == some blk)

/-- A hit: the word of a line (R646). -/
def Flash.hit (f : Flash) (a : Nat) : Option Word :=
  match f.lineOf (a / 16) with
  | some k => if f.lines[k].valid.getLsbD (a % 16) then some (f.lines[k].words[a % 16]'(Nat.mod_lt _ (by decide))) else none
  | none => none

/-- Mark the line of an address as used (R647). -/
def Flash.touch (f : Flash) (a : Nat) : Flash :=
  match f.lineOf (a / 16) with
  | some k => { f with lines := f.lines.set k { f.lines[k] with used := f.uses + 1 }, uses := f.uses + 1 }
  | none => f

/-- Whether a strand waits for a word of a block (R647). -/
def Flash.awaited (f : Flash) (blk : Nat) : Bool := f.misses.any (fun p => p.2 / 16 == blk)

/-- The line a fill of a new block replaces (R647): the lowest that holds no valid word, else the least recently used one that
no strand waits for. -/
def Flash.victim (f : Flash) : Fin 8 :=
  match (List.finRange 8).find? (fun k => f.lines[k].valid == 0) with
  | some k => k
  | none =>
    (((List.finRange 8).filter (fun k => match f.lines[k].tag with | some b => !f.awaited b | none => true)).foldl
      (fun b k => match b with
        | none => some k
        | some j => if f.lines[k].used < f.lines[j].used then some k else b) none).getD 0

/-- Give a block a line, the one it has or the one it replaces (R647). -/
def Flash.alloc (f : Flash) (blk : Nat) : Flash :=
  match f.lineOf blk with
  | some k => { f with lines := f.lines.set k { f.lines[k] with used := f.uses + 1 }, uses := f.uses + 1 }
  | none => { f with lines := f.lines.set f.victim { tag := some blk, used := f.uses + 1 }, uses := f.uses + 1 }

/-- Whether the port can start a fill: no frame runs and software holds no lock (R649, R655). -/
def State.xipIdle (s : State) : Bool :=
  s.flash.fill.isNone && !s.flash.lockReq && !s.on R.XSP_LOCK_HELD && !s.on R.XSP_STAT_SFBUSY

/-- Start the fill of the oldest miss when the port is free (R647, R649). -/
def State.startFill (s : State) : State :=
  match s.flash.misses with
  | [] => s
  | (_, a) :: _ =>
    if !s.xipIdle then s
    else
      let blk := a / 16
      let f := s.flash.alloc blk
      let pre := s.on R.XSP_CTL_PFEN && (f.lineOf (blk + 1)).isNone
      s.setFlash { f with fill := some { next := a, last := 16 * blk + 15 + (if pre then 16 else 0) } }

/-- End the fill in progress after the word it is transferring, or after the last word a strand waits for (R649). -/
def Flash.cutFill (f : Flash) : Flash :=
  match f.fill with
  | some x =>
    let need := (f.misses.filter (fun p => decide (x.next ≤ p.2 ∧ p.2 ≤ x.last))).foldl (fun m p => max m p.2) x.next
    { f with fill := some { x with last := min x.last need } }
  | none => f

/-- An XIP access that misses (R647, R649). -/
def State.xipMiss (s : State) (i : StrandId) (a : Nat) : State :=
  let f := s.flash
  let covered := match f.fill with | some x => decide (x.next ≤ a ∧ a ≤ x.last) | none => false
  let f := if covered then f else f.cutFill
  let t := (s.setFlash { f with misses := f.misses ++ [(i, a)], missAt := f.missAt ++ [(i, s.time.dtime)] }).bump R.XSP_STAT_MISS
  t.startFill

/-- Every line becomes invalid (R650, R658); words that strands wait for are still delivered. -/
def State.xipInvalidate (s : State) : State :=
  let f := s.flash
  let g := f.cutFill
  s.setFlash { g with lines := Vector.replicate 8 {}, fill := g.fill.map (fun x => { x with stale := true }) }

/-- The strand waits no longer for its XIP word. -/
def State.dropMiss (s : State) (i : StrandId) : State :=
  s.setFlash { s.flash with misses := s.flash.misses.filter (fun p => p.1 != i), missAt := s.flash.missAt.filter (fun p => p.1 != i) }

end Sys2Proof.Machine
end

