-- ==== Sys2Proof/Machine/Issue.lean ====
section
/-!
DEFINITION. Machine/Issue.lean: how a strand issues an instruction: eligibility, pending registers, in-flight limits, faults
at issue and at fetch, breakpoints, and the queueing of long operations (spec/06, spec/07, spec/09).
-/
namespace Sys2Proof.Machine

/-- The registers an operation will write (R231, R284). -/
def OpBody.dests : OpBody → List (BitVec 5)
  | .compute _ rd _ _ _ _ => [rd]
  | .rotate rd _ _ _ _ => [rd, rd + 1]
  | .atomic _ rd _ _ _ => [rd]
  | .persist rd _ _ _ => [rd]
  | .load rt _ => [rt]
  | .store .. => []
  | .remote rd _ _ none => [rd, rd + 1]
  | .remote rd _ _ (some _) => [rd]
  | .nsend rd _ _ => [rd]
  | .svc rd _ _ _ => [rd]

/-- Whether a register is the pending destination of an operation of the strand; w0 never is (R231). -/
def State.pendingReg (s : State) (i : StrandId) (r : BitVec 5) : Bool := r != 0 && (s.opsOf i).any (fun o => o.body.dests.contains r)

/-- Whether the power state lets strands issue (R111). -/
def State.strandsLive (s : State) : Bool := s.pwr.mode = .run || s.pwr.mode = .doze

/-- Whether a strand can issue at all: it is RUNNABLE with no machine halt, or a debug step runs it; no XIP word is awaited,
issue is not stopped (R111, R197, R203, R279, R327, R790, R792). -/
def State.canIssue (s : State) (i : StrandId) : Bool :=
  let x := s.strand i
  s.core.issueOn && s.core.esc.isNone && s.strandsLive && x.xipWait.isNone
    && ((x.state = .runnable && !s.halted) || (x.state = .halted && x.stepping))

/-- The fault of the strand's fetch at its PC, if any (R160 to R162, R206, R230, R645). -/
def State.fetchFault (s : State) (i : StrandId) : Option Nat :=
  let x := s.strand i
  if region x.pc.toNat = .xip then
    if x.cls = 0 then some causePROT else if s.xipBad x.pc.toNat then some causeXIPERR else none
  else accessFault (isSup i) .fetch x.pc.toNat

/-- The instruction at a PC in the XIP window is not held in a line (R646, R650). -/
def State.fetchMiss (s : State) (i : StrandId) : Bool :=
  let a := (s.strand i).pc.toNat
  region a = .xip && (s.flash.hit a).isNone

/-- A fetch that misses waits for its word, which one miss asks for (R647, R650). -/
def State.missFetch (s : State) (i : StrandId) : State :=
  if s.flash.misses.any (fun p => p.1 == i) then s else s.xipMiss i (s.strand i).pc.toNat

/-- A fetch from the XIP window uses its line (R647). -/
def State.touchFetch (s : State) (i : StrandId) : State :=
  if region (s.strand i).pc.toNat = .xip then s.setFlash (s.flash.touch (s.strand i).pc.toNat) else s

/-- Whether debug holds the strand's bit of DBG_SHALT0 or DBG_SHALT1 (R789). -/
def State.shalted (s : State) (i : StrandId) : Bool :=
  if i.val < 48 then (s.get R.DBG_SHALT0_S).testBit i.val else (s.get R.DBG_SHALT1_S).testBit (i.val - 48)

/-- A strand after it has issued an instruction: its key is this beat (R204); a debug step ends (R792). -/
def Strand.issued (x : Strand) (now : Word) : Strand := { x with key := now, stepping := false }

/-- PC moves to the next word (R230). -/
def Strand.next (x : Strand) : Strand := { x with pc := x.pc + 1 }

/-- Show the end of a debug step (R792). -/
def State.stepEnd (s : State) (stepped : Bool) : State := s.when stepped (·.put R.DBG_STAT_CAUSE 3)

/-- An issue attempt: it does nothing while the strand is not eligible, halts at a set halt bit or a fetch breakpoint, faults at a fetch that
is not allowed or an encoding that is not, and otherwise runs the instruction (R197, R231, R251, R789, R794). Log entry 3, DESIGN CHOICE. -/
def State.issue (s : State) (i : StrandId) (regs : List (BitVec 5)) (bad : Bool) (run : State → State) : State :=
  let x := s.strand i
  if !s.canIssue i || regs.any (s.pendingReg i) then s
  else if !x.stepping && s.shalted i then s.haltStrand i
  else
    let bps := if x.stepping then [] else s.bpMatch i 0 x.pc.toNat
    if !bps.isEmpty then s.bpHalt i bps
    else match s.fetchFault i with
      | some c => (s.strandFault i c false true x.pc x.pc).stepEnd x.stepping
      | none =>
        if s.fetchMiss i then s.missFetch i
        else if bad then ((s.touchFetch i).strandFault i causeILL false false x.pc 0).stepEnd x.stepping
        else
          let t := run ((s.touchFetch i).noteIssue i)
          t.stepEnd (x.stepping && !(t.strand i).stepping)

/-- Issue a short instruction whose whole effect is on its own strand (R229, R232). -/
def State.issueShort (s : State) (i : StrandId) (regs : List (BitVec 5)) (bad : Bool) (f : Strand → Strand) : State :=
  s.issue i regs bad (fun t => t.setStrand i ((f (t.strand i)).next.issued t.time.dtime))

/-- Issue an instruction that sets PC itself (R252, R281). -/
def State.issueBranch (s : State) (i : StrandId) (regs : List (BitVec 5)) (bad : Bool) (f : Strand → Strand) : State :=
  s.issue i regs bad (fun t => t.setStrand i ((f (t.strand i)).issued t.time.dtime))

/-- Whether the in-flight limits bar a long operation of the strand (R207). -/
def State.limited (s : State) (i : StrandId) : Bool :=
  decide (2 ≤ (s.opsOf i).length) || decide (128 ≤ s.core.ops.length)
    || ((s.strand i).cls != 0 && decide (120 ≤ (s.core.ops.filter (fun o => (s.strand o.str).cls != 0)).length))

/-- Put an operation in flight (R284, R286). -/
def State.launch (s : State) (i : StrandId) (body : OpBody) (stage : OpStage) : State :=
  { s with core := { s.core with
      ops := s.core.ops ++ [{ id := s.core.nextOp, str := i, pc := (s.strand i).pc, issue := s.time.dtime, body := body, stage := stage }]
      nextOp := s.core.nextOp + 1 } }

/-- The strand moves past a long operation it has issued. -/
def State.advance (s : State) (i : StrandId) : State := s.modStrand i (fun x => x.next.issued s.time.dtime)

/-- Issue a long operation (R207, R285): the limits count a lost fret, a fault at issue is taken, and the operation is in
flight with its body and stage. fault gives a cause and the address that caused it. -/
def State.issueLong (s : State) (i : StrandId) (regs : List (BitVec 5)) (bad : Bool) (fault : Option (Nat × BitVec 24))
    (body : OpBody) (stage : OpStage) (extra : State → State) : State :=
  if s.canIssue i && !regs.any (s.pendingReg i) && s.limited i && !s.shalted i then s.bump R.SCH_CNT_LIMSTALL
  else s.issue i regs bad (fun t =>
    match fault with
    | some (c, ea) => t.strandFault i c false false (t.strand i).pc ea
    | none => (extra (t.launch i body stage)).advance i)

end Sys2Proof.Machine
end

