-- ==== Sys2Proof/Machine/Compute.lean ====
section
/-!
DEFINITION. Machine/Compute.lean: the short compute instructions of Ibben-48 (spec/08), each by the encoding its entry allows
and the operation of Machine/Alu.lean. s is the state, i the strand, x the instruction's fields.
-/
namespace Sys2Proof.Machine

/-- ADD: rd := ra + rb (R264, R265). -/
def execAdd (i : StrandId) (x : FmtA) (s : State) : Host.Outcome State Fault Refusal :=
  done (s.issueShort i [x.rd, x.ra, x.rb] (x.unused true true true true true true false false false)
    (fun t => t.doAdd x.rd (t.rd x.ra) (t.rd x.rb) 0 x.f x.s x.u))

/-- SUB: rd := ra - rb (R264, R265). -/
def execSub (i : StrandId) (x : FmtA) (s : State) : Host.Outcome State Fault Refusal :=
  done (s.issueShort i [x.rd, x.ra, x.rb] (x.unused true true true true true true false false false)
    (fun t => t.doSub x.rd (t.rd x.ra) (t.rd x.rb) 0 x.f x.s x.u))

/-- ADC: rd := ra + rb + C (R264, R265). -/
def execAdc (i : StrandId) (x : FmtA) (s : State) : Host.Outcome State Fault Refusal :=
  done (s.issueShort i [x.rd, x.ra, x.rb] (x.unused true true true true true true false false false)
    (fun t => t.doAdd x.rd (t.rd x.ra) (t.rd x.rb) t.st.c.toNat x.f x.s x.u))

/-- SBC: rd := ra - rb - C (R264, R265). -/
def execSbc (i : StrandId) (x : FmtA) (s : State) : Host.Outcome State Fault Refusal :=
  done (s.issueShort i [x.rd, x.ra, x.rb] (x.unused true true true true true true false false false)
    (fun t => t.doSub x.rd (t.rd x.ra) (t.rd x.rb) t.st.c.toNat x.f x.s x.u))

/-- NEG: rd := 0 - ra; rb and U unused (R264, R266). -/
def execNeg (i : StrandId) (x : FmtA) (s : State) : Host.Outcome State Fault Refusal :=
  done (s.issueShort i [x.rd, x.ra] (x.unused true true false true true false false false false)
    (fun t => t.doSub x.rd 0 (t.rd x.ra) 0 x.f x.s false))

/-- ABS: rd := the magnitude of ra; rb and U unused (R264, R266). -/
def execAbs (i : StrandId) (x : FmtA) (s : State) : Host.Outcome State Fault Refusal :=
  done (s.issueShort i [x.rd, x.ra] (x.unused true true false true true false false false false)
    (fun t => t.doAbs x.rd (t.rd x.ra) x.f x.s))

/-- MIN: rd := the lesser; S unused (R264). -/
def execMin (i : StrandId) (x : FmtA) (s : State) : Host.Outcome State Fault Refusal :=
  done (s.issueShort i [x.rd, x.ra, x.rb] (x.unused true true true true false true false false false)
    (fun t => t.doLogic x.rd (pickMin x.u (t.rd x.ra) (t.rd x.rb)) x.f))

/-- MAX: rd := the greater; S unused (R264). -/
def execMax (i : StrandId) (x : FmtA) (s : State) : Host.Outcome State Fault Refusal :=
  done (s.issueShort i [x.rd, x.ra, x.rb] (x.unused true true true true false true false false false)
    (fun t => t.doLogic x.rd (pickMax x.u (t.rd x.ra) (t.rd x.rb)) x.f))

/-- AND: rd := ra AND rb; S and U unused (R267). -/
def execAnd (i : StrandId) (x : FmtA) (s : State) : Host.Outcome State Fault Refusal :=
  done (s.issueShort i [x.rd, x.ra, x.rb] (x.unused true true true true false false false false false)
    (fun t => t.doLogic x.rd (t.rd x.ra &&& t.rd x.rb) x.f))

/-- OR: rd := ra OR rb; S and U unused (R267). -/
def execOr (i : StrandId) (x : FmtA) (s : State) : Host.Outcome State Fault Refusal :=
  done (s.issueShort i [x.rd, x.ra, x.rb] (x.unused true true true true false false false false false)
    (fun t => t.doLogic x.rd (t.rd x.ra ||| t.rd x.rb) x.f))

/-- XOR: rd := ra XOR rb; S and U unused (R267). -/
def execXor (i : StrandId) (x : FmtA) (s : State) : Host.Outcome State Fault Refusal :=
  done (s.issueShort i [x.rd, x.ra, x.rb] (x.unused true true true true false false false false false)
    (fun t => t.doLogic x.rd (t.rd x.ra ^^^ t.rd x.rb) x.f))

/-- ANDN: rd := ra AND NOT rb; S and U unused (R267). -/
def execAndn (i : StrandId) (x : FmtA) (s : State) : Host.Outcome State Fault Refusal :=
  done (s.issueShort i [x.rd, x.ra, x.rb] (x.unused true true true true false false false false false)
    (fun t => t.doLogic x.rd (t.rd x.ra &&& ~~~(t.rd x.rb)) x.f))

/-- ORN: rd := ra OR NOT rb; S and U unused (R267). -/
def execOrn (i : StrandId) (x : FmtA) (s : State) : Host.Outcome State Fault Refusal :=
  done (s.issueShort i [x.rd, x.ra, x.rb] (x.unused true true true true false false false false false)
    (fun t => t.doLogic x.rd (t.rd x.ra ||| ~~~(t.rd x.rb)) x.f))

/-- XNOR: rd := NOT (ra XOR rb); S and U unused (R267). -/
def execXnor (i : StrandId) (x : FmtA) (s : State) : Host.Outcome State Fault Refusal :=
  done (s.issueShort i [x.rd, x.ra, x.rb] (x.unused true true true true false false false false false)
    (fun t => t.doLogic x.rd (~~~(t.rd x.ra ^^^ t.rd x.rb)) x.f))

/-- SHL: rd := ra shifted left by rb bits 5:0, saturating when S (R246, R268). -/
def execShl (i : StrandId) (x : FmtA) (s : State) : Host.Outcome State Fault Refusal :=
  done (s.issueShort i [x.rd, x.ra, x.rb] (x.unused true true true true true true false false false)
    (fun t => t.doShl x.rd (t.rd x.ra) (shiftCount (t.rd x.rb)) x.f x.s x.u))

/-- SHR: logical right shift; S and U unused (R246, R268, R269). -/
def execShr (i : StrandId) (x : FmtA) (s : State) : Host.Outcome State Fault Refusal :=
  done (s.issueShort i [x.rd, x.ra, x.rb] (x.unused true true true true false false false false false)
    (fun t => t.doShr x.rd (t.rd x.ra) (shiftCount (t.rd x.rb)) x.f))

/-- ASR: arithmetic right shift; S and U unused (R246, R268, R269). -/
def execAsr (i : StrandId) (x : FmtA) (s : State) : Host.Outcome State Fault Refusal :=
  done (s.issueShort i [x.rd, x.ra, x.rb] (x.unused true true true true false false false false false)
    (fun t => t.doAsr x.rd (t.rd x.ra) (shiftCount (t.rd x.rb)) x.f))

/-- ROR: rotate right by count mod 48; S and U unused (R246, R268, R269). -/
def execRor (i : StrandId) (x : FmtA) (s : State) : Host.Outcome State Fault Refusal :=
  done (s.issueShort i [x.rd, x.ra, x.rb] (x.unused true true true true false false false false false)
    (fun t => t.doRor x.rd (t.rd x.ra) (shiftCount (t.rd x.rb)) x.f))

/-- ASRR: right shift rounded by RM; S and U unused (R246, R268, R269). -/
def execAsrr (i : StrandId) (x : FmtA) (s : State) : Host.Outcome State Fault Refusal :=
  done (s.issueShort i [x.rd, x.ra, x.rb] (x.unused true true true true false false false false false)
    (fun t => t.doAsrr x.rd (t.rd x.ra) (shiftCount (t.rd x.rb)) x.f))

/-- LEN from 1 to 48 and POS + LEN at most 48 (R270). -/
def badField (len : BitVec 6) (imm : BitVec 10) : Bool :=
  decide (len.toNat < 1) || decide (48 < len.toNat) || decide (48 < imm.toNat % 64 + len.toNat)

/-- EXTU: bits POS+LEN-1:POS of ra, zero-extended (R270). -/
def execExtu (i : StrandId) (len : BitVec 6) (x : FmtA) (s : State) : Host.Outcome State Fault Refusal :=
  done (s.issueShort i [x.rd, x.ra] (x.unused true true false true false false false false true || decide (64 ≤ x.imm.toNat) || badField len x.imm)
    (fun t => t.doLogic x.rd (fieldU (t.rd x.ra) x.imm.toNat len.toNat) x.f))

/-- EXTS: bits POS+LEN-1:POS of ra, sign-extended (R270). -/
def execExts (i : StrandId) (len : BitVec 6) (x : FmtA) (s : State) : Host.Outcome State Fault Refusal :=
  done (s.issueShort i [x.rd, x.ra] (x.unused true true false true false false false false true || decide (64 ≤ x.imm.toNat) || badField len x.imm)
    (fun t => t.doLogic x.rd (fieldS (t.rd x.ra) x.imm.toNat len.toNat) x.f))

/-- INS: bits POS+LEN-1:POS of rd := bits LEN-1:0 of ra (R270). -/
def execIns (i : StrandId) (len : BitVec 6) (x : FmtA) (s : State) : Host.Outcome State Fault Refusal :=
  done (s.issueShort i [x.rd, x.ra] (x.unused true true false true false false false false true || decide (64 ≤ x.imm.toNat) || badField len x.imm)
    (fun t => t.doLogic x.rd (setBits (t.rd x.rd) x.imm.toNat len.toNat (t.rd x.ra).toNat) x.f))

/-- CLZ: leading zero bits of ra (R270). -/
def execClz (i : StrandId) (len : BitVec 6) (x : FmtA) (s : State) : Host.Outcome State Fault Refusal :=
  done (s.issueShort i [x.rd, x.ra] (x.unused true true false true false false false false false || len != 0)
    (fun t => t.doLogic x.rd (Word.ofN (clzLoop (t.rd x.ra) 48)) x.f))

/-- CTZ: trailing zero bits of ra (R270). -/
def execCtz (i : StrandId) (len : BitVec 6) (x : FmtA) (s : State) : Host.Outcome State Fault Refusal :=
  done (s.issueShort i [x.rd, x.ra] (x.unused true true false true false false false false false || len != 0)
    (fun t => t.doLogic x.rd (Word.ofN (ctzLoop (t.rd x.ra) 48)) x.f))

/-- POPC: one bits of ra (R270). -/
def execPopc (i : StrandId) (len : BitVec 6) (x : FmtA) (s : State) : Host.Outcome State Fault Refusal :=
  done (s.issueShort i [x.rd, x.ra] (x.unused true true false true false false false false false || len != 0)
    (fun t => t.doLogic x.rd (Word.ofN (popc (t.rd x.ra))) x.f))

/-- BREV: bit i of ra moved to bit 47 - i (R270). -/
def execBrev (i : StrandId) (len : BitVec 6) (x : FmtA) (s : State) : Host.Outcome State Fault Refusal :=
  done (s.issueShort i [x.rd, x.ra] (x.unused true true false true false false false false false || len != 0)
    (fun t => t.doLogic x.rd (brev (t.rd x.ra)) x.f))

/-- ADDI: rd := ra + imm (R271). -/
def execAddi (i : StrandId) (x : FmtI) (s : State) : Host.Outcome State Fault Refusal :=
  done (s.issueShort i [x.rd, x.ra] false
    (fun t => t.doAdd x.rd (t.rd x.ra) x.immWord 0 x.f x.s x.u))

/-- SUBI: rd := ra - imm (R271). -/
def execSubi (i : StrandId) (x : FmtI) (s : State) : Host.Outcome State Fault Refusal :=
  done (s.issueShort i [x.rd, x.ra] false
    (fun t => t.doSub x.rd (t.rd x.ra) x.immWord 0 x.f x.s x.u))

/-- ANDI: rd := ra AND imm; S must be 0 (R271). -/
def execAndi (i : StrandId) (x : FmtI) (s : State) : Host.Outcome State Fault Refusal :=
  done (s.issueShort i [x.rd, x.ra] x.s
    (fun t => t.doLogic x.rd (t.rd x.ra &&& x.immWord) x.f))

/-- ORI: rd := ra OR imm; S must be 0 (R271). -/
def execOri (i : StrandId) (x : FmtI) (s : State) : Host.Outcome State Fault Refusal :=
  done (s.issueShort i [x.rd, x.ra] x.s
    (fun t => t.doLogic x.rd (t.rd x.ra ||| x.immWord) x.f))

/-- XORI: rd := ra XOR imm; S must be 0 (R271). -/
def execXori (i : StrandId) (x : FmtI) (s : State) : Host.Outcome State Fault Refusal :=
  done (s.issueShort i [x.rd, x.ra] x.s
    (fun t => t.doLogic x.rd (t.rd x.ra ^^^ x.immWord) x.f))

/-- The shift of SHI by its type (R271). -/
def Strand.doShi (t : Strand) (x : FmtI) : Strand :=
  let a := t.rd x.ra
  let k := x.imm.toNat % 64
  match x.imm.toNat / 64 with
  | 0 => t.doShl x.rd a k x.f x.s x.u
  | 1 => t.doShr x.rd a k x.f
  | 2 => t.doAsr x.rd a k x.f
  | 3 => t.doRor x.rd a k x.f
  | _ => t.doAsrr x.rd a k x.f

/-- SHI: shift by an immediate count; types 5 to 7 and bits 28:9 other than zero are ILL, and S and U are used by type 0 only (R271). Log
entry 75, DESIGN CHOICE. -/
def execShi (i : StrandId) (x : FmtI) (s : State) : Host.Outcome State Fault Refusal :=
  done (s.issueShort i [x.rd, x.ra] (decide (5 ≤ x.imm.toNat / 64) || (x.imm.toNat / 64 != 0 && (x.s || x.u)))
    (fun t => t.doShi x))

/-- RSBI: rd := imm - ra (R271). -/
def execRsbi (i : StrandId) (x : FmtI) (s : State) : Host.Outcome State Fault Refusal :=
  done (s.issueShort i [x.rd, x.ra] false
    (fun t => t.doSub x.rd x.immWord (t.rd x.ra) 0 x.f x.s x.u))

/-- MUL: multiply to a word by AM; with AM 0b01 and 0b10 U must be 0 (R272). -/
def execMul (i : StrandId) (x : FmtA) (s : State) : Host.Outcome State Fault Refusal :=
  done (s.issueShort i [x.rd, x.ra, x.rb] (x.unused true true true true true true false true false || x.am == 3 || (x.am != 0 && x.u))
    (fun t => t.doMul x.rd (t.rd x.ra) (t.rd x.rb) x.am x.f x.s x.u))

/-- MULH: high 48 bits of the product; AM and S must be 0 (R272). -/
def execMulh (i : StrandId) (x : FmtA) (s : State) : Host.Outcome State Fault Refusal :=
  done (s.issueShort i [x.rd, x.ra, x.rb] (x.unused true true true true false true false false false)
    (fun t => t.doMulh x.rd (t.rd x.ra) (t.rd x.rb) x.f x.u))

/-- MULA: accumulator and aligned product; rd, F and S unused, U only with AM 0b00 (R242, R243, R273). -/
def execMula (i : StrandId) (x : FmtA) (s : State) : Host.Outcome State Fault Refusal :=
  done (s.issueShort i [x.ra, x.rb] (x.unused false true true false false true true true false || x.am == 3 || (x.am != 0 && x.u))
    (fun t => t.putAcc x.ac (aligned x.am x.u (t.rd x.ra) (t.rd x.rb))))

/-- MAC: accumulator and aligned product; rd, F and S unused, U only with AM 0b00 (R242, R243, R273). -/
def execMac (i : StrandId) (x : FmtA) (s : State) : Host.Outcome State Fault Refusal :=
  done (s.issueShort i [x.ra, x.rb] (x.unused false true true false false true true true false || x.am == 3 || (x.am != 0 && x.u))
    (fun t => t.putAcc x.ac ((t.acc x.ac).toInt + aligned x.am x.u (t.rd x.ra) (t.rd x.rb))))

/-- MSU: accumulator and aligned product; rd, F and S unused, U only with AM 0b00 (R242, R243, R273). -/
def execMsu (i : StrandId) (x : FmtA) (s : State) : Host.Outcome State Fault Refusal :=
  done (s.issueShort i [x.ra, x.rb] (x.unused false true true false false true true true false || x.am == 3 || (x.am != 0 && x.u))
    (fun t => t.putAcc x.ac ((t.acc x.ac).toInt - aligned x.am x.u (t.rd x.ra) (t.rd x.rb))))

/-- CLRA: accumulator := 0 (R273). -/
def execClra (i : StrandId) (x : FmtA) (s : State) : Host.Outcome State Fault Refusal :=
  done (s.issueShort i [] (x.unused false false false false false true true false false)
    (fun t => t.setAcc x.ac 0))

/-- NARW: rd := accumulator narrowed (R244, R274). -/
def execNarw (i : StrandId) (x : FmtA) (s : State) : Host.Outcome State Fault Refusal :=
  done (s.issueShort i [x.rd] (x.unused true false false true false false true true false || x.am == 3)
    (fun t => t.doNarw x.rd x.ac x.am x.f))

/-- MFAH: rd := accumulator bits 95:48 (R274). -/
def execMfah (i : StrandId) (x : FmtA) (s : State) : Host.Outcome State Fault Refusal :=
  done (s.issueShort i [x.rd] (x.unused true false false false false false true false false)
    (fun t => t.wr x.rd ((t.acc x.ac).extractLsb' 48 48)))

/-- MFAL: rd := accumulator bits 47:0 (R274). -/
def execMfal (i : StrandId) (x : FmtA) (s : State) : Host.Outcome State Fault Refusal :=
  done (s.issueShort i [x.rd] (x.unused true false false false false false true false false)
    (fun t => t.wr x.rd ((t.acc x.ac).extractLsb' 0 48)))

/-- MTA: accumulator := ra and rb (R274). -/
def execMta (i : StrandId) (x : FmtA) (s : State) : Host.Outcome State Fault Refusal :=
  done (s.issueShort i [x.ra, x.rb] (x.unused false true true false false false true false false)
    (fun t => t.setAcc x.ac (t.rd x.ra ++ t.rd x.rb)))

/-- CVQ24: Q1.47 to Q24.24 (R248, R275). -/
def execCvq24 (i : StrandId) (x : FmtA) (s : State) : Host.Outcome State Fault Refusal :=
  done (s.issueShort i [x.rd, x.ra] (x.unused true true false true false false false false false)
    (fun t => t.doConv x.rd (roundShift t.st.rm (t.rd x.ra).toInt 23) x.f))

/-- CVQ47: Q24.24 to Q1.47 (R248, R275). -/
def execCvq47 (i : StrandId) (x : FmtA) (s : State) : Host.Outcome State Fault Refusal :=
  done (s.issueShort i [x.rd, x.ra] (x.unused true true false true false false false false false)
    (fun t => t.doConv x.rd ((t.rd x.ra).toInt * 2 ^ 23) x.f))

/-- CVI24: s48 to Q24.24 (R248, R275). -/
def execCvi24 (i : StrandId) (x : FmtA) (s : State) : Host.Outcome State Fault Refusal :=
  done (s.issueShort i [x.rd, x.ra] (x.unused true true false true false false false false false)
    (fun t => t.doConv x.rd ((t.rd x.ra).toInt * 2 ^ 24) x.f))

/-- CV24I: Q24.24 to s48 (R248, R275). -/
def execCv24i (i : StrandId) (x : FmtA) (s : State) : Host.Outcome State Fault Refusal :=
  done (s.issueShort i [x.rd, x.ra] (x.unused true true false true false false false false false)
    (fun t => t.doConv x.rd (roundShift t.st.rm (t.rd x.ra).toInt 24) x.f))

/-- LI: a constant by P; P 0b11 is reserved (R253, R276). -/
def execLi (i : StrandId) (x : FmtK) (s : State) : Host.Outcome State Fault Refusal :=
  done (s.issueShort i [x.rd] (x.rsv != 0 || x.p == 3) (fun t => t.wr x.rd (liWord x.p x.imm (t.rd x.rd))))

/-- LIPC: rd := PC + IMM24, P 0b00 (R276). -/
def execLipc (i : StrandId) (x : FmtK) (s : State) : Host.Outcome State Fault Refusal :=
  done (s.issueShort i [x.rd] (x.rsv != 0 || x.p != 0) (fun t => t.wr x.rd ((t.pc + x.imm).zeroExtend 48)))

/-- LEA: rt := EA, with no access; MODE 0b000, 0b001 or 0b100 only (R277, R278). -/
def execLea (i : StrandId) (x : FmtM) (s : State) : Host.Outcome State Fault Refusal :=
  done (s.issueShort i [x.rt, x.ra, x.ri] (x.bad || !(x.mode == 0 || x.mode == 1 || x.mode == 4))
    (fun t => t.wr x.rt ((x.ea t).zeroExtend 48)))

/-- B: conditional branch with optional link (R238, R252). -/
def execB (i : StrandId) (x : FmtB) (s : State) : Host.Outcome State Fault Refusal :=
  done (s.issueBranch i [x.rl] (x.rsv != 0)
    (fun t => { (t.wr x.rl ((t.pc + 1).zeroExtend 48)) with pc := if t.st.cond x.cond then t.pc + x.off else t.pc + 1 }))

/-- BR: conditional indirect branch with optional link; ra is read before rd is written (R281). -/
def execBr (i : StrandId) (x : FmtA) (s : State) : Host.Outcome State Fault Refusal :=
  done (s.issueBranch i [x.rd, x.ra] (x.unused true true false false false false false false true || x.badCond)
    (fun t => { (t.wr x.rd ((t.pc + 1).zeroExtend 48)) with pc := if t.st.cond x.cond then lowAddr (t.rd x.ra) else t.pc + 1 }))

/-- CMP: flags of ra - rb (R282). -/
def execCmp (i : StrandId) (x : FmtA) (s : State) : Host.Outcome State Fault Refusal :=
  done (s.issueShort i [x.ra, x.rb] (x.unused false true true false false false false false false)
    (fun t => t.doSub 0 (t.rd x.ra) (t.rd x.rb) 0 true false false))

/-- CMN: flags of ra + rb (R282). -/
def execCmn (i : StrandId) (x : FmtA) (s : State) : Host.Outcome State Fault Refusal :=
  done (s.issueShort i [x.ra, x.rb] (x.unused false true true false false false false false false)
    (fun t => t.doAdd 0 (t.rd x.ra) (t.rd x.rb) 0 true false false))

/-- TST: flags of ra AND rb (R282). -/
def execTst (i : StrandId) (x : FmtA) (s : State) : Host.Outcome State Fault Refusal :=
  done (s.issueShort i [x.ra, x.rb] (x.unused false true true false false false false false false)
    (fun t => t.doLogic 0 (t.rd x.ra &&& t.rd x.rb) true))

/-- SEL: rd := ra or rb by COND (R282). -/
def execSel (i : StrandId) (x : FmtA) (s : State) : Host.Outcome State Fault Refusal :=
  done (s.issueShort i [x.rd, x.ra, x.rb] (x.unused true true true false false false false false true || x.badCond)
    (fun t => t.wr x.rd (if t.st.cond x.cond then t.rd x.ra else t.rd x.rb)))

/-- SETC: rd := 1 or 0 by COND (R282). -/
def execSetc (i : StrandId) (x : FmtA) (s : State) : Host.Outcome State Fault Refusal :=
  done (s.issueShort i [x.rd] (x.unused true false false false false false false false true || x.badCond)
    (fun t => t.wr x.rd (if t.st.cond x.cond then 1 else 0)))

/-- MFST: rd := ST (R282). -/
def execMfst (i : StrandId) (x : FmtA) (s : State) : Host.Outcome State Fault Refusal :=
  done (s.issueShort i [x.rd] (x.unused true false false false false false false false false)
    (fun t => t.wr x.rd t.st.word))

/-- MTST: ST := ra (R282). -/
def execMtst (i : StrandId) (x : FmtA) (s : State) : Host.Outcome State Fault Refusal :=
  done (s.issueShort i [x.ra] (x.unused false true false false false false false false false)
    (fun t => { t with st := Status.ofWord (t.rd x.ra) }))

/-- STCLR: ST bits named by IMM10 := 0 (R282). -/
def execStclr (i : StrandId) (x : FmtA) (s : State) : Host.Outcome State Fault Refusal :=
  done (s.issueShort i [] (x.unused false false false false false false false false true)
    (fun t => { t with st := Status.ofWord (t.st.word &&& ~~~(x.imm.zeroExtend 48)) }))

/-- STSET: ST bits named by IMM10 := 1 (R282). -/
def execStset (i : StrandId) (x : FmtA) (s : State) : Host.Outcome State Fault Refusal :=
  done (s.issueShort i [] (x.unused false false false false false false false false true)
    (fun t => { t with st := Status.ofWord (t.st.word ||| x.imm.zeroExtend 48) }))

end Sys2Proof.Machine
end

