-- ==== Sys2Proof/Machine/Rotate.lean ====
section
/-!
DEFINITION. Machine/Rotate.lean: the rotation unit (R294, R295). The exact results are computed in fixed point with 80 fraction bits; R295
leaves each result free within a bound about the exact one, so that Config chooses one of the steps within that bound (log entry 6, DESIGN
CHOICE).
-/
namespace Sys2Proof.Machine

/-- Half of pi with 80 fraction bits. -/
def halfPi : Int := 1898976236818169290393996

/-- k terms of a sine or cosine series with 80 fraction bits: t is the term of power n, v the square of the angle. -/
def trigTerms (v : Int) : Nat → Nat → Int → Int
  | 0, _, _ => 0
  | k + 1, n, t => t + trigTerms v k (n + 2) (-(t * v / 2 ^ 80) / ((n + 1) * (n + 2)))

/-- Sine and cosine of r / 2^46 quarter turns, 0 to 1, with 80 fraction bits. -/
def quarterSinCos (r : Nat) : Int × Int :=
  let u : Int := halfPi * r / 2 ^ 46
  let v := u * u / 2 ^ 80
  (trigTerms v 26 1 u, trigTerms v 26 0 (2 ^ 80))

/-- Sine and cosine of a turn angle (R239), with 80 fraction bits. -/
def turnSinCos (a : Word) : Int × Int :=
  let p := quarterSinCos (a.toNat % 2 ^ 46)
  match a.toNat / 2 ^ 46 with
  | 0 => p
  | 1 => (p.2, -p.1)
  | 2 => (-p.1, -p.2)
  | _ => (-p.2, p.1)

/-- A free step from lo to hi (R295, log entry 6, DESIGN CHOICE): op 0 sincos, 1 polar, 2 rotv; part 0 of rd, 1 of rd + 1. -/
def rotPick (op part : Nat) (a b c : Word) (rm : BitVec 2) (lo hi : Int) : Int :=
  lo + Config.rotErr op part a b c rm % (hi - lo + 1)

/-- A component within 2^-44 m + 1 steps of e (R295); e has 80 fraction bits and m has 40. -/
def rotPart (op part : Nat) (a b c : Word) (rm : BitVec 2) (e : Int) (m : Nat) : Int :=
  let bound : Int := m / 2 ^ 4 + 2 ^ 80
  rotPick op part a b c rm (-((bound - e) / 2 ^ 80)) ((e + bound) / 2 ^ 80)

/-- The magnitude of a vector, with 40 fraction bits (R295). -/
def magnitude (x y : Int) : Nat := isqrtLoop ((x.natAbs ^ 2 + y.natAbs ^ 2) * 2 ^ 80) 88 0

/-- Bits k-1:0 of the angle, in 2^-46 quarter turns, of a vector of the first quarter, above the angle r found so far. -/
def angleLoop (x y : Int) : Nat → Nat → Nat
  | 0, r => r
  | k + 1, r =>
    let p := quarterSinCos (r + 2 ^ k)
    if x * p.1 ≤ y * p.2 then angleLoop x y k (r + 2 ^ k) else angleLoop x y k r

/-- The angle of a vector of the first quarter, in 2^-46 quarter turns, rounded down; that of equal components is half of one. -/
def quarterAngle (x y : Int) : Nat := if x = y then 2 ^ 45 else angleLoop x y 46 0

/-- The angle of a vector that is not zero, in steps of a turn, rounded down. -/
def vectorAngle (x y : Int) : Nat :=
  if 0 < x ∧ 0 ≤ y then quarterAngle x y
  else if x ≤ 0 ∧ 0 < y then 2 ^ 46 + quarterAngle y (-x)
  else if x < 0 ∧ y ≤ 0 then 2 * 2 ^ 46 + quarterAngle (-x) (-y)
  else 3 * 2 ^ 46 + quarterAngle (-y) x

/-- The vector's angle is a whole number of steps: it lies on an axis or half way between two. -/
def wholeAngle (x y : Int) : Bool := x == 0 || y == 0 || x.natAbs == y.natAbs

/-- A component saturated to s48, and whether it was (R295). -/
def rotWord (e : Int) : Word × Bool := let r := clampInt e s48Min s48Max; (Word.ofS r.1, r.2)

/-- The results of a rotation, and SAT (R294, R295): op 0 sincos of angle a and magnitude b, 1 polar of (a, b), 2 rotv of (a, b) by c. An
angle of polar lies within 16 steps of the exact one. -/
def rotation (op : Nat) (a b c : Word) (rm : BitVec 2) : Word × Word × Bool :=
  let part (k : Nat) (e : Int) (m : Nat) : Word × Bool := rotWord (rotPart op k a b c rm e m)
  match op with
  | 0 =>
    let p := turnSinCos a
    let m := b.toInt.natAbs * 2 ^ 40
    let x := part 0 (b.toInt * p.2) m
    let y := part 1 (b.toInt * p.1) m
    (x.1, y.1, x.2 || y.2)
  | 1 =>
    let m := magnitude a.toInt b.toInt
    let t : Int := vectorAngle a.toInt b.toInt
    let y := part 1 (m * 2 ^ 40) m
    (Word.ofS (rotPick op 0 a b c rm (if wholeAngle a.toInt b.toInt then t - 16 else t - 15) (t + 16)), y.1, y.2)
  | _ =>
    let p := turnSinCos c
    let m := magnitude a.toInt b.toInt
    let x := part 0 (a.toInt * p.2 - b.toInt * p.1) m
    let y := part 1 (a.toInt * p.1 + b.toInt * p.2) m
    (x.1, y.1, x.2 || y.2)

end Sys2Proof.Machine
end

