-- ==== Sys2Proof/Machine/LongOps.lean ====
section
/-!
DEFINITION. Machine/LongOps.lean: loads and stores, the long operations of Ibben-48 and their completion, events, strands and
time (spec/08 R277 to R279, spec/09), faults of fetch and encoding (R251, R318).
-/
namespace Sys2Proof.Machine

/-! ## Loads and stores -/

/-- A load ends with its word: rt is written, the base written back unless it is rt, PC moves on, and a load breakpoint halts
(R254, R257, R794). -/
def State.endLoad (s : State) (i : StrandId) (x : FmtM) (ea : BitVec 24) (w : Word) : State :=
  let y := s.strand i
  let y := if x.rt = x.ra then y else x.writeBack y
  let key := if y.xipWait.isSome then y.key else s.time.dtime
  let t := (s.setStrand i { ((y.wr x.rt w).next.issued key) with xipWait := none }).stepEnd
    ((s.strand i).stepping && (s.strand i).xipWait.isSome)
  let ks := t.bpMatch i 1 ea.toNat
  if ks.isEmpty then t else t.bpHalt i ks

/-- A load of a word outside the peripheral region (R160 to R167, R190, R279). -/
def State.doLoad (s : State) (i : StrandId) (x : FmtM) (ea : BitVec 24) : State :=
  let pc := (s.strand i).pc
  match accessFault (isSup i) .load ea.toNat with
  | some c => s.strandFault i c false false pc ea
  | none =>
    match region ea.toNat with
    | .ram => match s.ramRead ea.toNat 0 i.val with
      | (some w, t) => t.endLoad i x ea w
      | (none, t) => t.strandFault i causeMEMERR false false pc ea
    | .rom => s.endLoad i x ea (Config.romWord ea.toNat)
    | .xip =>
      if s.xipBad ea.toNat then (s.strandFault i causeXIPERR false false pc ea)
      else match s.flash.hit ea.toNat with
        | some w => (s.setFlash (s.flash.touch ea.toNat)).endLoad i x ea w
        | none => (s.modStrand i (fun y => { y with xipWait := some (ea, x), key := s.time.dtime })).xipMiss i ea.toNat
    | _ => match s.mramRead ea.toNat 0 i.val with
      | (some w, t) => let r := t.liveLoad ea.toNat w; r.2.endLoad i x ea r.1
      | (none, t) => t.strandFault i causeMEMERR false false pc ea

/-- A store of a word outside the peripheral region (R160, R166, R192, R257, R794). -/
def State.doStore (s : State) (i : StrandId) (x : FmtM) (ea : BitVec 24) : State :=
  let y := s.strand i
  match accessFault (isSup i) .store ea.toNat with
  | some c => s.strandFault i c false false y.pc ea
  | none =>
    if s.fenceBars ea.toNat then s.strandFault i causePROT false false y.pc ea
    else
      let t := ((s.ramSet ea.toNat (y.rd x.rt)).noteStore ea.toNat [y.rd x.rt]).setStrand i ((x.writeBack y).next.issued s.time.dtime)
      let ks := t.bpMatch i 2 ea.toNat
      if ks.isEmpty then t else t.bpHalt i ks

/-- The fault of a peripheral access at issue (R161, R277). -/
def periphFault (i : StrandId) (k : AccKind) (ea : BitVec 24) : Option (Nat × BitVec 24) :=
  (accessFault (isSup i) k ea.toNat).map (fun c => (c, ea))

/-- Data breakpoints of a peripheral access, once it has issued (R794). -/
def State.bpAfter (s t : State) (i : StrandId) (kind : Nat) (ea : BitVec 24) : State :=
  if t.core.nextOp = s.core.nextOp then t
  else let ks := t.bpMatch i kind ea.toNat; if ks.isEmpty then t else t.bpHalt i ks

/-- LD (R254 to R257, R259, R277, R279). -/
def execLd (i : StrandId) (x : FmtM) (s : State) : Host.Outcome State Fault Refusal :=
  let ea := x.ea (s.strand i)
  if region ea.toNat = .periph then
    let t := s.issueLong i [x.rt, x.ra, x.ri] x.bad (periphFault i .load ea) (.load x.rt ea) .waiting
      (fun t => if x.rt = x.ra then t else t.modStrand i x.writeBack)
    done (s.bpAfter t i 1 ea)
  else done (s.issue i [x.rt, x.ra, x.ri] x.bad (fun t => t.doLoad i x ea))

/-- ST (R254 to R257, R259, R277). -/
def execSt (i : StrandId) (x : FmtM) (s : State) : Host.Outcome State Fault Refusal :=
  let y := s.strand i
  let ea := x.ea y
  if region ea.toNat = .periph then
    let t := s.issueLong i [x.rt, x.ra, x.ri] x.bad (periphFault i .store ea) (.store ea (y.rd x.rt)) .waiting
      (fun t => t.modStrand i x.writeBack)
    done (s.bpAfter t i 2 ea)
  else done (s.issue i [x.rt, x.ra, x.ri] x.bad (fun t => t.doStore i x ea))

/-! ## Division, square root and rotation -/

/-- Issue a division with its word, SAT and DZ (R292, R293). -/
def State.issueDiv (s : State) (i : StrandId) (x : FmtX) (r : Word × Bool × Bool) : State :=
  s.issueLong i [x.rd, x.ra, x.rb] (x.unused true true true false) none (.compute 1 x.rd r.1 r.2.1 r.2.2 false) .begun id

/-- Issue a square root with its word, SAT and DOM (R292, R293). -/
def State.issueRoot (s : State) (i : StrandId) (x : FmtX) (r : Word × Bool × Bool) : State :=
  s.issueLong i [x.rd, x.ra] (x.unused true true false false) none (.compute 2 x.rd r.1 r.2.1 false r.2.2) .begun id

/-- DIVS (R292, R293). -/
def execDivs (i : StrandId) (x : FmtX) (s : State) : Host.Outcome State Fault Refusal :=
  let t := s.strand i; done (s.issueDiv i x (divS (t.rd x.ra) (t.rd x.rb)))
/-- DIVU (R292, R293). -/
def execDivu (i : StrandId) (x : FmtX) (s : State) : Host.Outcome State Fault Refusal :=
  let t := s.strand i; done (s.issueDiv i x (divU (t.rd x.ra) (t.rd x.rb)))
/-- REMS (R292, R293). -/
def execRems (i : StrandId) (x : FmtX) (s : State) : Host.Outcome State Fault Refusal :=
  let t := s.strand i; done (s.issueDiv i x (remS (t.rd x.ra) (t.rd x.rb)))
/-- REMU (R292, R293). -/
def execRemu (i : StrandId) (x : FmtX) (s : State) : Host.Outcome State Fault Refusal :=
  let t := s.strand i; done (s.issueDiv i x (remU (t.rd x.ra) (t.rd x.rb)))
/-- DIVQ24 (R292, R293). -/
def execDivq24 (i : StrandId) (x : FmtX) (s : State) : Host.Outcome State Fault Refusal :=
  let t := s.strand i; done (s.issueDiv i x (divQ t.st.rm 24 (t.rd x.ra) (t.rd x.rb)))
/-- DIVQ47 (R292, R293). -/
def execDivq47 (i : StrandId) (x : FmtX) (s : State) : Host.Outcome State Fault Refusal :=
  let t := s.strand i; done (s.issueDiv i x (divQ t.st.rm 47 (t.rd x.ra) (t.rd x.rb)))
/-- ISQRT: the floor of the root of u48(ra) (R292). -/
def execIsqrt (i : StrandId) (x : FmtX) (s : State) : Host.Outcome State Fault Refusal :=
  done (s.issueRoot i x (Word.ofN (isqrt ((s.strand i).rd x.ra).toNat), false, false))
/-- SQRTQ24 (R292, R293). -/
def execSqrtq24 (i : StrandId) (x : FmtX) (s : State) : Host.Outcome State Fault Refusal :=
  let t := s.strand i; done (s.issueRoot i x (sqrtQ t.st.rm 24 (t.rd x.ra)))
/-- SQRTQ47 (R292, R293). -/
def execSqrtq47 (i : StrandId) (x : FmtX) (s : State) : Host.Outcome State Fault Refusal :=
  let t := s.strand i; done (s.issueRoot i x (sqrtQ t.st.rm 47 (t.rd x.ra)))

/-- Issue a rotation (R291, R294, R295); polar of (0, 0) returns zeros and sets DOM. -/
def State.issueRotate (s : State) (i : StrandId) (x : FmtX) (regs : List (BitVec 5)) (bad : Bool) (op : Nat) (a b c : Word) : State :=
  let rm := (s.strand i).st.rm
  let zero := op == 1 && a == 0 && b == 0
  let body : OpBody := if zero then .rotate x.rd 0 0 false true
    else let r := rotation op a b c rm; .rotate x.rd r.1 r.2.1 r.2.2 false
  s.issueLong i regs (bad || badPair x.rd) none body .begun id

/-- SINCOS (R294, R295). -/
def execSincos (i : StrandId) (x : FmtX) (s : State) : Host.Outcome State Fault Refusal :=
  let t := s.strand i
  done (s.issueRotate i x [x.rd, x.rd + 1, x.ra, x.rb] (x.unused true true true false) 0 (t.rd x.ra) (t.rd x.rb) 0)
/-- POLAR (R294, R295). -/
def execPolar (i : StrandId) (x : FmtX) (s : State) : Host.Outcome State Fault Refusal :=
  let t := s.strand i
  done (s.issueRotate i x [x.rd, x.rd + 1, x.ra, x.rb] (x.unused true true true false) 1 (t.rd x.ra) (t.rd x.rb) 0)
/-- ROTV (R294, R295). -/
def execRotv (i : StrandId) (x : FmtX) (s : State) : Host.Outcome State Fault Refusal :=
  let t := s.strand i
  done (s.issueRotate i x [x.rd, x.rd + 1, x.ra] (x.unused true true false false) 2 (t.rd x.rd) (t.rd (x.rd + 1)) (t.rd x.ra))

/-! ## RAM atomics -/

/-- Issue a RAM atomic (R192, R296, R297). -/
def State.issueAtomic (s : State) (i : StrandId) (x : FmtX) (fn : BitVec 3) : State :=
  let t := s.strand i
  let ea := lowAddr (t.rd x.ra) + x.simm
  let fault := match accessFault (isSup i) .atomic ea.toNat with
    | some c => some (c, ea)
    | none => if s.fenceBars ea.toNat then some (causePROT, ea) else none
  s.issueLong i [x.rd, x.ra, x.rb] (x.unused true true true true) fault (.atomic fn x.rd ea (t.rd x.rb) (t.rd x.rd)) .begun id

/-- AMSWAP (R296). -/
def execAmswap (i : StrandId) (x : FmtX) (s : State) : Host.Outcome State Fault Refusal := done (s.issueAtomic i x 0)
/-- AMADD (R296). -/
def execAmadd (i : StrandId) (x : FmtX) (s : State) : Host.Outcome State Fault Refusal := done (s.issueAtomic i x 1)
/-- AMAND (R296). -/
def execAmand (i : StrandId) (x : FmtX) (s : State) : Host.Outcome State Fault Refusal := done (s.issueAtomic i x 2)
/-- AMOR (R296). -/
def execAmor (i : StrandId) (x : FmtX) (s : State) : Host.Outcome State Fault Refusal := done (s.issueAtomic i x 3)
/-- AMXOR (R296). -/
def execAmxor (i : StrandId) (x : FmtX) (s : State) : Host.Outcome State Fault Refusal := done (s.issueAtomic i x 4)
/-- AMCAS (R296). -/
def execAmcas (i : StrandId) (x : FmtX) (s : State) : Host.Outcome State Fault Refusal := done (s.issueAtomic i x 5)

/-- The word an atomic writes (R296). -/
def atomicWord (fn : BitVec 3) (old src expect : Word) : Word :=
  match fn.toNat with
  | 0 => src
  | 1 => old + src
  | 2 => old &&& src
  | 3 => old ||| src
  | 4 => old ^^^ src
  | _ => if old = expect then src else old

/-! ## Persist -/

/-- The fault of a persist at issue (R160 to R162, R299): the first bad target, then the first bad source (log entry 63, DESIGN CHOICE). -/
def persistFault (i : StrandId) (dst src : BitVec 24) (n : Nat) : Option (Nat × BitVec 24) :=
  (List.range n).findSome? (fun k =>
      let a := dst + BitVec.ofNat 24 k
      (accessFault (isSup i) .persist a.toNat).map (fun c => (c, a))) <|>
  (List.range n).findSome? (fun k =>
      let a := src + BitVec.ofNat 24 k
      if region a.toNat = .ram then none else some (if unmapped a.toNat then causeADDR else causePROT, a))

/-- PERSIST (R173, R298 to R301): the persist waits for phase 1. -/
def execPersist (i : StrandId) (x : FmtX) (s : State) : Host.Outcome State Fault Refusal :=
  let t := s.strand i
  let n := x.imm.toNat % 16 + 1
  let dst := lowAddr (t.rd x.ra)
  let src := lowAddr (t.rd x.rb)
  done (s.issueLong i [x.rd, x.ra, x.rb] (x.unused true true true true || decide (16 ≤ x.imm.toNat)) (persistFault i dst src n)
    (.persist x.rd dst src n) .waiting
    (fun u => u.persist { owner := .op s.core.nextOp, target := dst, src := some src
                          data := (List.range n).map (fun k => s.ramAt (src.toNat + k)) }))

/-! ## Remote accesses -/

/-- A position is present in the chain (R305, R765): on the lead as PRES shows, on a follower as the census has told it, the lead always. -/
def State.inChain (s : State) (p : Nat) : Bool :=
  if s.chipPos = 0 then (s.get R.PEER_CSSTAT_PRES).testBit p else p == 0 || s.link.chain.getLsbD p

/-- How a remote access begins (R305): done at once with a code, or sent. -/
def State.remoteStage (s : State) (p : Chip) : OpStage :=
  if !s.cascade then .ended 0 7 0
  else if p.val = s.chipPos ∨ !s.inChain p.val then .ended 0 1 0
  else if !s.portUp p.val then .ended 0 4 0
  else .begun

/-- The request of a remote access that is sent leaves toward its target, with its number (R305, R306, R767). -/
def State.sendRemote (s : State) (p : Chip) (ea : BitVec 24) (v : List Word) (t : State) : State :=
  t.when (s.remoteStage p == .begun) (·.linkOut (decide (s.chipPos < p.val)) .remoteRequest ([Word.ofN p.val, Word.ofN s.core.nextOp, ea.zeroExtend 48] ++ v))

/-- RLD (R291, R304, R305). -/
def execRld (i : StrandId) (x : FmtX) (s : State) : Host.Outcome State Fault Refusal :=
  let p : Chip := ⟨x.imm.toNat % 4, Nat.mod_lt _ (by decide)⟩
  done (s.issueLong i [x.rd, x.rd + 1, x.ra] (x.unused true true false true || decide (4 ≤ x.imm.toNat) || badPair x.rd) none
    (.remote x.rd p (lowAddr ((s.strand i).rd x.ra)) none) (s.remoteStage p) (s.sendRemote p (lowAddr ((s.strand i).rd x.ra)) []))
/-- RST (R304, R305). -/
def execRst (i : StrandId) (x : FmtX) (s : State) : Host.Outcome State Fault Refusal :=
  let p : Chip := ⟨x.imm.toNat % 4, Nat.mod_lt _ (by decide)⟩
  let t := s.strand i
  done (s.issueLong i [x.rd, x.ra, x.rb] (x.unused true true true true || decide (4 ≤ x.imm.toNat)) none
    (.remote x.rd p (lowAddr (t.rd x.ra)) (some (t.rd x.rb))) (s.remoteStage p) (s.sendRemote p (lowAddr (t.rd x.ra)) [t.rd x.rb]))

/-! ## Completion -/

/-- Replace the operation with a number. -/
def State.modOp (s : State) (id : Nat) (f : Op → Op) : State :=
  { s with core := { s.core with ops := s.core.ops.map (fun o => if o.id = id then f o else o) } }
/-- The operation ends with a result word, a code and a detail; it then completes by LONG_OP_COMPLETE. -/
def State.endOp (s : State) (id : Nat) (res : Word) (code : BitVec 4) (detail : BitVec 8) : State :=
  s.modOp id (fun o => { o with stage := .ended res code detail })

/-- A completion status word (R289). -/
def State.csw (s : State) (code : BitVec 4) (detail : BitVec 8) : Word :=
  Word.ofN (code.toNat + detail.toNat * 2 ^ 8 + (s.time.dtime.toNat % 2 ^ 32) * 2 ^ 16)

/-- The operation leaves flight with its strand changed by f (R286), and its outcome is noted for a snapshot (R331). -/
def State.retireOp (s : State) (o : Op) (outcome : Nat) (f : Strand → Strand) : State :=
  ({ s with core := { s.core with ops := s.core.ops.filter (fun q => q.id != o.id) } }.modStrand o.str
    (fun x => { f x with opEnd := some s.time.dtime })).noteOutcome o.id outcome

/-- What an operation that has ended with a result word, a code and a detail writes (R286, R289, R305, R315). -/
def State.opWrites (s : State) (b : OpBody) (res : Word) (code : BitVec 4) (detail : BitVec 8) (x : Strand) : Strand :=
  match b with
  | .load rt _ => x.wr rt res
  | .remote rd _ _ none => (x.wr rd (if code = 0 then res else 0)).wr (rd + 1) (s.csw code detail)
  | .remote rd _ _ (some _) => x.wr rd (s.csw code detail)
  | .persist rd _ _ _ => x.wr rd (s.csw code detail)
  | .nsend rd _ _ => x.wr rd (s.csw code detail)
  | .svc rd _ _ _ => x.wr rd ((res <<< 4) ||| code.zeroExtend 48)
  | _ => x

/-- The operation with a number ends and completes at once, with the outcome that a snapshot shows (R171, R284, R305, R333). -/
def State.finishOp (s : State) (id : Nat) (res : Word) (code : BitVec 4) (detail : BitVec 8) (outcome : Nat) : State :=
  match s.core.ops.find? (fun o => o.id == id) with
  | some o => s.retireOp o outcome (s.opWrites o.body res code detail)
  | none => s

/-- An atomic is performed and completes (R225, R296, R297): a word that reads uncorrectable is a deferred fault. -/
def State.endAtomic (s : State) (o : Op) (fn : BitVec 3) (rd : BitVec 5) (ea : BitVec 24) (src expect : Word) : State :=
  match s.ramRead ea.toNat 0 o.str.val with
  | (some old, t) =>
    let v := atomicWord fn old src expect
    ((t.ramSet ea.toNat v).noteStore ea.toNat [v]).retireOp o 1 (fun x => x.wr rd old)
  | (none, t) => (t.retireOp o 2 id).strandFault o.str causeMEMERR true false o.pc ea

/-- Complete an operation (R286, R288 to R290, R315). -/
def State.complete (s : State) (o : Op) : State :=
  match o.body, o.stage with
  | .compute _ rd res sat dz dom, _ => s.retireOp o 1 (fun x => (x.wr rd res).sticky sat dz dom)
  | .rotate rd a b sat dom, _ => s.retireOp o 1 (fun x => ((x.wr rd a).wr (rd + 1) b).sticky sat false dom)
  | .atomic fn rd ea src expect, _ =>
    if s.core.ops.any (fun q => decide (q.id < o.id) && (match q.body with | .atomic _ _ e _ _ => e == ea | _ => false)) then s
    else s.endAtomic o fn rd ea src expect
  | b, .ended res code detail => s.retireOp o (if code = 0 then 1 else 2) (s.opWrites b res code detail)
  | _, _ => s

/-- The strand's remote access in flight that has been sent, as its operation k. -/
def State.sentRemote (s : State) (i : StrandId) (k : Fin 2) : Option Op :=
  match (s.opsOf i)[k.val]? with
  | some o => match o.body, o.stage with
    | .remote .., .begun => some o
    | _, _ => none
  | none => none

/-- REMOTE_ACCESS_REPLY (R305). -/
def execRemoteAccessReply (i : StrandId) (k : Fin 2) (r : RemoteReply) (s : State) : Host.Outcome State Fault Refusal :=
  match s.sentRemote i k with
  | none => done s
  | some o => match r with
    | .ok w => done (s.finishOp o.id w 0 0 1)
    | .addr => done (s.finishOp o.id 0 5 1 2)
    | .prot => done (s.finishOp o.id 0 5 2 2)

/-- REMOTE_ACCESS_TIMEOUT (R305, R333): 4,800 beats have passed since issue with no reply. -/
def execRemoteAccessTimeout (i : StrandId) (k : Fin 2) (s : State) : Host.Outcome State Fault Refusal :=
  match s.sentRemote i k with
  | none => done s
  | some o => done (if reached s.time.dtime (o.issue + 4799) then s.finishOp o.id 0 3 0 3 else s)

/-! ## Events and waiting -/

/-- SIG: lines 0 to 47 (R215, R310). -/
def execSig (i : StrandId) (x : FmtX) (s : State) : Host.Outcome State Fault Refusal :=
  done (s.issue i [] (x.unused false false false true || decide (48 ≤ x.imm.toNat))
    (fun t => (t.advance i).assertNext x.imm.toNat))

/-- What a wait does to its strand (R211, R212, R311, R853). -/
def Strand.doWait (x : Strand) (rd : BitVec 5) (dl : Option Word) (now : Word) (inflight : Bool) : Strand :=
  match lowestLine x.pend with
  | some n => { (x.wr rd (n.zeroExtend 48)) with pend := x.pend &&& ~~~(1#256 <<< n.toNat) }
  | none =>
    if dl.any (reached now) then x.wr rd 0x100#48
    else
      let y := { x with waitRd := rd, waitDl := dl, waitEnd := .none }
      if inflight then { y with state := .draining, drainTo := .waiting } else { y with state := .waiting }

/-- A strand that debug steps keeps HALTED, and holds the state the instruction put it in for the end of the halt (R197,
R792). -/
def Strand.underStep (f : Strand → Strand) (x : Strand) : Strand :=
  if x.state = .halted then
    let y := f { x with state := .runnable }
    { y with state := .halted, heldFrom := y.state }
  else f x

/-- WAIT: T in IMM16 bit 0, the deadline in ra (R211, R212, R310, R311, R853). -/
def execWait (i : StrandId) (x : FmtX) (s : State) : Host.Outcome State Fault Refusal :=
  let tbit := x.imm.getLsbD 0
  let dl := if tbit then some ((s.strand i).rd x.ra) else none
  let busy := !(s.opsOf i).isEmpty
  done (s.issue i [x.rd, x.ra] (x.unused true tbit false true || decide (2 ≤ x.imm.toNat))
    (fun t => (t.setStrand i (((t.strand i).next.issued t.time.dtime).underStep
      (fun y => y.doWait x.rd dl t.time.dtime busy))).traceEv 3 i 0))

/-- WMON: set a line's bit in the strand's own wait mask (R214, R310). -/
def execWmon (i : StrandId) (x : FmtX) (s : State) : Host.Outcome State Fault Refusal :=
  done (s.issueShort i [] (x.unused false false false true || decide (256 ≤ x.imm.toNat))
    (fun t => { t with mask := t.mask ||| (1#256 <<< x.imm.toNat) }))

/-- WMOFF: clear the line's mask bit and pending bit (R214, R310). -/
def execWmoff (i : StrandId) (x : FmtX) (s : State) : Host.Outcome State Fault Refusal :=
  done (s.issueShort i [] (x.unused false false false true || decide (256 ≤ x.imm.toNat))
    (fun t => { t with mask := t.mask &&& ~~~(1#256 <<< x.imm.toNat), pend := t.pend &&& ~~~(1#256 <<< x.imm.toNat) }))

/-- SYNC: issues only with nothing in flight (R310, R312). -/
def execSync (i : StrandId) (x : FmtX) (s : State) : Host.Outcome State Fault Refusal :=
  if (s.opsOf i).isEmpty then done (s.issueShort i [] (x.unused false false false false) id) else done s

/-! ## Strands and time -/

/-- Refusal values of R314. -/
def refState : Word := 0xFFFFFFFFFFFF#48
def refSup : Word := 0xFFFFFFFFFFFE#48
def refFlight : Word := 0xFFFFFFFFFFFD#48

/-- The issuing strand moves past the instruction with rd written. -/
def State.answer (s : State) (i : StrandId) (rd : BitVec 5) (v : Word) : State :=
  s.modStrand i (fun x => (x.wr rd v).next.issued s.time.dtime)

/-- A strand named by bits 5:0 of a word (R313). -/
def strandOf (w : Word) : StrandId := ⟨w.toNat % 64, Nat.mod_lt _ (by decide)⟩

/-- The strand a spawn makes (R198). -/
def Strand.spawned (x : Strand) (entry : BitVec 24) (arg : Word) (cls : BitVec 2) (key : Word) : Strand :=
  { x with
    state := .runnable, cls := cls, w := (Vector.replicate 32 0).set 1 arg, a0 := 0, a1 := 0, pc := entry, st := {}
    waitEnd := .none, waitDl := none, key := key, stepping := false, flt := {} }

/-- SPAWN (R198, R313, R314). -/
def execSpawn (i : StrandId) (x : FmtX) (s : State) : Host.Outcome State Fault Refusal :=
  let any := x.imm.getLsbD 8
  let bad := x.unused true true true true || decide (512 ≤ x.imm.toNat) || (any && x.imm.toNat % 64 != 0)
  done (s.issue i [x.rd, x.ra, x.rb] bad (fun t =>
    let y := t.strand i
    let named : StrandId := ⟨x.imm.toNat % 64, Nat.mod_lt _ (by decide)⟩
    let target := if any then (List.finRange 64).find? (fun j => !isSup j && (t.strand j).state == .free) else some named
    match target with
    | none => t.answer i x.rd refState
    | some j =>
      if isSup j then t.answer i x.rd refSup
      else if (t.strand j).state ≠ .free then t.answer i x.rd refState
      else
        let u := t.answer i x.rd (Word.ofN j.val)
        let u := u.modStrand j (fun z => z.spawned (lowAddr (y.rd x.ra)) (y.rd x.rb) (x.imm.extractLsb' 6 2) (t.time.dtime + 1))
        (u.traceEv 1 j 0).checkC0))

/-- END (R197, R313). -/
def execEndStrand (i : StrandId) (x : FmtX) (s : State) : Host.Outcome State Fault Refusal :=
  let busy := !(s.opsOf i).isEmpty
  done (s.issue i [] (x.unused false false false false) (fun t =>
    (t.setStrand i (((t.strand i).next.issued t.time.dtime).underStep
      (fun y => if busy then { y with state := .draining, drainTo := .free } else { y with state := .free }))).traceEv 5 i 0))

/-- PARK (R197, R313). -/
def execPark (i : StrandId) (x : FmtX) (s : State) : Host.Outcome State Fault Refusal :=
  let busy := !(s.opsOf i).isEmpty
  done (s.issue i [] (x.unused false false false false) (fun t =>
    (t.setStrand i (((t.strand i).next.issued t.time.dtime).underStep
      (fun y => if busy then { y with state := .draining, drainTo := .parked } else { y with state := .parked }))).traceEv 4 i 0))

/-- The refusal of an instruction that names a target strand, by its state and the issuer's rights (R195, R314). -/
def State.refuse (s : State) (i j : StrandId) (ok : StrandState → Bool) : Option Word :=
  if isSup j && !isSup i then some refSup
  else if ok (s.strand j).state then none
  else some refState

/-- The strand a resume makes RUNNABLE (R313, R323). -/
def Strand.resumed (x : Strand) (key : Word) : Strand :=
  let pc := if x.state ≠ .faulted then x.pc else if x.flt.resv then x.flt.respc else if x.flt.defer then x.pc else x.flt.ipc
  { x with state := .runnable, pc := pc, flt := {}, key := key }

/-- RESUME (R313, R314, R323). -/
def execResume (i : StrandId) (x : FmtX) (s : State) : Host.Outcome State Fault Refusal :=
  done (s.issue i [x.rd, x.ra] (x.unused true true false false) (fun t =>
    let j := strandOf ((t.strand i).rd x.ra)
    match t.refuse i j (fun st => st == .parked || st == .faulted) with
    | some r => t.answer i x.rd r
    | none => ((((t.answer i x.rd 0).modStrand j (fun y => y.resumed (t.time.dtime + 1))).fltSum j false).traceEv 9 j 0).checkC0))

/-- FREE (R199, R313, R314, R324). -/
def execFree (i : StrandId) (x : FmtX) (s : State) : Host.Outcome State Fault Refusal :=
  done (s.issue i [x.rd, x.ra] (x.unused true true false false) (fun t =>
    let j := strandOf ((t.strand i).rd x.ra)
    match t.refuse i j (fun st => st == .parked || st == .faulted) with
    | some r => t.answer i x.rd r
    | none =>
      if !(t.opsOf j).isEmpty then t.answer i x.rd refFlight
      else (((t.answer i x.rd 0).modStrand j (fun y => { y with state := .free, flt := {} })).fltSum j false).traceEv 5 j 0))

/-- SETCLS (R200, R313, R314). -/
def execSetcls (i : StrandId) (x : FmtX) (s : State) : Host.Outcome State Fault Refusal :=
  done (s.issue i [x.rd, x.ra] (x.unused true true false true || decide (4 ≤ x.imm.toNat)) (fun t =>
    let j := strandOf ((t.strand i).rd x.ra)
    let c : BitVec 2 := x.imm.setWidth 2
    match t.refuse i j (fun st => st != .free) with
    | some r => t.answer i x.rd r
    | none => (((t.answer i x.rd 0).modStrand j (fun y => { y with cls := c, key := t.time.dtime })).traceEv 7 j c.toNat).checkC0))

/-- SELF (R313). -/
def execSelf (i : StrandId) (x : FmtX) (s : State) : Host.Outcome State Fault Refusal :=
  done (s.issueShort i [x.rd] (x.unused true false false false) (fun t => t.wr x.rd (Word.ofN i.val)))

/-- RDT (R313). -/
def execRdt (i : StrandId) (x : FmtX) (s : State) : Host.Outcome State Fault Refusal :=
  done (s.issueShort i [x.rd] (x.unused true false false false) (fun t => t.wr x.rd s.time.dtime))

/-! ## Illegal words and failed fetches -/

/-- The words R251 and R317 refuse whatever their fields: OP, FN or XFN not assigned (R250, R264 to R282, R292 to R317). -/
def unassigned (w : Word) : Bool :=
  let op := getBits w 42 6
  let fn := getBits w 16 11
  let xfn := getBits w 21 6
  match op with
  | 0x01 => decide (8 ≤ fn)
  | 0x02 => decide (6 ≤ fn)
  | 0x03 => decide (5 ≤ fn)
  | 0x04 => decide (7 ≤ fn % 32)
  | 0x08 | 0x09 | 0x0A | 0x0B | 0x0C | 0x0D | 0x0E => false
  | 0x10 => decide (2 ≤ fn)
  | 0x11 | 0x12 | 0x13 => decide (4 ≤ fn)
  | 0x14 | 0x15 | 0x18 | 0x19 | 0x1A | 0x20 => false
  | 0x21 => fn != 0
  | 0x24 => !(decide (fn ≤ 4) || (decide (0x10 ≤ fn) && decide (fn ≤ 0x13)))
  | 0x28 => !(decide (xfn ≤ 5) || (decide (8 ≤ xfn) && decide (xfn ≤ 10)))
  | 0x29 => decide (3 ≤ xfn)
  | 0x2A => decide (6 ≤ xfn)
  | 0x2B | 0x2D | 0x30 => xfn != 0
  | 0x2C => decide (2 ≤ xfn)
  | 0x2E => decide (5 ≤ xfn)
  | 0x2F => decide (8 ≤ xfn)
  | _ => true

/-- ILLEGAL_INSTRUCTION (R251, R317): a word that is not assigned. -/
def execIllegalInstruction (i : StrandId) (w : Word) (s : State) : Host.Outcome State Fault Refusal :=
  if unassigned w then done (s.issue i [] true id) else done s

/-- FETCH_FAULT (R165, R178, R230, R318): cause 2 ADDR, 3 PROT, 5 XIPERR by the address of the fetch, 4 MEMERR where its word
reads uncorrectable. -/
def execFetchFault (i : StrandId) (cause : BitVec 3) (s : State) : Host.Outcome State Fault Refusal :=
  let x := s.strand i
  let a := x.pc.toNat
  let err := decide (2 ≤ spGet (fun _ => 0) s.mem.ramErr a ∨ 3 ≤ s.mramBad a)
  if s.canIssue i && (s.fetchFault i == some cause.toNat || (cause == 4 && err && (s.fetchFault i).isNone)) then
    let t := if cause = 4 then s.noteUncorr (decide (a < 0x80000)) a 1 i.val else s
    done ((t.strandFault i cause.toNat false true x.pc x.pc).stepEnd x.stepping)
  else done s

end Sys2Proof.Machine
end

