-- ==== Sys2Proof/Machine/Time.lean ====
section
/-!
DEFINITION. Machine/Time.lean: reference, delay lines, device time, network time and TPULSE (spec/02), with their commands.
-/
namespace Sys2Proof.Machine

def State.modTime (s : State) (f : Time → Time) : State := { s with time := f s.time }

/-! ## Network time -/

/-- 1/240 microsecond in units of 2^-40 microsecond (spec/02). -/
def nom : Int := 4581298449

/-- The rate correction r (R85). -/
def State.rate (s : State) : Int := (BitVec.ofNat 24 (s.get R.TIME_RATE_R)).toInt

/-- The advance of network time in a beat at rate r and slew v (R90). -/
def advanceBy (r v : Int) : Int := (nom * (2 ^ 32 + r + v)).fdiv (2 ^ 32)

/-- Network time in microseconds, its 16-bit fraction, and both as the 64-bit latch of R89. -/
def State.ntMicro (s : State) : Nat := s.time.nt.toNat / 2 ^ 40
def State.ntFrac (s : State) : Nat := s.time.nt.toNat / 2 ^ 24 % 2 ^ 16
def State.ntLatch64 (s : State) : BitVec 64 := BitVec.ofNat 64 (s.time.nt.toNat / 2 ^ 24)

/-- The slew rate of R90 and R92. -/
def slewRate (p : Int) : Int := if 2 ^ 40 ≤ p then 429497 else if p ≤ -2 ^ 40 then -429497 else 0

/-- The pulse period in units of 2^-40 microsecond (R98). -/
def State.tpPeriod (s : State) : Nat := (if s.on R.TIME_NTCTL_TP_PER then 100000 else 1000000) * 2 ^ 40

/-- Whether an advance of network time by d carries NTIME to a whole multiple of the pulse period or past one (R98, R101). -/
def State.tpPasses (s : State) (d : Int) : Bool :=
  let a : Int := s.time.nt.toNat
  decide (2 ^ 88 ≤ a + d ∨ a / s.tpPeriod < (a + d) / s.tpPeriod)

/-- One beat of network time (R85, R90); a step takes effect at the end of its beat (R91, R97), and a boundary that NTIME reaches or passes
is due in the beat that follows (R98, R101). -/
def State.ntBeat (s : State) : State :=
  let r := s.rate
  let inc := advanceBy r (slewRate s.time.slew)
  let d := inc + s.time.ntStep.getD 0
  s.modTime (fun t => { t with
    nt := t.nt + BitVec.ofInt 88 d, slew := t.slew - (inc - advanceBy r 0), ntStep := none
    epoch := if t.ntStep.isSome then t.epoch + 1 else t.epoch
    markAt := if t.remark then t.dtime + 1 else t.markAt, markNt := if t.remark then t.nt + BitVec.ofInt 88 d else t.markNt
    markSlew := if t.remark then t.slew - (inc - advanceBy r 0) else t.markSlew, remark := false
    tpDue := s.tpPasses d || t.tpNext, tpNext := false, tpLeft := t.tpLeft - 1 })

/-- Network time in an earlier beat d as the latch of R89, from the last beat in which its rate, slew or value was changed on (R90, R97). -/
def State.ntAt (s : State) (d : Word) : BitVec 64 :=
  let m := s.time.markSlew
  let v := slewRate m
  let base := advanceBy s.rate 0
  let extra := advanceBy s.rate v - base
  let n := (d - s.time.markAt).toInt
  let k : Int := if v = 0 then 0 else (m.natAbs - 2 ^ 40) / extra.natAbs + 1
  BitVec.ofNat 64 ((s.time.markNt + BitVec.ofInt 88 (base * n + extra * max 0 (min n k))).toNat / 2 ^ 24)

/-- The states of network time: FREE, HOLDOVER, LOCKED (TIME_STAT.NT_STATE). -/
def ntFree : Nat := 0
def ntHoldover : Nat := 1
def ntLocked : Nat := 2

/-- The growth of the uncertainty in a state, in microseconds per second (R94). -/
def State.growRate (s : State) : Nat :=
  match s.get R.TIME_STAT_NT_STATE with
  | 2 => 0
  | 1 => s.get R.TIME_NTCTL_HGROW
  | _ => 50 + (if s.on R.TIME_STAT_REFLOST then 20000 else 0)

/-- The uncertainty of network time in microseconds (R87, R94, R95); none: unknown. -/
def State.uncert (s : State) : Option Nat :=
  s.time.uncBase.map (fun b =>
    if s.get R.TIME_STAT_NT_STATE = ntLocked then b + s.get R.TIME_NTCTL_UFLOOR + (s.time.slew.natAbs + 2 ^ 40 - 1) / 2 ^ 40
    else b + (s.time.uncGrow + 239999999) / 240000000)

/-- The uncertainty as TIME_NTUNC shows it (R94). -/
def State.uncWord (s : State) : Nat := min (s.uncert.getD 0xFFFFFFFF) 0xFFFFFFFF

/-- n beats pass in the present state of network time (R86, R94). -/
def State.ntAge (s : State) (n : Nat) : State :=
  s.modTime (fun t => { t with ageBeacon := t.ageBeacon + n, ageState := t.ageState + n, uncGrow := t.uncGrow + s.growRate * n })

/-- Enter a state of network time other than LOCKED, with the uncertainty reached so far (R86, R88, R94). -/
def State.enterNt (s : State) (st : Nat) : State :=
  let t := (s.modTime (fun t => { t with uncBase := s.uncert, uncGrow := 0, ageState := 0, remark := true })).put R.TIME_STAT_NT_STATE st
  t.when (st == ntFree) (·.put R.TIME_RATE_R 0)

/-- BTO and HOLD in beats (R86). -/
def State.btoBeats (s : State) : Nat := 240000 * s.get R.TIME_NTLIM_BTO
def State.holdBeats (s : State) : Nat := 240000000 * s.get R.TIME_NTLIM_HOLD

/-- No beacon sample has been processed for BTO milliseconds; HOLDOVER has lasted HOLD seconds (R86). -/
def State.btoOver (s : State) : Bool := s.get R.TIME_STAT_NT_STATE == ntLocked && decide (s.btoBeats ≤ s.time.ageBeacon)
def State.holdOver (s : State) : Bool := s.get R.TIME_STAT_NT_STATE == ntHoldover && decide (s.holdBeats ≤ s.time.ageState)

/-- LOCKED ends (R86). -/
def State.btoEnd (s : State) : State := s.when s.btoOver (·.enterNt ntHoldover)
/-- HOLDOVER ends (R86); the rate that R88 clears is noted for a sample that the same beat processes (spec/02 At the edges). -/
def State.holdEnd (s : State) : State :=
  s.when s.holdOver (fun s => { s.enterNt ntFree with now := { s.now with rate := some (s.get R.TIME_RATE_R) } })

/-- HOLDOVER over n beats of a stop (R86, R95). -/
def State.holdRun (s : State) (n : Nat) : State :=
  let left := s.holdBeats - s.time.ageState
  if n < left then s.ntAge n else ((s.ntAge left).enterNt ntFree).ntAge (n - left)

/-- R86 applied as if the beat had run through a stop of n beats (R95). -/
def State.ntRun (s : State) (n : Nat) : State :=
  match s.get R.TIME_STAT_NT_STATE with
  | 2 =>
    let left := s.btoBeats - s.time.ageBeacon
    if n < left then s.ntAge n else ((s.ntAge left).enterNt ntHoldover).holdRun (n - left)
  | 1 => s.holdRun n
  | _ => s.ntAge n

/-- Process a beacon sample (R86, R90 to R92): a step takes effect at the end of this beat (R91), and an expiry in this beat has no
effect (spec/02 At the edges). -/
def State.processBeacon (s : State) (tm : BitVec 64) (d : Word) (nl : BitVec 64) : State :=
  let s := match s.now.rate with
    | some r => s.put R.TIME_RATE_R r
    | none => s
  let e := (tm - nl).toInt
  let t :=
    if 65536000 ≤ e.natAbs then
      s.modTime (fun t => { t with ntStep := some (t.ntStep.getD 0 + e * 2 ^ 24), slew := 0, prevValid := false })
    else
      let dd := (d - s.time.dPrev).toNat
      let t :=
        if s.time.prevValid ∧ 2400000 ≤ dd ∧ dd ≤ 2400000000 then
          let robs := ((tm - s.time.tmPrev).toInt * 240 * 2 ^ 16).tdiv dd - 2 ^ 32
          let r := clampInt (s.rate + (robs - s.rate).fdiv 8) (-858993) 858993
          (s.put R.TIME_RATE_R (BitVec.ofInt 24 r.1).toNat).when r.2 (·.put R.TIME_STAT_RATE_LIM 1)
        else s
      t.modTime (fun t => { t with slew := e * 2 ^ 24, prevValid := true })
  (t.modTime (fun t => { t with tmPrev := tm, dPrev := d, ageBeacon := 0, uncBase := some 0, uncGrow := 0, remark := true })).put
    R.TIME_STAT_NT_STATE ntLocked

/-- A beacon sample waits to be processed; a third one is discarded (R89, spec/02 At the edges). -/
def State.queueBeacon (s : State) (tm : BitVec 64) (d : Word) (nl : BitVec 64) : State :=
  if 2 ≤ s.time.beacons.length then s.bump R.TIME_CNT_BDROP
  else s.modTime (fun t => { t with beacons := t.beacons ++ [(tm, d, nl)] })

/-- A sample goes on to the next chip of a cascade (R97, R767). -/
def State.beaconOn (s : State) (tm : BitVec 64) (d : Word) : State :=
  s.when (s.cascade && s.on R.PEER_CSSTAT_LINKB) (·.linkOut true .beacon [(tm >>> 48).setWidth 48, tm.setWidth 48, d])

/-- BEACON_SAMPLE (R86, R90, R91, R97): the oldest waiting sample is processed, or, on a cascade follower, one that the lead has forwarded, with
its own network time of the beat d. -/
def execBeaconSample (fwd : Option (BitVec 64 × Word)) (s : State) : Host.Outcome State Fault Refusal :=
  match fwd, s.time.beacons with
  | some x, _ => if s.cascade && s.chipPos != 0 then done ((s.processBeacon x.1 x.2 (s.ntAt x.2)).beaconOn x.1 x.2) else done s
  | none, x :: rest =>
    done (((s.modTime (fun t => { t with beacons := rest })).processBeacon x.1 x.2.1 x.2.2).when (s.cascade && s.chipPos == 0) (·.beaconOn x.1 x.2.1))
  | none, [] => done s

/-- BEACON_TIMEOUT (R86). -/
def execBeaconTimeout (s : State) : Host.Outcome State Fault Refusal := done s.btoEnd

/-- HOLDOVER_EXPIRY (R86, R88). -/
def execHoldoverExpiry (s : State) : Host.Outcome State Fault Refusal := done s.holdEnd

/-- The copies of the latch of R96: each strand, the host port, each chain position and the debug port. -/
def readerOf : Master → Nat
  | .strand i => i.val
  | .host => 64
  | .remote p => 65 + p.val
  | .debug => 69

/-- Latch fraction, state and epoch, and the uncertainty, for a reader (R96). -/
def State.latchNt (s : State) (m : Master) : State :=
  let aux := Word.ofN (s.ntFrac + s.get R.TIME_STAT_NT_STATE * 2 ^ 16 + s.time.epoch.toNat * 2 ^ 18)
  s.modTime (fun t => { t with
    ntLatch := (readerOf m, aux, Word.ofN s.uncWord) :: t.ntLatch.filter (fun p => p.1 != readerOf m) })

/-- NTIME_READ (R96, R97): a read of TIME_NTIME. -/
def execNtimeRead (m : Master) (s : State) : Host.Outcome State Fault Refusal := done (s.latchNt m)

/-! ## Reference and lock -/

/-- The chip is strapped twin shadow (R64, R731). -/
def State.strapShadow (s : State) : Bool := s.get R.RST_STRAP_ROLE = 2

/-- VCORE is valid, so that the PLL can lock (R62, R126, R855). -/
def State.coreValid (s : State) : Bool :=
  match s.pwr.mode with
  | .run | .doze | .srrHold => true
  | .start => s.pwr.boot != .regs
  | .standby => s.pwr.wake == some .beat || s.pwr.wake == some .handoff
  | _ => false

/-- A wake or start-up sequence waits for its regulators: a REFIN reference already toggles (R62). -/
def State.regsWait (s : State) : Bool := (s.pwr.mode == .start && s.pwr.boot == .regs) || (s.pwr.mode == .standby && s.pwr.wake == some .regs)

/-- REFERENCE_VALID (R61, R62, R65): the reference is valid, and the PLL locks to it once VCORE is valid; a shadow that moved to its
crystal stays there (R731). -/
def execReferenceValid (s : State) : Host.Outcome State Fault Refusal :=
  if s.coreValid then
    let t := s.modTime (fun t => { t with refValid := true })
    if s.time.onCrystal then done t else done ((t.modTime (fun t => { t with pllLocked := true })).put R.TIME_STAT_PLL_LOCK 1)
  else if s.regsWait && s.on R.TIME_STAT_REF_SRC then done (s.modTime (fun t => { t with refValid := true }))
  else done s

/-- A cascade follower that loses its chain applies the reaction of LOSSACT (R777). -/
def State.lossReaction (s : State) : State :=
  if s.get R.RST_STRAP_ROLE = 3 ∧ s.get R.PEER_CSSTAT_POS ≠ 0 ∧ s.get R.PEER_CSCFG_LOSSACT = 0 then
    ({ s with stage := { s.stage with lossOff := true } }).refreshAll
  else s

/-- REFERENCE_LOST (R61, R64, R86, R731, R777): in RUN and DOZE it is reported; elsewhere the reference is only valid no more, so that a
lock sequence waits for it (R62, R126). -/
def execReferenceLost (s : State) : Host.Outcome State Fault Refusal :=
  if s.watching && s.time.refValid then
    let t := s.modTime (fun t => { t with refValid := false, pllLocked := false })
    let t := (((t.put R.TIME_STAT_REFLOST 1).put R.TIME_STAT_DT_REF 1).put R.TIME_STAT_PLL_LOCK 0).assertEv 48
    let t := t.enterNt ntFree
    if s.strapShadow then done ((t.modTime (fun t => { t with onCrystal := true })).put R.TIME_STAT_REF_SRC 0)
    else done ((t.when (t.on R.TIME_CLKCTL_REFLOST_ACT) (·.tripAll 11)).lossReaction)
  else done ((s.modTime (fun t => { t with refValid := false, pllLocked := t.pllLocked && !t.refValid })).when s.time.refValid (·.put R.TIME_STAT_PLL_LOCK 0))

/-- PLL_LOCK_REGAINED (R731): the shadow's PLL has relocked to its crystal. -/
def execPllLockRegained (s : State) : Host.Outcome State Fault Refusal :=
  if s.time.onCrystal then done ((s.modTime (fun t => { t with pllLocked := true })).put R.TIME_STAT_PLL_LOCK 1) else done s

/-- DLL_CORRECTION (R69, R71): drift 0 is within 1 tap, 1 within 2 taps, 2 more than 2 taps. -/
def execDllCorrection (line : Fin 2) (drift : Fin 3) (s : State) : Host.Outcome State Fault Refusal :=
  let f := if line = 0 then R.TIME_STAT_DL0_LOCK else R.TIME_STAT_DL1_LOCK
  let n := if drift = 0 then min (s.time.dlGood[line] + 1) 16 else 0
  let t := s.modTime (fun t => { t with dlGood := t.dlGood.set line n })
  if !s.time.beatOn then done s
  else if drift = 2 then done (t.put f 0)
  else done (t.when (n == 16) (·.put f 1))

/-- SYNC_EDGE (R82, R83): a chip that takes its reference from REFIN loads DTIME. -/
def execSyncEdge (announced : Word) (s : State) : Host.Outcome State Fault Refusal :=
  if s.on R.TIME_STAT_REF_SRC && s.time.beatOn then
    done (s.modTime (fun t => { t with dtime := announced + Word.ofN (s.get R.TIME_SYNC_SYNCDLY), remark := true }))
  else done s

/-! ## The hand-off of a stop -/

/-- Beats of n always-on periods at K (R79): n K / 256 rounded to nearest, a tie upward (log entry 59, DESIGN CHOICE). -/
def aoBeats (n k : Nat) : Nat := (n * k + 128) / 256

/-- The beats of the last 4,096 always-on periods (R77); the length of a period is the oscillator's (log entry 60, DESIGN CHOICE). -/
def State.aoWindow (s : State) : Nat := (List.range 4096).foldl (fun n i => n + (Config.aoLen (s.time.aoNum - 4096 + i)).toNat) 0

/-- TIME_AOCAL.K (R77): the sliding window once 4,096 whole periods have been measured since the release, and until then the K held. A
fraction of 1/256 beat is dropped (log entry 60, DESIGN CHOICE). -/
def State.aoK (s : State) : Nat := if 4096 ≤ s.time.aoRun then s.aoWindow / 16 % 2 ^ 24 else s.time.kHeld.toNat

/-- A beat of the measurement of R77. Log entry 60, DESIGN CHOICE. -/
def State.aoBeat (s : State) : State :=
  let len := (Config.aoLen s.time.aoNum).toNat
  s.modTime (fun t => { t with
    aoIn := if len ≤ t.aoIn + 1 then 0 else t.aoIn + 1
    aoNum := if len ≤ t.aoIn + 1 then t.aoNum + 1 else t.aoNum
    aoRun := if len ≤ t.aoIn + 1 ∧ s.watching = true then t.aoRun + 1 else t.aoRun })

/-- K is held at a stop of the beat (R77). -/
def Time.holdK (t : Time) (k : Nat) : Time :=
  { t with kHeld := BitVec.ofNat 24 k, kMeasured := t.kMeasured || decide (4096 ≤ t.aoRun), aoRun := 0, aoIn := 0 }

/-- The bound of R81 in beats: 0.2 % of N K / 256 rounded up (log entry 59, DESIGN CHOICE), and 960 beats. -/
def lpBound (n k : Nat) : Nat := (n * k * 2 + 256 * 1000 - 1) / (256 * 1000) + 960

/-- Load DTIME and advance network time at a hand-off (R77, R79, R81, R85, R95, R101): network time advances by the beats that R79 adds, each
by the advance of one beat, whose fraction of 2^-40 microsecond is dropped (log entry 59, DESIGN CHOICE). The bound counts in whole
microseconds rounded up (log entry 59). k is the number of periods not yet counted. -/
def State.handOff (s : State) (k : Nat) : State :=
  let kk := s.aoK
  let n := s.time.aoCount + k
  let beats := aoBeats n kk
  let bound := lpBound n kk
  let lperr := if s.time.kMeasured then min bound (2 ^ 48 - 1) else 2 ^ 48 - 1
  let adv : Int := beats * advanceBy s.rate 0
  let t := s.modTime (fun t => { t with
    dtime := t.dStop + Word.ofN beats, handoff := false, aoCount := 0, remark := true
    nt := t.nt + BitVec.ofInt 88 adv, tpNext := s.tpPasses adv
    uncBase := if t.kMeasured then t.uncBase.map (· + (bound + 239) / 240) else none })
  ((t.put R.TIME_STAT_DT_LP 1).put R.TIME_LPERR_BOUND lperr).ntRun beats

/-- The beat stops at an always-on edge (R78). -/
def State.stopBeat (s : State) : State :=
  (s.modTime (fun t => { t.holdK s.aoK with
    beatOn := false, pllLocked := false, dStop := t.dtime, aoCount := 0, handoff := false, tpHigh := false, tpDue := false, tpNext := false
    dlGood := Vector.replicate 2 0 })).put R.TIME_STAT_PLL_LOCK 0

/-! ## TPULSE -/

/-- The high time of TPULSE in a state of network time (R99). -/
def tpHighTime (st : Nat) : Nat := if st = 2 then 240000 else if st = 1 then 480000 else 720000

/-- A boundary that is due: TPULSE rises, or is high and the boundary is counted (R98 to R101). -/
def State.tpBoundary (s : State) : State :=
  if s.time.tpDue && s.watching then
    let t := s.modTime (fun t => { t with tpDue := false })
    if s.time.tpHigh then t.bump R.TIME_CNT_TPSKIP
    else t.when (s.on R.TIME_NTCTL_TP_EN) (·.modTime (fun t => { t with tpHigh := true, tpLeft := tpHighTime (s.get R.TIME_STAT_NT_STATE) }))
  else s

/-- The high time of TPULSE is over (R99). -/
def State.tpEnd (s : State) : State := s.when (s.time.tpHigh && s.time.tpLeft == 0) (·.modTime (fun t => { t with tpHigh := false }))

/-- TPULSE_BOUNDARY (R98 to R101): NTIME has reached a whole pulse period. -/
def execTpulseBoundary (s : State) : Host.Outcome State Fault Refusal := done s.tpBoundary

/-- TPULSE_END (R99): the high time fixed at the rising edge ends. -/
def execTpulseEnd (s : State) : Host.Outcome State Fault Refusal := done s.tpEnd

/-- What falls due in a beat of network time comes about by its end: expiries, and TPULSE (R86, R98 to R101). -/
def State.ntDue (s : State) : State := s.btoEnd.holdEnd.tpEnd.tpBoundary

/-- The level of the ball TPULSE, none for high-impedance (R98, R111, spec/27): OFF, reset and a twin chip that does not drive it. Log entry
61, DEDUCED. -/
def State.tpulsePin (s : State) : Option Bool :=
  if s.pwr.mode = .off || s.inReset || !s.twinDrives then none else some (s.watching && s.time.tpHigh)

/-- The ball REFOUT carries the device's reference: REFOUT_EN is 1 and the device is not in reset (R66); it is high-impedance otherwise. -/
def State.refout (s : State) : Bool := s.on R.TIME_CLKCTL_REFOUT_EN && s.pwr.mode != .off && !s.inReset

end Sys2Proof.Machine
end

