-- ==== Sys2Proof/Machine/Mem.lean ====
section
/-!
DEFINITION. Machine/Mem.lean: RAM and MRAM error handling, the scrubber, persists in two phases, the position journal, the
write-once region and fences (spec/05), with the commands of the memories.
-/
namespace Sys2Proof.Machine

def State.modMem (s : State) (f : Mem → Mem) : State := { s with mem := f s.mem }

/-! ## Error correction and the scrubber -/

/-- Add bits in error to a RAM word: what an upset of the memory does (R164, log entry 14, DESIGN CHOICE). -/
def State.upsetRam (s : State) (a n : Nat) : State :=
  s.modMem (fun m => { m with ramErr := spSet (fun _ => 0) m.ramErr a (spGet (fun _ => 0) m.ramErr a + n) })
/-- Add bits in error to an MRAM word (R167, log entry 14, DESIGN CHOICE). -/
def State.upsetMram (s : State) (a n : Nat) : State :=
  s.modMem (fun m => { m with mramErr := spSet (fun _ => 0) m.mramErr a (spGet (fun _ => 0) m.mramErr a + n) })

/-- RAM_WRITEBACK (R164): the corrected word is written back. -/
def execRamWriteback (a : BitVec 24) (s : State) : Host.Outcome State Fault Refusal :=
  if a.toNat ∈ s.mem.ramWb then
    done (s.modMem (fun m => { m with
      ramWb := m.ramWb.filter (fun b => b != a.toNat), ramErr := spSet (fun _ => 0) m.ramErr a.toNat 0 }))
  else done s

/-- MRAM_WRITEBACK (R177): the same data is written back. -/
def execMramWriteback (a : BitVec 24) (s : State) : Host.Outcome State Fault Refusal :=
  if a.toNat ∈ s.mem.mramWb ∧ !s.active ∧ !s.shadowing then
    done (s.modMem (fun m => { m with
      mramWb := m.mramWb.filter (fun b => b != a.toNat), mramErr := spSet (fun _ => 0) m.mramErr a.toNat 0 }))
  else done s

/-- RAM_SCRUB (R164, R165, R178, R179, R181): the next word is read, with further bits in error that an upset has made. Log entry 14, DESIGN
CHOICE. -/
def execRamScrub (bits : BitVec 3) (s : State) : Host.Outcome State Fault Refusal :=
  if s.watching && s.on R.MEM_SCRUB_RAMEN then
    let a := s.mem.ramScrub
    let t := ((s.upsetRam a bits.toNat).ramRead a 2 0).2
    done (t.modMem (fun m => { m with ramScrub := if a + 1 < 0x200000 then a + 1 else 0x100000 }))
  else done s

/-- MRAM_SCRUB (R167, R177 to R179, R181): the next word is read, with further bits in error that an upset has made. Log entry 14, DESIGN CHOICE. -/
def execMramScrub (bits : BitVec 3) (s : State) : Host.Outcome State Fault Refusal :=
  if s.watching && s.on R.MEM_SCRUB_MRAMEN then
    let a := s.mem.mramScrub
    let t := ((s.upsetMram a bits.toNat).mramRead a 2 0).2
    done (t.modMem (fun m => { m with mramScrub := if a + 1 < 0x80000 then a + 1 else 0 }))
  else done s

/-- CLRCNT (R178): every MEM_ERRCNT field clears. -/
def execClrcnt (_m : Master) (s : State) : Host.Outcome State Fault Refusal := done (s.setReg RW.MEM_ERRCNT 0)

/-! ## The position journal -/

/-- The positions POS0 to POS7. -/
def State.positions (s : State) : Vector Word 8 := Vector.ofFn (fun c : Fin 8 => s.reg (RW.POS_CNT c))

/-- The POS_UNCERTAIN bits of courses 0 to 7. -/
def State.uncBits (s : State) : Nat := allCourses.foldl (fun n (c : Course) => n + s.get (R.POS_STAT_UNC c) * 2 ^ c.val) 0

/-- The words of a position record whose values are taken now (R183). -/
def State.jRecord (s : State) (reason : BitVec 8) : List Word :=
  let seq := (s.get R.MEM_JSEQ_SEQ + 1) % 2 ^ 40
  [Word.ofN (seq + reason.toNat * 2 ^ 40)] ++ s.positions.toList ++
    [Word.ofN (s.uncBits + s.get R.ICONV_STAT_CHG_GAP * 2 ^ 8), s.reg RW.ICONV_QRSV, s.reg RW.ICONV_QBAT, s.time.dtime, 0, 0,
      Word.ofN seq]

/-- Whether a persist carries a position record. -/
def Persist.isJournal (p : Persist) : Bool := match p.owner with | .journal _ => true | _ => false

/-- A position record whose values are taken when its phase 1 begins (R184). -/
def Persist.merged (p : Persist) : Bool := p.isJournal && p.data.isEmpty

/-- Merge a reason into a record that waits: the greater code stays (log entry 15, DEDUCED). -/
def Persist.addReason (r : BitVec 8) (p : Persist) : Persist :=
  match p.owner with
  | .journal q => if p.data.isEmpty then { p with owner := .journal (if q.toNat < r.toNat then r else q) } else p
  | _ => p

/-- The target of the next position record. Log entry 17, DEDUCED. -/
def State.jTarget (s : State) : BitVec 24 := BitVec.ofNat 24 (0x70000 + 16 * ((s.mem.jSlot + 1) % 2048))

/-- Ask for a position record (R184). -/
def State.journal (s : State) (reason : BitVec 8) : State :=
  if s.mem.persists.any Persist.merged then s.modMem (fun m => { m with persists := m.persists.map (Persist.addReason reason) })
  else if s.mem.persists.any Persist.isJournal then s.persist { owner := .journal reason, target := s.jTarget, data := [] }
  else
    let t := s.icSeen
    (t.persist { owner := .journal reason, target := t.jTarget, data := t.jRecord reason }).modMem (fun m => { m with jLast := t.positions })

/-- JOURNAL_REQUEST (R184): a write of MEM_JCTL.REQ. -/
def execJournalRequest (_m : Master) (s : State) : Host.Outcome State Fault Refusal := done (s.journal 2)

/-- PER milliseconds have passed in RUN and DOZE since the last time they had (R184). Log entry 78, DESIGN CHOICE. -/
def State.jperOver (s : State) : Bool :=
  s.watching && s.on R.MEM_JCTL_PER && decide (s.get R.MEM_JCTL_PER * 240000 ≤ (s.time.dtime - s.mem.jAt).toNat)

/-- The periodic record is due: it is written when any of POS0 to POS7 has changed (R184). Log entry 78, DESIGN CHOICE. -/
def State.jPeriod (s : State) : State :=
  s.when s.jperOver (fun s => (s.modMem (fun m => { m with jAt := s.time.dtime })).when (s.positions != s.mem.jLast) (·.journal 1))

/-- JOURNAL_PERIOD (R184). -/
def execJournalPeriod (s : State) : Host.Outcome State Fault Refusal := done s.jPeriod

/-! ## Persists -/

/-- Read the source of a strand's persist: a word that has been stored to since issue is taken as `State.ramSet` left it (R300, R302); the
index of an uncorrectable word ends the persist (R299). Log entry 22, DESIGN CHOICE. -/
def readSource (a : Nat) : List Word → Nat → State → Except Nat (List Word) × State
  | [], _, s => (.ok [], s)
  | w :: t, k, s =>
    match s.ramRead a 4 0 with
    | (none, u) => (.error k, u)
    | (some v, u) =>
      let pick := if 3 ≤ spGet (fun _ => 0) s.mem.ramErr a then v else w
      match readSource (a + 1) t (k + 1) u with
      | (.ok l, x) => (.ok (pick :: l), x)
      | (.error e, x) => (.error e, x)

/-- Replace the first waiting persist that f accepts. -/
def replaceFirst (f : Persist → Bool) (q : List Persist) : List Persist → List Persist
  | [] => []
  | p :: t => if f p then q ++ t else p :: replaceFirst f q t

/-- A persist that may begin phase 1: it waits, and during an escalation it is not a strand's operation (R327). -/
def State.canStage (s : State) (p : Persist) : Bool :=
  !p.staging && (s.core.esc.isNone || (match p.owner with | .op _ => false | _ => true))

/-- Put a persist that begins phase 1 in its place, its words fixed. -/
def State.beginStage (s : State) (p : Persist) (words : List Word) : State :=
  (s.modMem (fun m => { m with persists := replaceFirst s.canStage [{ p with data := words, staging := true }] m.persists })).noteStore
    p.target.toNat words

/-- Whether the persist engine runs: in RUN and DOZE up to the end of E1 (R121). -/
def State.persistEngine (s : State) : Bool :=
  s.watching && (match s.pwr.entry with | some .e2 => false | some .e3 => false | _ => true)

/-- PERSIST_PHASE1_START (R170, R173, R174, R184, R299, R300, R301): the next slot is retired and the engine is free. Log entry 22, DESIGN CHOICE. -/
def execPersistPhase1Start (s : State) : Host.Outcome State Fault Refusal :=
  if !s.persistEngine || s.mem.persists.any (·.staging) || decide (512 ≤ s.mem.slots.length) then done s
  else match s.mem.persists.find? s.canStage with
    | none => done s
    | some p => match p.owner, p.src with
      | .op id, some a =>
        (match readSource a.toNat p.data 0 s with
        | (.ok l, t) => done ((t.beginStage p l).modOp id (fun o => { o with stage := .begun }))
        | (.error k, t) =>
          done ((t.modMem (fun m => { m with persists := replaceFirst t.canStage [] m.persists })).endOp id 0 6 (BitVec.ofNat 8 k)))
      | .journal r, _ =>
        if p.data.isEmpty then
          let t := s.icSeen
          done ((t.beginStage { p with target := t.jTarget } (t.jRecord r)).modMem (fun m => { m with jLast := t.positions }))
        else done (s.beginStage p p.data)
      | _, _ => done (s.beginStage p p.data)

/-- Where the slot with a staging sequence number stands in the ring (R169, R170, log entry 16, DESIGN CHOICE). -/
def slotAddr (seq : Word) : Nat := 0x78000 + 18 * ((seq.toNat + 511) % 512)

/-- The staging persist commits: its slot is listed and it leaves the queue (R170, R171, R173). The slot's words stand in the ring: the
header, the data words and the commit marker, whose contents the spec lays out no further, so that header and marker are free (log entry
16, DESIGN CHOICE). -/
def State.commitSlot (s : State) (p : Persist) : State :=
  let seq := s.mem.stagedSeq + 1
  (((s.mramSet (slotAddr seq) ([s.freeWord] ++ p.data ++ [s.useFree.freeWord])).useFree 2).modMem (fun m => { m with
    stagedSeq := seq, persists := m.persists.filter (fun q => !q.staging)
    slots := m.slots ++ [{ seq := seq, target := p.target, data := p.data }] })).put R.MEM_WEAR_PCOUNT seq.toNat

/-- Phase 2 of a committed slot: the target words, then the retire mark in the slot header (R170). Log entry 16, DESIGN CHOICE. -/
def State.applySlot (s : State) (x : Slot) : State := ((s.mramSet x.target.toNat x.data).mramSet (slotAddr x.seq) [s.freeWord]).useFree

/-- PERSIST_RETIRE (R170, R172, R173, R301): phase 2 of the oldest committed slot, while no phase 1 runs. -/
def execPersistRetire (s : State) : Host.Outcome State Fault Refusal :=
  if !s.persistEngine || s.mem.persists.any (·.staging) then done s
  else match s.mem.slots with
    | [] => done s
    | t :: rest => done ((s.applySlot t).modMem (fun m => { m with slots := rest }))

/-! ## The write-once region -/

/-- A write-once operation has not committed (R188). -/
def State.woBusy (s : State) : Bool :=
  s.mem.persists.any (fun p => match p.owner with | .writeOnce _ => true | _ => false)

/-- A write-once operation is refused (R187). -/
def State.woRefused (s : State) (op : BitVec 2) : Bool :=
  match op with
  | 1 => s.on R.RST_KEYST_KEYSET
  | 2 => s.mem.unlockCode.isSome
  | _ => s.mem.lockWord || s.mem.unlockCode.isNone

/-- The words of the write-once region that an operation writes (R169, R187; log entry 16, DESIGN CHOICE): the key the first three, the
unlock code the next two, the lock word the one after. -/
def woTarget (op : BitVec 2) : BitVec 24 := if op = 1 then 0x7FF00 else if op = 2 then 0x7FF03 else 0x7FF05
def woWords (op : BitVec 2) (d : Vector Word 3) : List Word :=
  if op = 1 then [d[0], d[1], d[2] &&& 0xFFFFFFFF#48] else if op = 2 then [d[0], d[1] &&& 0xFFFF#48] else [1]

/-- A write of MEM_WOCTL.OP (R187, R188). -/
def State.writeOnce (s : State) (op : BitVec 2) : State :=
  let z := s.modMem (fun m => { m with woData := Vector.replicate 3 0 })
  if s.woBusy then z.put R.MEM_WOCTL_RESULT 3
  else if s.woRefused op then z.put R.MEM_WOCTL_RESULT 2
  else ((z.modMem (fun m => { m with woTaken := s.mem.woData.toList })).persist
    { owner := .writeOnce op, target := woTarget op, data := woWords op s.mem.woData }).put R.MEM_WOCTL_RESULT 0

/-- An accepted write-once operation commits (R187, R188). -/
def State.woCommit (s : State) (op : BitVec 2) : State :=
  let d (k : Nat) : Nat := (s.mem.woTaken.getD k 0).toNat
  let t := match op with
    | 1 => (s.modMem (fun m => { m with
        bootKey := some (BitVec.ofNat 128 (d 0 * 2 ^ 80 + d 1 * 2 ^ 32 + d 2 % 2 ^ 32)) })).put R.RST_KEYST_KEYSET 1
    | 2 => s.modMem (fun m => { m with unlockCode := some (BitVec.ofNat 64 (d 0 * 2 ^ 16 + d 1 % 2 ^ 16)) })
    | _ => (s.modMem (fun m => { m with lockWord := true })).put R.RST_KEYST_LOCKED 1
  (t.modMem (fun m => { m with woTaken := [] })).put R.MEM_WOCTL_RESULT 1

/-- PROGRAM_BOOT_KEY (R187, R188). -/
def execProgramBootKey (_m : Master) (s : State) : Host.Outcome State Fault Refusal := done (s.writeOnce 1)
/-- PROGRAM_UNLOCK_CODE (R187, R188). -/
def execProgramUnlockCode (_m : Master) (s : State) : Host.Outcome State Fault Refusal := done (s.writeOnce 2)
/-- SET_LOCK_WORD (R187, R188). -/
def execSetLockWord (_m : Master) (s : State) : Host.Outcome State Fault Refusal := done (s.writeOnce 3)

end Sys2Proof.Machine
end

