-- ==== Sys2Proof/Machine/PosBase.lean ====
section
/-!
DEFINITION. Machine/PosBase.lean: Hall states, sectors and counts, the low-power sampler and its hand-off (spec/18), as the
operations that resets and power states use.
-/
namespace Sys2Proof.Machine

def State.posn (s : State) (c : Course) : Pos := s.pos[c]
def State.modPos (s : State) (c : Course) (f : Pos → Pos) : State := { s with pos := s.pos.set c (f s.pos[c]) }

/-! ## Sectors and counts -/

/-- The sector of a Hall state (R516). -/
def sectorOf (h : BitVec 3) : Option Nat :=
  match h with
  | 0b001 => some 0
  | 0b011 => some 1
  | 0b010 => some 2
  | 0b110 => some 3
  | 0b100 => some 4
  | 0b101 => some 5
  | _ => none

/-- The count of a change of sector by d (R517). -/
def sectorStep (d : Nat) : Int := match d with | 1 => 1 | 5 => -1 | 2 => 2 | 4 => -2 | _ => 0
/-- A skipped state (R517). -/
def sectorSkip (d : Nat) : Bool := d = 2 || d = 3 || d = 4

/-- The Hall state of levels A, B and C (bits 0 to 2) after inversion (R515). -/
def State.hallState (s : State) (c : Course) (levels : BitVec 3) : BitVec 3 := levels ^^^ BitVec.ofNat 3 (s.get (R.POS_CFG_HPOL c))
/-- The change of count for a sector change, its sign reversed by DIR (R517). -/
def State.posStep (s : State) (c : Course) (d : Nat) : Int := if s.on (R.POS_CFG_DIR c) then -(sectorStep d) else sectorStep d

/-- Set POS_UNCERTAIN with its first cause (R37, R529); one persist of the register (R176). -/
def State.posUnc (s : State) (c : Course) (src : Nat) : State :=
  if s.on (R.POS_STAT_UNC c) then s
  else ((s.put (R.POS_STAT_UNC c) 1).put (R.POS_STAT_UNCSRC c) src).persistShadow (RW.POS_STAT c)

/-- Add to a position counter (R35). -/
def State.posAdd (s : State) (c : Course) (d : Int) : State := s.setReg (RW.POS_CNT c) (s.reg (RW.POS_CNT c) + BitVec.ofInt 48 d)

/-- Show the registered state and the reference sector. -/
def State.posShow (s : State) (c : Course) : State :=
  (s.put (R.POS_STAT_HSTATE c) (s.posn c).hst.toNat).put (R.POS_STAT_SECT c) ((s.posn c).ref.getD 7)

/-- No interval runs on past this point (R530). -/
def State.posBreak (s : State) (c : Course) : State := (s.modPos c (fun p => { p with chain := none })).put (R.POS_TINT_VALID c) 0

/-! ## The low-power sampler -/

/-- The low-power sampler runs (R130, R524, R528): in STANDBY, REST and E3, in the SRR hold, and while a BOR or a wake from REST has not begun
its boot flow. -/
def State.lpMode (s : State) : Bool :=
  s.pwr.mode = .standby || s.pwr.mode = .rest || s.pwr.mode = .srrHold || s.pwr.entry = some .e3
    || (s.pwr.mode = .start && s.pwr.kind != 1 && s.pwr.boot != .flow)

/-- Whether a half-period of 2 microseconds of the sampler is at hand: counted from the beat stop, of which each always-on period holds two, or
from the beginning of the SRR hold (R130, R131). Log entry 76, DESIGN CHOICE. -/
def State.lpHalf (s : State) (p : Nat → Bool) : Bool :=
  if s.pwr.mode = .srrHold then p ((s.time.dtime - s.rsv.holdAt).toNat / 480) else p (2 * s.time.aoCount) || p (2 * s.time.aoCount + 1)

/-- The last half-period of the on-time of a domain is at hand, in which its inputs are sampled (R130). Log entry 76, DESIGN CHOICE. -/
def State.lpInstant (s : State) (d : Dom) : Bool :=
  s.lpMode && (s.get R.PWR_HSUP_LPEN).testBit d.val
    && s.lpHalf (fun h => h % s.get (R.LPINT d.val) + 1 == s.get R.PWR_HSUP_HON)

/-- HSUPd is on in the first or second half of the period at hand (R111, R130, R133, R141, R528): by HSUPEN while the beat runs, pulsed by the
sampler, and off in OFF. Log entry 76, DESIGN CHOICE. -/
def State.hsupPin (s : State) (d : Dom) (second : Bool) : Bool :=
  if s.pwr.mode = .off then false
  else if s.lpMode then (s.get R.PWR_HSUP_LPEN).testBit d.val
    && s.lpHalf (fun h => (s.pwr.mode = .srrHold || (h % 2 == 1) == second) && decide (h % s.get (R.LPINT d.val) < s.get R.PWR_HSUP_HON))
  else (s.get R.PWR_HSUP_HSUPEN).testBit d.val

/-- The sampler takes over at P0, at the beat stop of a BOR or at the SRR hold (R524, R528). -/
def State.lpBegin (s : State) : State :=
  allCourses.foldl (fun t (c : Course) => t.modPos c (fun p => { p with
    lpPrev := p.hst, lpDelta := 0, lpLast := none, e2 := none, setBeat := none, regBeat := none })) s

/-- The sampler counts for this course: it counts and its domain is sampled (R130, R133). -/
def State.lpCounts (s : State) (c : Course) : Bool := s.on (R.POS_CFG_EN c) && (s.get R.PWR_HSUP_LPEN).testBit (c.val / 2)

/-- A sample of a course (R524, R525): the state, and the delta with its flags. -/
def State.lpSample (s : State) (c : Course) (h : BitVec 3) : State :=
  let p := s.posn c
  if !s.lpCounts c || h = p.lpPrev then s
  else
    let t := s.modPos c (fun p => { p with lpPrev := h })
    match sectorOf h, p.ref with
    | none, _ => (t.put (R.POS_STAT_HINV c) 1).bump (R.POS_STAT_HINVCNT c)
    | some n, none => t.modPos c (fun p => { p with ref := some n })
    | some n, some r =>
      let d := (n + 6 - r) % 6
      let x := clampInt (p.lpDelta + s.posStep c d) (-(2 ^ 23)) (2 ^ 23 - 1)
      let t := t.when (sectorSkip d) (fun t => (t.bump (R.POS_STAT_SKIPCNT c)).posUnc c 2)
      let t := t.when x.2 (·.posUnc c 3)
      t.modPos c (fun p => { p with
        ref := some n, lpDelta := x.1, lpLast := if d = 1 ∨ d = 5 then some (s.time.aoCount, s.time.dtime) else p.lpLast })

/-- The hand-off of the low-power counts (R526, R527); stopped says that the beat was stopped, so times come by R80. -/
def State.lpHandoff (s : State) (stopped : Bool) : State :=
  allCourses.foldl (fun t (c : Course) =>
    let p := s.posn c
    let t := t.setReg (RW.POS_LPD c) (Word.ofN (BitVec.ofInt 24 p.lpDelta).toNat)
    let t := if s.lpCounts c then (t.posAdd c p.lpDelta).modPos c (fun q => { q with hst := p.lpPrev })
      else if s.on (R.POS_CFG_EN c) then t.modPos c (fun q => { q with cmp := some (p.hst, s.time.dtime) })
      else t
    let t := match p.lpLast with
      | some (n, d) =>
        let at' := if stopped then s.time.dStop + Word.ofN (aoBeats n s.aoK) else d
        (t.setReg (RW.POS_LAST c) at').put (R.POS_TINT_LP c) 1
      | none => t
    (t.posBreak c).posShow c) s

end Sys2Proof.Machine
end

