-- ==== Sys2Proof/Machine/Reset.lean ====
section
/-!
DEFINITION. Machine/Reset.lean: what each reset kind and power state keeps, how a reset begins and which of several runs
(spec/04 R134 to R142), OFF and POR (spec/03 R106, R113, R854), and the pins RESET_N and FAULT_N.
-/
namespace Sys2Proof.Machine

def State.modPwr (s : State) (f : Power → Power) : State := { s with pwr := f s.pwr }

/-! ## What is kept -/

/-- Whether a reset of a kind, or a wake from REST (7), loses a keep class (R139). -/
def resetLoses (kind : Nat) : Keep → Bool
  | .n => false
  | .a => kind = 1
  | .w => kind = 1 || kind = 2 || kind = 7
  | .s => true
  | .v => true

/-- Fields of the lost classes return to their values after reset (R22, R23, R139). -/
def State.loseClasses (s : State) (lost : Keep → Bool) : State := { s with regs := loseRegs lost s.regs }

/-- RST_KEYST.OPEN at the start of every reset and wake from REST (R155). Log entry 8, DESIGN CHOICE. -/
def State.closeDebug (s : State) : State := s.putB R.RST_KEYST_OPEN (!s.on R.RST_KEYST_LOCKED)

/-- An entry at a reset that keeps the ledger: a live one ends ABORTED with the position of its course (R705). -/
def State.entryAtReset (s : State) (e : LEntry) : LEntry :=
  if e.state = 1 ∨ e.state = 2 then
    { e with state := 4, replied := false, pos := e.course.elim 0 (fun c => s.reg (RW.POS_CNT c)) }
  else e

/-- The private store of the ledger at a reset that keeps class W (R703, R705, R708): live entries end, each of class 1 to 3 over
CAN with the grant of its credit. -/
def State.ledgAtReset (s : State) : Ledger :=
  let orig := s.ledg.orig.map (fun x =>
    let ended (k : Nat) : Nat := (x.entries.filter (fun e => (e.state = 1 || e.state = 2) && !e.lin && e.cls.toNat == k)).length
    { x with
      entries := x.entries.map s.entryAtReset
      g := x.g.mapIdx (fun k v => v + BitVec.ofNat 16 (ended (k + 1))) })
  { s.ledg with orig := orig, waits := [], held := [], beacon := none, open' := false, rewrite := false }

/-- Device and network time after a reset of a kind, or a wake from REST (R59, R63, R78, R79, R96): a BOR stops the beat, unless it has
stopped already or its hand-off is still to come; k is K then. -/
def Time.atReset (t : Time) (kind k : Nat) : Time :=
  match kind with
  | 1 => {}
  | 2 =>
    let u := if t.beatOn && !t.handoff then { t.holdK k with dStop := t.dtime, aoCount := 0 } else t
    { u with
      refValid := false, pllLocked := false, beatOn := false, handoff := false, onCrystal := false, beacons := []
      tpHigh := false, tpDue := false, tpNext := false, dlGood := Vector.replicate 2 0 }
  | 7 => { t with onCrystal := false, beacons := [] }
  | _ => { t with beacons := [] }

/-- The power stage after a reset of a kind: what belongs to fields of class W is kept where they are (R139, R346, R394, R398, R431), and the
levels of the external pins are the board's. -/
def State.stageAtReset (s : State) (cold : Bool) : Stage :=
  { courses := if cold then Vector.replicate 8 {} else s.stage.courses.map (fun x => { act := x.act, lat := x.lat })
    hbs := s.stage.hbs.mapIdx (fun k h => { xp := h.xp, xe := h.xe, seen := h.seen, src := if cold then 0 else s.get (R.SRC k) })
    doms := if cold then Vector.replicate 4 {} else s.stage.doms.map (fun x => { latched := x.latched }) }

/-- What the typed parts hold after a reset of a kind, or a wake from REST (R139 to R142, R175, R159, R790). -/
def State.resetParts (s : State) (kind : Nat) : State :=
  let cold := kind = 1 ∨ kind = 2 ∨ kind = 7
  { s with
    core := {}
    now := {}
    time := s.time.atReset kind s.aoK
    mem := { s.mem with
      ramErr := if cold then [] else s.mem.ramErr
      ramWb := [], mramWb := [], persists := [], woData := Vector.replicate 3 0, woTaken := []
      jAt := if kind = 1 then 0 else s.mem.jAt
      ramScrub := if kind = 1 then 0x100000 else s.mem.ramScrub
      mramScrub := if kind = 1 then 0 else s.mem.mramScrub }
    ram := if cold then [] else s.ram
    dbg := { s.dbg with trace := [], accStat := 0, accAddr := 0, accData := 0, acc := none, gatesOff := true }
    stage := s.stageAtReset (decide cold)
    acq := {}
    pos := if kind = 1 then Vector.replicate 8 {} else s.pos
    tc := Vector.replicate 16 {}
    iconv := if cold then {} else s.iconv
    net := {}
    rsv := {}
    host := {}
    twin := { tail := s.twTail }
    link := {}
    ledg := if cold then {} else s.ledgAtReset
    sup := { calls := if cold then 0 else s.sup.calls }
    fadc := {}
    flash := {} }

/-! ## Reset kinds -/

/-- What a reset counts and marks before it takes the queue and the counters (R467, R488, R524): the entries of the queue are counted in QDROP
but at POR; at a BOR the charge counters hold what has been counted, and the sampler takes over the Hall counts at the beat stop of a BOR, if
it has not done so before. -/
def State.beforeReset (s : State) (kind : Nat) : State :=
  let t := (s.when (kind != 1) (·.count RW.FADC_QDROP s.fadc.queue.length)).when (kind == 2) (·.icSeen)
  t.when (kind == 2 && s.time.beatOn && !s.time.handoff) (·.lpBegin)

/-- Status fields of class V show the conditions that a reset does not end from its first beat on (R63, R102, R106): the supply in use, and,
while the regulators and the beat keep running, those and the lock of the PLL. s is the state before. Log entry 65, DEDUCED. -/
def State.showStatus (t s : State) (cold : Bool) : State :=
  let t := t.putB R.PWR_STAT_VSRC t.pwr.vsrc
  if cold then t
  else (((t.putB R.TIME_STAT_PLL_LOCK t.time.pllLocked).put R.PWR_STAT_VREG5_OK (s.get R.PWR_STAT_VREG5_OK)).put
    R.PWR_STAT_VIO_OK (s.get R.PWR_STAT_VIO_OK)).put R.PWR_STAT_VCORE_OK (s.get R.PWR_STAT_VCORE_OK)

/-- The power state at the start of a reset (R134, R137). -/
def Power.atReset (p : Power) (kind : Nat) : Power :=
  let cold : Bool := kind == 1 || kind == 2
  { p with
    mode := if cold then .start else .run, boot := if cold then .regs else .flow, kind := kind, entry := none
    rstDrive := kind != 3, wake := none, heldReq := none, image := none, offLatch := false
    lpWakes := if kind = 1 then [] else p.lpWakes, vsrc := p.vsrc && kind != 1
    wtimer := false, rvTx := if kind = 1 then 0 else p.rvTx, rvPos := Vector.replicate 8 0, rvAt := none, rvDecided := false, pinPend := false
    logLost := p.logLost && kind != 1 }

/-- A reset begins (R134, R137, R139 to R142): RST_STAT, the lost classes and the parts. Log entry 65, DEDUCED. -/
def State.enterReset (s : State) (kind : Nat) : State :=
  let cold : Bool := kind == 1 || kind == 2
  let gap := s.fadc.gap || !s.fadc.queue.isEmpty
  let t := ((s.beforeReset kind).resetParts kind).loseClasses (resetLoses kind)
  let t := t.when (kind != 1) (·.modFadc (fun f => { f with gap := gap }))
  let t := (t.put R.RSV_SDSTAT_STEP 0).when cold (·.chgGap 5)
  let t := t.when (kind != 1) (fun t => (t.put R.RST_STAT_KIND kind).put R.RST_STAT_COUNT (satAdd 16 (s.get R.RST_STAT_COUNT) 1))
  (((t.modPwr (·.atReset kind)).showStatus s cold).closeDebug).refreshAll

/-- A cause of a reset kind occurs (R135): it is recorded, and the reset runs unless one of at least its rank is in
progress. Log entry 19, DEDUCED. -/
def State.resetCause (s : State) (kind : Nat) : State :=
  if s.pwr.mode = .off then s
  else if s.outranks kind then s.noteKind kind
  else (s.noteKind kind).enterReset kind

/-- The reset at the end of an escalation (R134, R326 to R328), which is in progress since beat F (R135). Log entry 18, DEDUCED. -/
def State.escReset (s : State) (lost : Bool) : State :=
  match s.core.esc with
  | none => s
  | some e =>
    let t := s.modPwr (fun p => { p with logLost := lost })
    if s.pwr.kind = 5 then t.enterReset 5 else (t.put R.RST_STAT_WDRSRC e.wdrsrc.toNat).enterReset 4

/-- A POR begins (R134, R140): everything but class N and the MRAM returns to its value after reset. -/
def State.por (s : State) : State := s.enterReset 1

/-- OFF is entered (R111, R113): every other part of the device is unpowered; latch says the OFF latch is set. -/
def State.enterOff (s : State) (latch : Bool) : State :=
  (s.por).modPwr (fun p => { p with mode := .off, kind := 0, offLatch := latch, rstDrive := false })

/-! ## Commands -/

/-- POWER_ON (R106, R114, R134): VSUP rises through the power-on threshold. -/
def execPowerOn (s : State) : Host.Outcome State Fault Refusal :=
  if s.pwr.mode = .off ∧ !s.pwr.offLatch then done s.por else done s

/-- Whether the monitor of VREG5 (1), VIO (2) or VCORE (3) causes a BOR (R854): in RUN and DOZE, in a wake sequence from STANDBY that of VCORE
alone from the end of X1, and all three once the regulators have started at a POR, a BOR or a wake from REST. -/
def State.borArmed (s : State) (src : BitVec 2) : Bool :=
  src != 0 && (s.watching || (s.pwr.mode = .start && s.pwr.boot != .regs)
    || (s.pwr.mode = .standby && src == 3 && s.pwr.wake.any (fun w => w != .regs)))

/-- BROWNOUT (R106, R134, R854): VREG5 (1), VIO (2) or VCORE (3) falls below its threshold; where its monitor causes no BOR, the fall is not
reported. BORSRC is the cause of a BOR that runs. Log entry 19, DEDUCED. -/
def execBrownout (src : BitVec 2) (s : State) : Host.Outcome State Fault Refusal :=
  if s.borArmed src then done ((s.resetCause 2).when (!s.outranks 2) (·.put R.RST_STAT_BORSRC src.toNat)) else done s

/-- SUPPLY_LOSS_OFF (R106, R113): VSUP falls below 3.6 V; an OFF latch loses its supply. -/
def execSupplyLossOff (s : State) : Host.Outcome State Fault Refusal := done (s.enterOff false)

/-- OFF_LATCH_RELEASE (R113, R114): VBAT rises above 4.0 V and the OFF latch ends in a POR. -/
def execOffLatchRelease (s : State) : Host.Outcome State Fault Refusal :=
  if s.pwr.mode = .off ∧ s.pwr.offLatch then done s.por else done s

/-- VSUP_SOURCE_SWITCH (R102): VSRC shows the input that supplies VSUP. -/
def execVsupSourceSwitch (toVrsv : Bool) (s : State) : Host.Outcome State Fault Refusal :=
  if s.pwr.mode = .off then done s else done ((s.modPwr (fun p => { p with vsrc := toVrsv })).putB R.PWR_STAT_VSRC toVrsv)

/-- SOFTWARE_RESET (R134, R326): SWR with the correct KEY starts an escalation; FAULTOUT of the same write takes effect. -/
def execSoftwareReset (_m : Master) (v : Word) (s : State) : Host.Outcome State Fault Refusal :=
  let t := s.put R.RST_CTL_FAULTOUT (getBits v 17 1)
  if getBits v 16 1 = 1 ∧ getBits v 0 16 = 0xC3A5 then done (t.escalate 3 5 0) else done t

/-- The escalation entry has not committed by the end of beat D + 639 (R328). -/
def State.escLate (s : State) : Bool := s.core.esc.any (fun e => e.snapped && reached s.time.dtime (e.d + 640))

/-- ESCALATION_LOG_TIMEOUT (R328): the reset begins in beat D + 640 although the escalation entry has not committed. Log entry 18, DEDUCED. -/
def execEscalationLogTimeout (s : State) : Host.Outcome State Fault Refusal := done (s.when s.escLate (·.escReset true))

/-! ## Pins -/

/-- FAULT_N is low (R138). -/
def State.faultLow (s : State) : Bool :=
  s.pwr.boot != .user || s.on R.RST_CTL_FAULTOUT || s.protFaultN

end Sys2Proof.Machine
end

