-- ==== Sys2Proof/Machine/Can.lean ====
section
/-!
DEFINITION. Machine/Can.lean: the CAN and LIN controllers: transmit buffers, filters and rings, errors and bus-off, the wake
transmission (spec/24), and NSEND (R307 to R309).
-/
namespace Sys2Proof.Machine

def State.modNet (s : State) (f : Net → Net) : State := { s with net := f s.net }
/-- Change one CAN transmit buffer. -/
def State.setCan (s : State) (k : Fin 8) (x : Option CanTx) : State := s.modNet (fun n => { n with can := n.can.set k x })
/-- Put a message on a port; a twin chip that does not drive sends nothing (R675, R683, R729). -/
def State.send (s : State) (p : Port) (k : SentKind) (ws : List Word) : State :=
  if s.twinDrives then { s with sent := ⟨p, k, ws⟩ :: s.sent } else s

def canBufs : List (Fin 8) := [0, 1, 2, 3, 4, 5, 6, 7]
def linBufs : List (Fin 4) := [0, 1, 2, 3]

/-! ## Descriptors -/

/-- A field of a descriptor word. -/
def fieldOf (w : Word) (lo len : Nat) : Nat := getBits w lo len

/-- The payload length of a DLC (R665). -/
def dlcBytes (fdf : Bool) (d : Nat) : Nat :=
  if d ≤ 8 then d else if !fdf then 8 else [12, 16, 20, 24, 32, 48, 64].getD (d - 9) 64

/-- Words of a CAN descriptor (R665). -/
def canDescLen (w : Word) : Nat :=
  if fieldOf w 32 1 = 1 then 1 else 1 + (dlcBytes (fieldOf w 30 1 == 1) (fieldOf w 33 4) + 5) / 6

/-- A malformed CAN descriptor (R666). -/
def canMalformed (w : Word) : Bool :=
  fieldOf w 42 6 != 0 || decide (8 < fieldOf w 37 4) || (fieldOf w 31 1 == 1 && fieldOf w 30 1 == 0)
    || (fieldOf w 32 1 == 1 && fieldOf w 30 1 == 1) || (fieldOf w 29 1 == 0 && fieldOf w 0 18 != 0)

/-- A malformed LIN descriptor for a mode: 1 master, 2 slave (R680). -/
def linMalformed (mode : Nat) (w : Word) : Bool :=
  let len := fieldOf w 6 4
  let tb := fieldOf w 14 4
  fieldOf w 18 30 != 0 || len == 0 || decide (8 < len) || (decide (4 ≤ tb) && tb != 8) || fieldOf w 12 2 == 3
    || (if mode = 1 then fieldOf w 11 1 == 0 else fieldOf w 11 1 == 1 || fieldOf w 12 2 != 0)

/-! ## Modes -/

/-- The transceivers are in their low-power modes: from step E2 of an entry on (R121). -/
def State.netAsleep (s : State) : Bool := s.pwr.entry = some .e2 || s.pwr.entry = some .e3
/-- A twin chip listens only: a shadow, and a chip that has released or lost its pair (R683, R750). -/
def State.listens (s : State) : Bool := s.isTwin && decide (3 ≤ s.get R.PEER_TWSTAT_STATE)
/-- The CAN mode in force: a chip that listens only is in LISTEN, a cascade follower is off (R683, R684, R750). -/
def State.canMode (s : State) : Nat :=
  if s.netAsleep then 0 else if s.get R.RST_STRAP_ROLE = 3 ∧ s.get R.PEER_CSSTAT_POS ≠ 0 then 0
  else if s.shadowing || (s.listens && s.on R.CAN_CTL_MODE) then 3 else s.get R.CAN_CTL_MODE
/-- The LIN mode in force (R684). -/
def State.linMode (s : State) : Nat :=
  if s.netAsleep then 0 else if s.get R.RST_STRAP_ROLE = 3 ∧ s.get R.PEER_CSSTAT_POS ≠ 0 then 0 else s.get R.LIN_CTL_MODE

/-- Frames of other nodes are received: in RUN or DOZE with the controller in NORMAL or LISTEN (R669, R675). -/
def State.canHears (s : State) : Bool := s.watching && (s.canMode = 2 || s.canMode = 3)

/-- Assert the CAN line when a bit of EVSEL is set: 0 RX, 1 TX, 2 ERR. -/
def State.canEv (s : State) (bit : Nat) : State := s.when ((s.get R.CAN_CTL_EVSEL).testBit bit) (·.assertEv 118)
/-- Assert the LIN line when a bit of EVSEL is set. -/
def State.linEv (s : State) (bit : Nat) : State := s.when ((s.get R.LIN_CTL_EVSEL).testBit bit) (·.assertEv 119)

/-! ## CAN transmit buffers -/

/-- Data bytes six to a word, most significant byte first, unused bytes zero (R665): n words. -/
def packBytes : Nat → List (BitVec 8) → List Word
  | 0, _ => []
  | n + 1, bs => Word.ofN ((bs.take 6 ++ List.replicate (6 - bs.length) 0).foldl (fun (v : Nat) (b : BitVec 8) => v * 256 + b.toNat) 0) :: packBytes n (bs.drop 6)

/-- The smallest DLC whose payload holds n bytes (R665). -/
def dlcOf (n : Nat) : Nat :=
  if n ≤ 8 then n else 9 + (([12, 16, 20, 24, 32, 48] : List Nat).filter (· < n)).length

/-- The descriptor of an RCP frame (R665, R686): classical, or CAN FD with bit-rate switching; its payload is filled with zeros up to that of
its DLC. -/
def rcpDesc (fd : Bool) (id : Nat) (bytes : List (BitVec 8)) : List Word :=
  let d := dlcOf bytes.length
  Word.ofN (id + 2 ^ 29 + (if fd then 2 ^ 30 + 2 ^ 31 else 0) + d * 2 ^ 33) :: packBytes ((dlcBytes fd d + 5) / 6) bytes

/-- The n-th byte of a descriptor's payload. -/
def descByte (desc : List Word) (n : Nat) : Nat := getBits (desc.getD (1 + n / 6) 0) (40 - 8 * (n % 6)) 8

/-- Put a waiting frame of the ledger or the rest engine into a transmit buffer (R687, R715); its release is journaled (R737, R744). -/
def State.engPut (s : State) (k : Fin 8) (x : EngFrame) : State :=
  ((s.setCan k (some { desc := x.desc, kind := x.kind, wake := x.seven })).modNet (fun n => { n with engine := n.engine.erase x })).jot 7
    [0, Word.ofN k.val, 0, 0]

/-- The transmit buffer of the ledger and the rest engine (R687, R715). -/
def State.txbuf (s : State) : Fin 8 := ⟨s.get R.LEDG_CFG_TXBUF % 8, Nat.mod_lt _ (by decide)⟩

/-- Frames of the ledger and the rest engine enter buffer LEDG_CFG.TXBUF in order as it is free, a WAKE_ABORT buffer 7 (R687, R715). Log entry
68, DESIGN CHOICE. -/
def State.engFill (s : State) : State :=
  let t := match s.net.engine.find? (·.seven), s.net.can[(7 : Fin 8)] with
    | some x, none => s.engPut 7 x
    | _, _ => s
  match t.net.engine.find? (!·.seven), t.net.can[t.txbuf] with
  | some x, none => t.engPut t.txbuf x
  | _, _ => t

/-- A frame of the ledger or the rest engine is on its way, a class-0 reply before all that wait (R687). Log entry 68, DESIGN CHOICE. -/
def State.engAdd (s : State) (x : EngFrame) : State :=
  (s.modNet (fun n => { n with
    engine := if x.first then n.engine.takeWhile (·.first) ++ [x] ++ n.engine.dropWhile (·.first) else n.engine ++ [x] })).engFill

/-- Send a frame of the ledger or the rest engine; a twin chip that does not drive sends nothing (R683, R729). -/
def State.engSend (s : State) (x : EngFrame) : State := if s.twinDrives then s.engAdd x else s

/-- The frame of a REST_COMMIT, which the coordinator's commit interval waits for (R720). -/
def CanTx.isCommit (x : CanTx) : Bool := x.kind == .control && descByte x.desc 0 == 4

/-- The coordinator's REST_COMMIT has ended without being sent: the vote is over as if it had been cancelled. Log entry 68, DESIGN CHOICE. -/
def State.commitLost (s : State) : State :=
  if s.pwr.rvDecided then ((s.put R.PWR_RVSTAT_PHASE 0).put R.PWR_RVSTAT_OUTCOME 2).modPwr (fun p => { p with rvDecided := false }) else s

/-- End a CAN transmit buffer with a result (R668). -/
def State.canEnd (s : State) (k : Fin 8) (result : Nat) (ts : Nat) : State :=
  let lost := result != 1 && (s.net.can[k]).any (·.isCommit)
  (((((s.setCan k none).put (R.CAN_TB_RES_RESULT k) result).put (R.CAN_TB_RES_TS k) ts).canEv 1).jot 7
    [0, Word.ofN k.val, Word.ofN result, Word.ofN ts]).when lost (·.commitLost) |>.engFill

/-- Every pending CAN buffer ends DISCARDED (R668, R674, R685). -/
def State.canDiscard (s : State) : State :=
  canBufs.foldl (fun t k => if (t.net.can[k]).isSome then t.canEnd k 4 0 else t) s

/-- End a LIN transmit buffer with a result (R668, R681). -/
def State.linEnd (s : State) (k : Fin 4) (result : Nat) (ts : Nat) : State :=
  ((((s.modNet (fun n => { n with lin := n.lin.set k none })).put (R.LIN_TB_RES_RESULT k) result).put (R.LIN_TB_RES_TS k) ts).linEv 1).jot 7
    [1, Word.ofN k.val, Word.ofN result, Word.ofN ts]

/-- Every pending LIN buffer ends DISCARDED (R685). -/
def State.linDiscard (s : State) : State :=
  (linBufs.foldl (fun t k => if (t.net.lin[k]).isSome then t.linEnd k 4 0 else t) s).modNet (fun n => { n with linCur := none })

/-- Order of two pending CAN frames: the wake transmission goes ahead of every other; then by identifier unless TXORD is 1;
equal identifiers go to the lower buffer (R667, R678). -/
def canBefore (txord : Bool) (a b : CanTx) : Bool :=
  if a.wake ≠ b.wake then a.wake
  else if txord then false
  else decide (fieldOf (a.desc.getD 0 0) 0 29 < fieldOf (b.desc.getD 0 0) 0 29)

/-- The pending CAN buffer that enters arbitration next (R667). -/
def State.canNext (s : State) : Option (Fin 8) :=
  canBufs.foldl (fun best k => match s.net.can[k] with
    | none => best
    | some x => match best with
      | none => some k
      | some b => match s.net.can[b] with
        | none => some k
        | some y => if canBefore (s.on R.CAN_CTL_TXORD) x y then some k else best) none

/-- A frame begins in buffer k (R89, R667, R671, R719): its SOF stamp is now, with the network time latched there, and the coordinator's
answer window counts from that of its REST_QUERY. -/
def State.canBegin (s : State) (k : Fin 8) (x : CanTx) : State :=
  let t := s.setCan k (some { x with sof := some s.time.dtime, nl := BitVec.ofNat 64 (s.time.nt.toNat / 2 ^ 24) })
  t.when (x.kind == .control && descByte x.desc 0 == 1) (·.modPwr (fun p => { p with rvAt := some s.time.dtime }))

/-- CAN_TRANSMISSION_START (R667, R671, R674): the frame that R667 chooses enters arbitration at its SOF. -/
def execCanTransmissionStart (k : Fin 8) (s : State) : Host.Outcome State Fault Refusal :=
  let live := s.watching && (s.canMode = 2 || s.canMode = 4) && s.get R.CAN_STAT_STATE != 2
    && (!s.isTwin || s.time.pllLocked)
  match s.net.can[k] with
  | some x =>
    if live && s.canNext = some k && x.sof.isNone && !canBufs.any (fun j => ((s.net.can[j]).bind (·.sof)).isSome) then
      let t := s.canBegin k x
      if s.canMode = 2 then done (t.send .can (if x.wupf then .canWakeup else x.kind) (if x.wupf then [] else x.desc)) else done t
    else done s
  | none => done s

/-- TXABORT (R668): a write of CAN_TXABORT. -/
def execCanTxAbort (_m : Master) (mask : BitVec 8) (s : State) : Host.Outcome State Fault Refusal :=
  if s.shadowing then done s else
  done (canBufs.foldl (fun t k => match t.net.can[k] with
    | some x => if mask.getLsbD k.val && x.sof.isNone then t.canEnd k 2 0 else t
    | none => t) s)

/-! ## Receive rings -/

/-- A twin shadow keeps the last 16 frames that its controllers receive (R755). -/
def State.heard (s : State) (e : RxEvent) : State := s.modTwin (fun x => { x with heard := (x.heard ++ [e]).drop (x.heard.length + 1 - 16) })

/-- The bytes of a descriptor's data words. -/
def unpackBytes (n : Nat) (ws : List Word) : List (BitVec 8) :=
  (ws.flatMap (fun w => ([40, 32, 24, 16, 8, 0] : List Nat).map (fun lo => BitVec.ofNat 8 (getBits w lo 8)))).take n

/-- Whether the words at an address are RAM that owner 0x01 may write (R670). -/
def State.ringOpen (s : State) (a n : Nat) : Bool :=
  (List.range n).all (fun k => match s.fenceOwner (a + k) with | some o => o == 1 | none => true)

/-- Write words into RAM from an address up. -/
def State.ramWrite (s : State) (a : Nat) (ws : List Word) : State :=
  (ws.foldl (fun (p : Nat × State) w => (p.1 + 1, p.2.ramSet p.1 w)) (a, s)).2

/-- The first filter that matches a frame (R669). -/
def State.canFilter (s : State) (f : CanFrame) : Option Nat :=
  (List.range 16).find? (fun n => s.on (R.CAN_FLT_EN n) && (s.on (R.CAN_FLT_IDE n) == f.ide)
    && ((f.id.toNat ^^^ s.get (R.CAN_FLT_ID n)) &&& s.get (R.CAN_FMSK_MASK n)) == 0)

/-- Word 0 of a frame as R665 lays it out, up to DLC. -/
def canWord0 (f : CanFrame) : Nat :=
  f.id.toNat + f.ide.toNat * 2 ^ 29 + f.fdf.toNat * 2 ^ 30 + f.brs.toNat * 2 ^ 31 + f.rtr.toNat * 2 ^ 32 + f.dlc.toNat * 2 ^ 33

/-- A received frame is filtered and recorded in its ring (R669, R670, R672, R673). -/
def State.canReceive (s : State) (f : CanFrame) : State :=
  match s.canFilter f with
  | none => s.bump R.CAN_CNT_NOMATCH
  | some n =>
    let k : Fin 2 := if s.on (R.CAN_FLT_RING n) then 1 else 0
    let base := s.get (R.CAN_RXR_BASE k)
    let len := s.get (R.CAN_RXR_LEN k)
    let wp := s.reg (RW.CAN_RXWP k)
    let a := base + 14 * (wp.toNat % len)
    if len = 0 ∨ base < 0x100000 ∨ 0x200000 < base + 14 * len ∨ !s.ringOpen a 14 then s.bump R.CAN_CNT_RXOVR
    else if (s.get R.CAN_CTL_RXCHK).testBit k.val ∧ len < (wp + 1 - s.reg (RW.CAN_RXRD k)).toNat then
      (s.bump R.CAN_CNT_RXOVR).modNet (fun m => { m with canGap := m.canGap.set k true })
    else
      let w0 := canWord0 f + n * 2 ^ 37 + k.val * 2 ^ 41 + f.esi.toNat * 2 ^ 42 + (s.net.canGap[k]).toNat * 2 ^ 43
      let t := s.ramWrite a ([Word.ofN w0, f.sof, f.crc.zeroExtend 48] ++ packBytes 11 f.data)
      (((t.modNet (fun m => { m with canGap := m.canGap.set k false })).setReg (RW.CAN_RXWP k) (wp + 1)).canEv 0)

/-- A frame for the filters is received, and a primary journals it (R669, R737). -/
def State.canTake (s : State) (f : CanFrame) : State := (s.canReceive f).jotRx (.can f)

/-- Count a good frame down an error counter (R674; ISO 11898-1, log entry 20, PRESUMED). -/
def State.canGood (s : State) (f : Fld) : State := s.put f (s.get f - 1)

/-- CAN_PROTOCOL_EXCEPTION (R662). -/
def execCanProtocolException (s : State) : Host.Outcome State Fault Refusal :=
  if s.watching && !s.shadowing && decide (2 ≤ s.canMode) then done (s.bump R.CAN_STAT_PEXCNT) else done s

/-- The frame a transmit buffer sends, as the controller receives it in LOOPBACK (R669); its CRC is a free value. Log entry 55, DESIGN CHOICE. -/
def State.ownFrame (s : State) (x : CanTx) : CanFrame :=
  let w := x.desc.getD 0 0
  { id := BitVec.ofNat 29 (fieldOf w 0 29), ide := fieldOf w 29 1 == 1, fdf := fieldOf w 30 1 == 1, brs := fieldOf w 31 1 == 1
    rtr := fieldOf w 32 1 == 1, dlc := BitVec.ofNat 4 (fieldOf w 33 4), esi := false, crc := s.freeWord.setWidth 16
    sof := x.sof.getD 0
    data := if fieldOf w 32 1 = 1 then [] else unpackBytes (dlcBytes (fieldOf w 30 1 == 1) (fieldOf w 33 4)) (x.desc.drop 1) }

/-- A frame under transmission ends, acknowledged or not (R668, R669, R678). -/
def State.canTxEnd (s : State) (k : Fin 8) (ok : Bool) : State :=
  match s.net.can[k] with
  | none => s
  | some x => match x.sof with
    | none => s
    | some sof =>
      if ok && x.wupf then
        (s.setCan k (some { x with sof := none, wupf := false })).canGood R.CAN_STAT_TEC
      else if ok then
        let t := (s.canEnd k 1 (sof.toNat % 2 ^ 40)).canGood R.CAN_STAT_TEC
        (if s.canMode = 4 then (t.useFree).canTake (s.ownFrame x) else t)
      else if fieldOf (x.desc.getD 0 0) 41 1 = 1 then (s.canEnd k 3 0)
      else s.setCan k (some { x with sof := none })

/-! ## Errors and bus-off -/

/-- The state of fault confinement from the counters (ISO 11898-1, log entry 20, PRESUMED): 0 active, 1 passive, 2 bus-off. -/
def State.canErrState (s : State) : Nat :=
  if 256 ≤ s.get R.CAN_STAT_TEC then 2 else if 128 ≤ s.get R.CAN_STAT_TEC ∨ 128 ≤ s.get R.CAN_STAT_REC then 1 else 0

/-- CAN_BUS_ERROR (R674): an error of a frame being sent (tx) or received, with its last error code. Log entry 20, PRESUMED. -/
def execCanBusError (lec : BitVec 3) (tx : Bool) (s : State) : Host.Outcome State Fault Refusal :=
  if s.watching && !s.shadowing && decide (2 ≤ s.canMode) && s.get R.CAN_STAT_STATE != 2 then
    let old := s.get R.CAN_STAT_STATE
    let t := (s.put R.CAN_STAT_LEC lec.toNat).bump (if tx then R.CAN_STAT_TEC else R.CAN_STAT_REC) (if tx then 8 else 1)
    let t := t.put R.CAN_STAT_STATE t.canErrState
    if t.get R.CAN_STAT_STATE = old then done t
    else
      let t := t.canEv 2
      if t.get R.CAN_STAT_STATE = 2 then
        done (((t.bump R.CAN_CNT_BOCNT).when (t.on R.CAN_CTL_BODISC) (·.canDiscard)).modNet
          (fun n => { n with recover := t.on R.CAN_CTL_AUTOREC, can := n.can.map (·.map (fun x => { x with sof := none })) }))
      else done t
  else done s

/-- RECOVER (R674): bus-off recovery starts. -/
def execCanRecover (_m : Master) (s : State) : Host.Outcome State Fault Refusal :=
  if s.get R.CAN_STAT_STATE = 2 then done (s.modNet (fun n => { n with recover := true })) else done s

/-- BUS_OFF_RECOVERY_END (R674): 128 occurrences of 11 recessive bits end bus-off. -/
def execBusOffRecoveryEnd (s : State) : Host.Outcome State Fault Refusal :=
  if s.get R.CAN_STAT_STATE = 2 ∧ s.net.recover then
    done (((((s.put R.CAN_STAT_STATE 0).put R.CAN_STAT_TEC 0).put R.CAN_STAT_REC 0).modNet (fun n => { n with recover := false })).canEv 2)
  else done s

/-! ## Mode and timing writes -/

/-- Whether CAN_NBT and CAN_DBT hold rates that R663 accepts. -/
def State.canRatesOk (s : State) : Bool :=
  let nb := (s.get R.CAN_NBT_BRP + 1) * (3 + s.get R.CAN_NBT_TSEG1 + s.get R.CAN_NBT_TSEG2)
  let db := (s.get R.CAN_DBT_BRP + 1) * (3 + s.get R.CAN_DBT_TSEG1 + s.get R.CAN_DBT_TSEG2)
  decide (240 ≤ nb ∧ nb ≤ 1920 ∧ 48 ≤ db)

/-- A write of CAN_CTL but for RECOVER (R20, R663, R668): MODE 5 to 7 is reserved; leaving CONFIG needs accepted rates; a
change of MODE discards the pending buffers. -/
def State.writeCanCtl (s : State) (v : Word) : State :=
  let old := s.get R.CAN_CTL_MODE
  let new := getBits v 0 3
  let t := s.setReg RW.CAN_CTL (writeFields ((regRow RW.CAN_CTL).elim [] (·.fields)) (s.reg RW.CAN_CTL) v)
  let t := t.put R.CAN_CTL_MODE old
  if 4 < new ∨ new = old then t
  else if old = 1 ∧ !s.canRatesOk then t.put R.CAN_STAT_CFGREJ 1
  else (t.put R.CAN_CTL_MODE new).canDiscard

/-! ## The wake transmission -/

/-- The words of a descriptor, n of them from an address on, as a controller reads them for a strand (R164, R165, R178): a word that reads
uncorrectable is counted by R178 and free. Log entry 45, DEDUCED. -/
def State.descRead (s : State) (i : StrandId) (a : Nat) : Nat → List Word × State
  | 0 => ([], s)
  | n + 1 =>
    let r : Word × State := match s.ramRead a 0 i.val with
      | (some w, t) => (w, t)
      | (none, t) => (t.freeWord, t.useFree)
    let q := r.2.descRead i (a + 1) n
    (r.1 :: q.1, q.2)

/-- The words of a descriptor of the CAN (false) or LIN controller (R665, R680). -/
def State.descWords (s : State) (i : StrandId) (lin : Bool) (a : Nat) : List Word × State :=
  if lin then s.descRead i a 3
  else
    let r := s.descRead i a 1
    let q := r.2.descRead i (a + 1) (canDescLen (r.1.headD 0) - 1)
    (r.1 ++ q.1, q.2)

/-- A wake transmission begins in buffer 7 (R678); while buffer 7 is not free it is refused. -/
def State.canWake (s : State) : State :=
  if (if s.shadowing then s.get R.CAN_CTL_MODE else s.canMode) ≠ 2 then s
  else if (s.net.can[(7 : Fin 8)]).isSome then s.put R.CAN_STAT_CFGREJ 1
  else
    let r := s.descWords 0 false (s.get R.CAN_WAKETX_DESC)
    r.2.setCan 7 (some { desc := r.1, wake := true, wupf := s.on R.CAN_WAKETX_WUPF })

/-- CAN_WAKE_TRANSMIT (R678): a write of CAN_WAKETX.GO. -/
def execCanWakeTransmit (_m : Master) (s : State) : Host.Outcome State Fault Refusal := done s.canWake

/-- Drive the LIN wake pulse, in microseconds (R682). -/
def State.linPulse (s : State) : State :=
  if s.watching && s.linMode != 0 then s.send .lin .linWake [Word.ofN (250 + 250 * s.get R.LIN_CTL_WKLEN)] else s

/-- LIN_WAKE (R682): a write of LIN_CTL.WAKE. -/
def execLinWake (_m : Master) (s : State) : Host.Outcome State Fault Refusal := done s.linPulse

/-! ## LIN frames -/

/-- Whether LIN_IDMASK0 and LIN_IDMASK1 record an identifier (R681). -/
def State.linRecords (s : State) (id : Nat) : Bool :=
  if id < 48 then (s.get R.LIN_IDMASK0_M).testBit id else (s.get R.LIN_IDMASK1_M).testBit (id - 48)

/-- Record a LIN frame in its ring (R681, with the ring rules of R670 and R672): a discarded frame counts in RXOVR, and the next record carries
GAP. Log entry 74, DEDUCED. -/
def State.linReceive (s : State) (f : LinFrame) : State :=
  let base := s.get R.LIN_RXR_BASE
  let len := s.get R.LIN_RXR_LEN
  let wp := s.reg RW.LIN_RXWP
  let a := base + 4 * (wp.toNat % len)
  if !s.linRecords f.id.toNat then s
  else if len = 0 ∨ base < 0x100000 ∨ 0x200000 < base + 4 * len ∨ !s.ringOpen a 4 then (s.bump R.CAN_CNT_RXOVR).modNet (fun n => { n with linGap := true })
  else
    let w0 := f.id.toNat + f.len.toNat * 2 ^ 6 + f.cks.toNat * 2 ^ 10 + f.err.toNat * 2 ^ 12 + s.net.linGap.toNat * 2 ^ 16
    let t := s.ramWrite a ([Word.ofN w0, f.brk] ++ packBytes 2 f.data)
    (((t.modNet (fun n => { n with linGap := false })).setReg RW.LIN_RXWP (wp + 1)).linEv 0).jotRx (.lin f)

/-- LIN_FRAME_RECEIVED (R681): a LIN frame ends; the buffer whose frame it was ends, FAILED on an error. -/
def execLinFrameReceived (f : LinFrame) (s : State) : Host.Outcome State Fault Refusal :=
  if s.shadowing then done (s.heard (.lin f))
  else if !s.watching || s.linMode = 0 then done s
  else
    let t := s.linReceive f
    let t := match f.own with
      | some k => if (t.net.lin[k]).isSome then t.linEnd k (if f.err = 0 then 1 else 3) (f.brk.toNat % 2 ^ 40) else t
      | none => t
    done ((t.when (f.err != 0) (·.linEv 2)).modNet (fun n => { n with linCur := none }))

/-- LIN_HEADER_RECEIVED (R680, R690): a slave publishes its oldest unsent RCP reply under LRPID, and otherwise sends the
response placed for the identifier, from its lowest buffer. -/
def execLinHeaderReceived (id : BitVec 6) (s : State) : Host.Outcome State Fault Refusal :=
  let has (k : Fin 4) : Bool := match s.net.lin[k] with | some (w :: _) => fieldOf w 0 6 == id.toNat | _ => false
  if !s.watching || s.shadowing || s.linMode ≠ 2 then done s
  else if s.on R.LEDG_CFG_EN && id.toNat = s.get R.LEDG_CFG_LRPID then
    match s.ledg.linOut with
    | [] => done s
    | w :: rest => done ({ s with ledg := { s.ledg with linOut := rest } }.send .lin .rcpReply w)
  else match linBufs.find? has with
    | some k => done ((s.modNet (fun n => { n with linCur := some k })).send .lin .linResponse ((s.net.lin[k]).getD []))
    | none => done s

/-! ## NSEND -/

/-- The fault of a descriptor that does not lie wholly in RAM (R308). -/
def descFault (a len : Nat) : Option (Nat × BitVec 24) :=
  match (List.range len).find? (fun k => region ((a + k) % 2 ^ 24) != .ram) with
  | some k => some (if unmapped ((a + k) % 2 ^ 24) then causeADDR else causePROT, BitVec.ofNat 24 (a + k))
  | none => none

/-- The transmit buffer that a descriptor's TBSEL takes, if one is free (R666, R680). -/
def freeBuf {n : Nat} (bufs : List (Fin n)) (used : Fin n → Bool) (tb : Nat) : Option (Fin n) :=
  if tb = 8 then bufs.find? (fun k => !used k) else bufs.find? (fun k => k.val == tb && !used k)

/-- Place a frame in a transmit buffer of the CAN (false) or LIN controller (R666, R680, R737). -/
def State.placeFrame (s : State) (lin : Bool) (k : Nat) (ws : List Word) : State :=
  let t := if lin then s.modNet (fun n => { n with lin := n.lin.setIfInBounds k (some ws) })
    else s.modNet (fun n => { n with can := n.can.setIfInBounds k (some { desc := ws }) })
  t.jot 7 [if lin then 1 else 0, Word.ofN k, 0, 0]

/-- The code and detail that an nsend ends with by word 0 of its descriptor (R308, R666, R680): a twin shadow judges by the modes that its
registers replay. -/
def State.nsendCode (s : State) (lin : Bool) (w : Word) : BitVec 4 × BitVec 8 :=
  let cm := if s.shadowing then s.get R.CAN_CTL_MODE else s.canMode
  let lm := if s.shadowing then s.get R.LIN_CTL_MODE else s.linMode
  let off := if lin then lm = 0 ∨ !s.watching else cm ≠ 2 ∧ cm ≠ 4
  let bad := if lin then linMalformed lm w else canMalformed w
  let buf := if lin then (freeBuf linBufs (fun k => (s.net.lin[k]).isSome) (fieldOf w 14 4)).map (·.val)
    else (freeBuf canBufs (fun k => (s.net.can[k]).isSome) (fieldOf w 37 4)).map (·.val)
  if off then (1, 1) else if bad then (1, 2) else match buf with
    | none => (2, 0)
    | some k => (0, BitVec.ofNat 8 k)

/-- An nsend ends (R307 to R309): its frame is in its buffer, or it is refused or BUSY. On a twin shadow the journal reports the beat in which a
frame was placed; of any other end it reports nothing. Log entry 45, DEDUCED. -/
def State.nsendEnd (s : State) (o : Op) (d : BitVec 24) (lin : Bool) : State :=
  let r := s.descWords o.str lin d.toNat
  let j := s.nsendCode lin (r.1.headD 0)
  if s.shadowing && j.1 = 0 then s
  else (r.2.when (j.1 == 0) (·.placeFrame lin j.2.toNat r.1)).finishOp o.id 0 j.1 j.2 (if j.1 = 0 then 1 else 2)

/-- NSEND (R307 to R309): the frame goes to its controller, and the end follows by LONG_OP_COMPLETE. -/
def execNsend (i : StrandId) (x : FmtX) (s : State) : Host.Outcome State Fault Refusal :=
  let d := lowAddr ((s.strand i).rd x.ra)
  let lin := x.imm.getLsbD 0
  let len := if lin then 3 else if region d.toNat = .ram then canDescLen (s.ramAt d.toNat) else 1
  done (s.issueLong i [x.rd, x.ra] (x.unused true true false true || decide (2 ≤ x.imm.toNat)) (descFault d.toNat len)
    (.nsend x.rd d lin) .begun id)

end Sys2Proof.Machine
end

