-- ==== Sys2Proof/Machine/LedgerBase.lean ====
section
/-!
DEFINITION. Machine/LedgerBase.lean: the command ledger's window, entries, persists, replies and credits (R686 to R708), as
the operations that its commands and the other units use.
-/
namespace Sys2Proof.Machine

def State.modLedg (s : State) (f : Ledger → Ledger) : State := { s with ledg := f s.ledg }
/-- The window of an originator, 0 to 12. -/
def State.orig (s : State) (o : Nat) : LOrig := s.ledg.orig.toList.getD o {}
def State.modOrig (s : State) (o : Nat) (f : LOrig → LOrig) : State :=
  s.modLedg (fun l => { l with orig := l.orig.mapIdx (fun k x => if k = o then f x else x) })

/-- The states of an entry (R689). -/
def lAccepted : BitVec 3 := 1
def lRunning : BitVec 3 := 2
def lDone : BitVec 3 := 3
def lAborted : BitVec 3 := 4
def lRejected : BitVec 3 := 5
/-- An entry that has not ended. -/
def LEntry.live (e : LEntry) : Bool := e.state = lAccepted || e.state = lRunning

/-- The entry of a sequence number. -/
def State.lEntry (s : State) (o : Nat) (seq : BitVec 16) : Option LEntry := (s.orig o).entries.find? (fun e => e.seq = seq)
/-- Put an entry in its window, in place of one of the same number. -/
def State.putEntry (s : State) (o : Nat) (e : LEntry) : State :=
  s.modOrig o (fun x => { x with entries := e :: x.entries.filter (fun q => q.seq != e.seq) })
/-- Whether any entry is ACCEPTED or RUNNING (R704, R717). -/
def State.lBusy (s : State) (o : Nat) : Bool := (s.orig o).entries.any (fun e => e.live)
def State.lAnyBusy (s : State) : Bool := (List.range 13).any s.lBusy

/-! ## Credits -/

/-- A count of a class 1 to 3. -/
def crOf (v : Vector (BitVec 16) 3) (cls : Nat) : BitVec 16 := v.toList.getD (cls - 1) 0
def crAdd (v : Vector (BitVec 16) 3) (cls n : Nat) : Vector (BitVec 16) 3 :=
  v.mapIdx (fun k x => if k + 1 = cls then x + BitVec.ofNat 16 n else x)
/-- Credits held: HOLD = G - C - R (R706). -/
def LOrig.hold (x : LOrig) (cls : Nat) : Nat := (crOf x.g cls - crOf x.c cls - crOf x.r cls).toNat
/-- The initial grant of each class (R704, R706). -/
def State.crInit (s : State) : Vector (BitVec 16) 3 := Vector.ofFn (fun k : Fin 3 => BitVec.ofNat 16 (s.get (R.CRINIT (k.val + 1))))

/-! ## Persists -/

/-- A ledger persist, with what waits for its commit. -/
def State.ledgPersist (s : State) (target : Nat) (data : List Word) (w : LWait) : State :=
  let t := s.persist { owner := .ledger s.ledg.nextTag, target := BitVec.ofNat 24 target, data := data }
  t.modLedg (fun l => { l with nextTag := l.nextTag + 1, waits := l.waits ++ [(l.nextTag, w)] })

/-- G, C and R of a class in one word (R698). -/
def LOrig.crWord (x : LOrig) (cls : Nat) : Word :=
  if cls = 0 then 0 else Word.ofN ((crOf x.g cls).toNat * 2 ^ 32 + (crOf x.c cls).toNat * 2 ^ 16 + (crOf x.r cls).toNat)

/-- The words of an entry (R698). -/
def State.entryWords (s : State) (o : Nat) (e : LEntry) : List Word :=
  [Word.ofN (e.seq.toNat + e.state.toNat * 2 ^ 16 + e.cls.toNat * 2 ^ 19 + e.step.toNat * 2 ^ 21
      + (e.course.elim 0 (·.val)) * 2 ^ 29 + e.op.toNat * 2 ^ 32),
    e.pos, Word.ofN (e.outcome.toNat + e.lseq.toNat * 2 ^ 16), (s.orig o).crWord e.cls.toNat]

/-- Persist an entry with the next LSEQ (R698, R699). -/
def State.persistEntry (s : State) (o : Nat) (e : LEntry) (w : LWait) : State :=
  let e' := { e with lseq := s.ledg.lseq + 1 }
  let t := (s.modLedg (fun l => { l with lseq := l.lseq + 1 })).putEntry o e'
  t.ledgPersist (0x7A410 + 4 * (32 * o + e.seq.toNat % 32)) (t.entryWords o e') w

/-- Persist the credit and floor words of an originator (R698, R708). -/
def State.persistCredits (s : State) (o : Nat) (w : LWait) : State :=
  let x := s.orig o
  s.ledgPersist (0x7AA90 + 4 * o) [x.crWord 1, x.crWord 2, x.crWord 3, x.floor.zeroExtend 48] w

/-- Persist the seal (R698, R702). -/
def State.persistSeal (s : State) (on : Bool) : State :=
  (s.modLedg (fun l => { l with open' := l.open' && !on })).ledgPersist 0x7A401 [Word.ofN (on.toNat + s.ledg.lseq.toNat * 2)] (.seal on)

/-! ## Replies -/

/-- The identifier of an RCP frame (R686). -/
def State.rcpId (s : State) (type dst : Nat) : Nat := s.get R.LEDG_CFG_PFX * 2 ^ 11 + type * 2 ^ 8 + s.get R.RST_STRAP_NODE * 2 ^ 4 + dst

/-- The position a reply carries (R701). -/
def State.replyPos (s : State) (e : LEntry) : Word :=
  if e.state = lRunning then e.course.elim 0 (fun c => s.reg (RW.POS_CNT c)) else if e.state = lAborted then e.pos else 0

/-- The bytes of a reply, most significant first (R689, R690). -/
def State.replyBytes (s : State) (e : LEntry) (dup : Bool) : List (BitVec 8) :=
  let p := (s.replyPos e).toNat
  let b (n : Nat) : BitVec 8 := BitVec.ofNat 8 n
  let step := if e.state = lRunning ∨ e.state = lAborted ∨ e.state = lRejected then e.step else 0
  let oc := if e.state = lDone then e.outcome.toNat else 0
  let head := [b (e.seq.toNat / 256), b e.seq.toNat, b (e.state.toNat + dup.toNat * 8 + e.cls.toNat * 16), step]
  if e.lin then head ++ (if e.state = lDone then [b (oc / 256), b oc, 0, 0] else [b (p / 2 ^ 24), b (p / 2 ^ 16), b (p / 2 ^ 8), b p])
  else head ++ [b (p / 2 ^ 40), b (p / 2 ^ 32), b (p / 2 ^ 24), b (p / 2 ^ 16), b (p / 2 ^ 8), b p, b (oc / 256), b oc]

/-- A reply or credit frame goes to its transmit buffer; a primary in ACTIVE holds it until an ASEQ covers the window in which it was formed,
and a shadow until the journal reports it (R687, R744). -/
def State.sendLedg (s : State) (x : EngFrame) : State :=
  if s.active || s.shadowing then s.modTwin (fun y => { y with outbox := y.outbox ++ [(y.seq, x)] }) else s.engSend x

/-- Send or publish a reply (R687, R689, R690). -/
def State.reply (s : State) (o : Nat) (e : LEntry) (dup : Bool) : State :=
  let bs := s.replyBytes e dup
  if e.lin then
    if s.twinDrives then s.modLedg (fun l => { l with linOut := l.linOut ++ [packBytes 2 bs] }) else s
  else s.sendLedg { kind := .rcpReply, desc := rcpDesc true (s.rcpId 1 o) bs, first := e.cls == 0 }

/-- Send the reply of the entry's state and note whether it has been sent. -/
def State.replyEntry (s : State) (o : Nat) (seq : BitVec 16) : State :=
  match s.lEntry o seq with
  | some e => (s.reply o e false).putEntry o { e with replied := s.twinDrives && (e.lin || !s.active) }
  | none => s

/-- The entry that a reply frame names has had its reply sent: DST in the identifier, SEQ and STATE in its first bytes (R686, R689, R712). -/
def State.markReplied (s : State) (x : CanTx) : State :=
  match x.kind, x.desc with
  | .rcpReply, id :: w :: _ =>
    let o := id.toNat % 16
    match s.lEntry o (BitVec.ofNat 16 (getBits w 32 16)) with
    | some e => if e.state.toNat = getBits w 24 3 then s.putEntry o { e with replied := true } else s
    | none => s
  | _, _ => s

/-- Bytes of a number, most significant first. -/
def bytesOf (n len : Nat) : List (BitVec 8) := (List.range len).map (fun k => BitVec.ofNat 8 (n / 2 ^ (8 * (len - 1 - k))))

/-- A frame of a time beacon (R710). -/
def State.beaconFrame (s : State) (bytes : List (BitVec 8)) : EngFrame := { kind := .beacon, desc := rcpDesc true (s.rcpId 2 0xF) bytes }

/-- The SYNC of a time master has been sent (R711): its FOLLOW carries the network time latched at its SOF, and the master's own sample, with tm
equal to nl, waits to be processed. -/
def State.syncSent (s : State) (x : CanTx) : State :=
  if x.kind == .beacon && descByte x.desc 0 == 1 then
    (s.engSend (s.beaconFrame ([2, BitVec.ofNat 8 (descByte x.desc 1)] ++ bytesOf x.nl.toNat 8 ++ bytesOf (s.get R.TIME_STAT_NT_STATE) 1
      ++ bytesOf s.uncWord 4))).queueBeacon x.nl (x.sof.getD 0) x.nl
  else s

/-! ## Progress and end of a request -/

/-- Progress of a live entry (R693, R694, R699). -/
def State.lStep (s : State) (o : Nat) (e : LEntry) (step : BitVec 8) (course : Option Course) : State :=
  s.persistEntry o { e with step := step, course := course.or e.course, state := lRunning, replied := false } .nothing

/-- A live entry ends (R693, R694, R699 to R701, R708): DONE with an outcome or ABORTED with the position; a request of class
1 to 3 over CAN is granted one credit. -/
def State.lEnd (s : State) (o : Nat) (e : LEntry) (ok : Bool) (outcome : BitVec 16) : State :=
  let grant := e.cls != 0 && !e.lin
  let t := if grant then s.modOrig o (fun x => { x with g := crAdd x.g e.cls.toNat 1 }) else s
  let e' := if ok then { e with state := lDone, outcome := outcome, replied := false }
    else { e with state := lAborted, pos := e.course.elim 0 (fun c => s.reg (RW.POS_CNT c)), replied := false }
  t.persistEntry o e' (.ending o e.seq)

/-- Every live entry ends ABORTED (R705). -/
def State.lAbortAll (s : State) : State :=
  (List.range 13).foldl (fun t o => ((t.orig o).entries.filter (fun e => e.live)).foldl (fun u e => u.lEnd o e false 0) t) s

/-- The seal of E1 and of S3 (R702); on an entry into REST the live entries are aborted first (R705). -/
def State.lSeal (s : State) (abort : Bool) : State := (s.when abort (·.lAbortAll)).persistSeal true

end Sys2Proof.Machine
end

