-- ==== Sys2Proof/Machine/Fadc.lean ====
section
/-!
DEFINITION. Machine/Fadc.lean: slots, conversions, the spare rotation and the test DAC of the fast converter (spec/15), with
the commands of the converter and of the courses that request from it.
-/
namespace Sys2Proof.Machine

/-! ## Requests of the courses -/

/-- AUX_MATCH (R352, R354, R355, R418, R448): the counter enters AUX; the event, and the owner's urgent request or blanking window. -/
def execAuxMatch (c : Course) (s : State) : Host.Outcome State Fault Refusal :=
  if s.carrierOn c && (s.pwm c).due.getLsbD 5 then
    let t := (s.clearDue c 5).pwmEvent c 5
    let o := s.get (R.PWM_AUXOWN_OWNER c)
    let n := (s.pwm c).act.auxlen
    if o = 1 then
      done (if s.on (R.PWM_SSHUNT_SSEN c) then t else t.urgentReq c.val (maskChannels (s.get (R.FADC_UMASK_MASK c))) false false)
    else if 16 ≤ o ∧ o < 24 ∧ n ≠ 0 then
      done (t.modPwm c (fun x => { x with win := some ⟨o % 8, Nat.mod_lt _ (by decide)⟩, winLeft := n }))
    else done t
  else done s

/-- A window of single-shunt sampling has reached its instant: S1 or S2 beats from the period boundary, in a period whose window meets W
(R380). -/
def State.ssDue (s : State) (c : Course) (second : Bool) : Bool :=
  let o := s.ssOrder c
  let x := s.pwm c
  let k := if second then o.2.1 else o.1
  s.carrierOn c && s.ssActive c && (if second then o.2.2.2.2 && !x.ss2 else o.2.2.2.1 && !x.ss1)
    && s.inPeriod c == x.heff[k] + x.act.dthl + s.get (R.PWM_SSHUNT_TSET c)

/-- SINGLE_SHUNT_SAMPLE (R380, R448). -/
def execSingleShuntSample (c : Course) (second : Bool) (s : State) : Host.Outcome State Fault Refusal :=
  if s.ssDue c second then
    done ((s.modPwm c (fun x => if second then { x with ss2 := true } else { x with ss1 := true })).urgentReq c.val [c.val] true second)
  else done s

/-- BEMF_CROSSING (R366, R453): a back-EMF comparator crossing of a pair, past the blanking of BBLK. -/
def execBemfCrossing (c : Course) (k : Fin 3) (rising : Bool) (s : State) : Host.Outcome State Fault Refusal :=
  if s.watching && s.crossingOpen c && !s.shadowing then
    done (((s.armBemf c k).crossReq (hbOf c k) rising).jotCond 0x20 ((hbOf c k).val + rising.toNat * 128))
  else done s

/-- SCAN_GO (R454): a write of FADC_SCTL.GO. -/
def execScanGo (_m : Master) (s : State) : Host.Outcome State Fault Refusal :=
  if s.get R.FADC_SCTL_SMODE = 1 then done s.scanStart else done s

/-! ## Slots and conversions -/

/-- The slot two beats ahead, where one lies there (R438, R447). -/
def State.slotAhead (s : State) : Option Word :=
  if (s.time.dtime.toNat + 2) % 4 = 0 then some (s.time.dtime + 2) else none

/-- Take the conversion a slot converts among the requests of earlier beats: urgent, crossing by lowest half-bridge, then scan (R447, R450,
R454). -/
def Fadc.pick (f : Fadc) (now : Word) : Option (Conv × Fadc) :=
  match f.urgent.find? (fun u => u.reg != now) with
  | some u => some (u, { f with urgent := f.urgent.erase u })
  | none =>
    match (f.cross.filter (fun c => c.reg != now)).foldl (fun (b : Option Conv) c => match b with
        | some d => if c.ch < d.ch then some c else some d
        | none => some c) none with
    | some c => some (c, { f with cross := f.cross.filter (fun d => d.ch != c.ch) })
    | none => match f.restart, f.scan with
      | some c, _ => some (c, { f with restart := none })
      | none, n :: rest =>
        if f.scanAt = now then none else some ({ kind := 0, ch := n, f26 := f.sos, reg := f.scanAt }, { f with scan := rest, sos := false })
      | none, [] => none

/-- SLOT_ASSIGNMENT (R438, R447, R454): two beats before a slot it takes the first conversion that waits, on the active slice whose turn it
is. -/
def execSlotAssignment (s : State) : Host.Outcome State Fault Refusal :=
  match s.slotAhead with
  | none => done s
  | some slot =>
    if !s.fadcOn || s.fadc.lastSlot == some slot then done s
    else
      let slice := s.fadc.active.toList.getD (slot.toNat / 4 % 4) 0
      match s.fadc.pick s.time.dtime with
      | none => done (s.modFadc (fun f => { f with lastSlot := some slot }))
      | some (c, f) =>
        let t := s.modFadc (fun _ => { f with convs := f.convs ++ [{ c with slot := slot, slice := slice }], lastSlot := some slot })
        done (t.when (t.on R.FADC_SCTL_SRUN && f.scan.isEmpty && f.restart.isNone) (·.put R.FADC_SCTL_SRUN 0))

/-- The result value of a raw code on a slice, and whether it clips (R442, R458). -/
def State.fastValue (s : State) (slice : Nat) (raw : BitVec 12) : Nat × Bool :=
  let ofs := (BitVec.ofNat 10 (s.get (R.FADC_COEF_OFS slice))).toInt
  let v := roundShift 1 ((16 * (raw.toNat : Int) - ofs) * (s.get (R.FADC_COEF_GAIN slice))) 15
  let c := clampInt v 0 0xFFFF
  (c.1.toNat, c.2 || raw = 0 || raw = 0xFFF)

/-- The word of a conversion's entry (R457, R458, R439). -/
def State.convWord (s : State) (c : Conv) (raw : BitVec 12) : Word :=
  let v := s.fastValue c.slice raw
  Word.ofN (v.1 + c.ch * 2 ^ 16 + c.kind * 2 ^ 22 + v.2.toNat * 2 ^ 24 + c.f26.toNat * 2 ^ 26 + c.f27.toNat * 2 ^ 27
    + ((c.slot.toNat + 3) % 2 ^ 20) * 2 ^ 28)

/-- The conversion whose result enters the queue in this beat: 18 beats after its slot (R439). -/
def State.convDue (s : State) : Option (Conv × List Conv) :=
  match s.fadc.convs with
  | c :: rest => if reached s.time.dtime (c.slot + 18) then some (c, rest) else none
  | [] => none

/-- CONVERSION_RESULT (R439, R442, R457 to R462): the conversion of the slot 18 beats ago completes with its raw code. -/
def execConversionResult (raw : BitVec 12) (s : State) : Host.Outcome State Fault Refusal :=
  if s.shadowing then done s else
  match s.convDue with
  | none => done s
  | some (c, rest) => done ((s.modFadc (fun f => { f with convs := rest })).offer c.ch (s.convWord c raw))

/-- Another claimant holds the test DAC, so that the spare measures only skew (R445). -/
def State.calHold (s : State) : Bool :=
  (s.get R.FADC_DACOWN_OWNER = 1 && s.on R.FADC_DAC_DIAGEN) || (s.get R.FADC_DACOWN_OWNER = 2 && s.on R.ICONV_TST_EN)

/-- The spare changes in this beat (R440). -/
def State.spareDue (s : State) : Bool :=
  s.on R.FADC_CTL_EN && s.watching && s.time.dtime.toNat % 65536 == 0 && s.fadc.rotAt != some s.time.dtime

/-- SPARE_ROTATION (R440, R441, R444, R445): the next slice becomes the spare, and the former spare takes the slots that it would have
taken, with the coefficients it has measured. -/
def execSpareRotation (ofs : BitVec 10) (gain : BitVec 16) (skew : BitVec 7) (s : State) : Host.Outcome State Fault Refusal :=
  if s.spareDue then
    let sp := s.get R.FADC_STAT_SPARE
    let new := (sp + 1) % 5
    let t := if s.calHold then s else (s.put (R.FADC_COEF_OFS sp) ofs.toNat).put (R.FADC_COEF_GAIN sp) gain.toNat
    let t := (t.put (R.FADC_COEF_SKEW sp) skew.toNat).put R.FADC_STAT_SPARE new
    let t := t.modFadc (fun f => { f with
      active := f.active.map (fun x => if x = new then sp else x), changes := min (f.changes + 1) 5, rotAt := some s.time.dtime
      convs := f.convs.map (fun c => if c.slice = new && decide (0 ≤ (c.slot - s.time.dtime).toInt) then { c with slice := sp } else c) })
    done (t.when (t.fadc.changes == 5) (·.put R.FADC_STAT_RDY 1))
  else done s

/-- QDCLR (R466): COUNT is added to DROPTOT and cleared. -/
def execQdclr (_m : Master) (s : State) : Host.Outcome State Fault Refusal :=
  done ((s.count RW.FADC_DROPTOT (s.reg RW.FADC_QDROP).toNat).setReg RW.FADC_QDROP 0)

/-! ## Register writes -/

/-- A write of FADC_CTL.EN (R444; spec/15 At the edges). -/
def State.writeFadcCtl (s : State) (v : Word) : State :=
  let on := getBits v 0 1 = 1
  if on = s.on R.FADC_CTL_EN then s
  else if on then
    let t := (s.put R.FADC_CTL_EN 1).modFadc (fun f => { f with changes := 0 })
    t.forN 5 (fun k t => ((t.put (R.FADC_COEF_OFS k) (Config.adcOfs k).toNat).put (R.FADC_COEF_GAIN k) (Config.adcGain k).toNat).put
      (R.FADC_COEF_SKEW k) (Config.adcSkew k).toNat)
  else ((s.fadcDiscard).put R.FADC_CTL_EN 0).put R.FADC_STAT_RDY 0

/-- A write of FADC_DAC (R52, R455, R456). -/
def State.writeDac (s : State) (v : Word) : State :=
  let own := s.get R.FADC_DACOWN_OWNER
  let rej := getBits v 10 1 = 1 ∧ !s.on R.FADC_DAC_DIAGEN ∧ own ≠ 1
  let ch := getBits v 16 6
  let t := ((s.put R.FADC_DAC_CODE (getBits v 0 10)).putB R.FADC_DAC_DIAGEN (getBits v 10 1 = 1 && !decide rej)).put R.FADC_DAC_DIAGCH ch
  let t := t.when (t.on R.FADC_DAC_DIAGEN && !(decide (ch ≤ 32) || ch == 46 || ch == 47)) (·.put R.FADC_STAT_DIAGBAD 1)
  t.when (decide rej) (·.conflict 3 0 1)

/-- A write of FADC_DACOWN (R20, R53, R455). -/
def State.writeDacOwn (s : State) (v : Word) : State :=
  let o := getBits v 0 8
  let own := s.get R.FADC_DACOWN_OWNER
  if 2 < o ∨ o = own then s
  else if (own = 1 ∧ s.on R.FADC_DAC_DIAGEN) ∨ (own = 2 ∧ s.on R.ICONV_TST_EN) then s.conflict 3 0 o
  else s.put R.FADC_DACOWN_OWNER o

end Sys2Proof.Machine
end

