-- ==== Sys2Proof/Machine/Acq.lean ====
section
/-!
DEFINITION. Machine/Acq.lean: the acquisition units with multi-chip capture (spec/19) and the filter engines with their
detectors (spec/17), with their commands.
-/
namespace Sys2Proof.Machine

def engines : List Engine := [0, 1, 2, 3]
def State.modAcq (s : State) (f : Acq → Acq) : State := { s with acq := f s.acq }
def State.unit (s : State) (n : Engine) : Aq := s.acq.aq[n]
def State.modAq (s : State) (n : Engine) (f : Aq → Aq) : State := s.modAcq (fun a => { a with aq := a.aq.set n (f s.acq.aq[n]) })
def State.eng (s : State) (n : Engine) : Fe := s.acq.fe[n]
def State.modFe (s : State) (n : Engine) (f : Fe → Fe) : State := s.modAcq (fun a => { a with fe := a.fe.set n (f s.acq.fe[n]) })

/-- The value of a field of len bits as a signed number. -/
def signedOf (len v : Nat) : Int := (BitVec.ofNat len v).toInt
/-- The value of a queue entry: zero-extended for fast channels and integrating codes 0x0C to 0x0F (R496). -/
def entryValue (w : Word) : Int :=
  let v := getBits w 0 16
  if getBits w 22 2 = 3 ∧ getBits w 16 6 < 12 then signedOf 16 v else v
/-- Whether an entry is of the class and channel that a consumer selects (R495). -/
def entryMatches (w : Word) (icls ichan : Nat) : Bool :=
  getBits w 16 6 == ichan && (if icls = 0 then getBits w 22 2 != 3 else getBits w 22 2 == 3)
/-- The oldest entry of the queue that a consumer has not taken. -/
def State.qFirst (s : State) (k : Nat) : Option Word := (s.fadc.queue.find? (fun e => e.mask.getLsbD k)).map (·.word)

/-! ## Acquisition units -/

/-- States of a unit (R544). -/
def aqIdle : Nat := 0
def aqArmed : Nat := 1
def aqPost : Nat := 2
def aqDone : Nat := 3

/-- Raise an event source of a unit (R558). -/
def State.aqEvent (s : State) (n : Engine) (bit : Nat) : State :=
  if (s.get (R.AQ_CFG_EVSEL n)).testBit bit then
    (s.orF (R.AQ_EVSTAT_SRC n) (1 <<< bit)).assertEv (112 + n.val)
  else s

/-- A sample of a unit: value, TIME, CLIP, GAP, FLAGS, the queue entry when it is one (R541). -/
structure AqSample where
  v : Int
  time : BitVec 20
  clip : Bool := false
  gap : Bool := false
  flags : Nat := 0
  entry : Option Word := none
  deriving DecidableEq, Repr

/-- Whether condition k of a unit is met in a sample (R550). -/
def State.aqMet (s : State) (n : Engine) (m : AqSample) (k : Nat) : Bool :=
  let q := s.unit n
  let th := signedOf 28 (s.get (R.AQ_COND_TH n k))
  match s.get (R.AQ_COND_KIND n k) with
  | 1 => decide (th < m.v)
  | 2 => decide (m.v < th)
  | 3 => q.prev.any (fun p => decide (p ≤ th)) && decide (th < m.v)
  | 4 => q.prev.any (fun p => decide (th ≤ p)) && decide (m.v < th)
  | 5 => m.entry.isSome && (m.flags &&& (s.get (R.AQ_COND_TH n k) % 16)) != 0
  | 6 => q.evs.getLsbD (s.get (R.AQ_COND_EVL n k))
  | 7 => q.fire
  | 8 => reached (s.full20 m.time.toNat) (s.reg (RW.AQ_TAT n))
  | _ => false

/-- The live conditions met in a sample (R551). -/
def State.aqHits (s : State) (n : Engine) (m : AqSample) : List Nat :=
  [0, 1, 2, 3].filter (fun k => s.get (R.AQ_COND_KIND n k) != 0 && (!s.on (R.AQ_COND_GATE n k) || s.on (R.AQ_STAT_STAGE n))
    && s.aqMet n m k)

/-- Words of one record, and samples of a group (R545, R556). -/
def State.aqWidth (s : State) (n : Engine) : Nat := if s.on (R.AQ_CFG_MODE n) then 2 else 1
def State.aqRed (s : State) (n : Engine) : Nat := s.get (R.AQ_CFG_REDF n) + 1

/-- Put the words of record j among those that wait (R554, R557). -/
def State.aqRecord (s : State) (n : Engine) (ws : List Word) (gap : Bool) : State :=
  let q := s.unit n
  let a := q.base + ws.length * (q.recs % q.len)
  s.modAq n (fun q => { q with
    waits := q.waits ++ ws.mapIdx (fun i w => (a + i, w)), recs := q.recs + 1
    gapRec := if gap then some q.recs else q.gapRec })

/-- The two words of a min/max record (R556). -/
def AqGroup.words (g : AqGroup) : List Word :=
  [Word.ofN ((BitVec.ofInt 28 g.hi).toNat + g.time.toNat * 2 ^ 28),
   Word.ofN ((BitVec.ofInt 28 g.lo).toNat + (g.n - 1) * 2 ^ 28 + g.clip.toNat * 2 ^ 40 + g.gap.toNat * 2 ^ 41 + g.trig.toNat * 2 ^ 42)]

/-- Close the open group (R548, R556). -/
def State.aqCloseGroup (s : State) (n : Engine) : State :=
  match (s.unit n).group with
  | some g => (s.aqRecord n g.words g.gap).modAq n (fun q => { q with group := none })
  | none => s

/-- Words 2 and 3 of the descriptor (R545, R549, R554). -/
def State.aqResult (s : State) (n : Engine) (g : AqTrig) (trunc : Bool) : Word × Word :=
  let q := s.unit n
  let pre := min (s.get (R.AQ_DEPTH_PRE n)) g.num
  let w2 := g.num % q.len + pre * 2 ^ 16 + (q.recs - 1 - g.num) * 2 ^ 32
  let gap := q.gapRec.any (fun j => decide (g.num - pre ≤ j))
  let w3 := g.cause.toNat + g.ofs * 2 ^ 8 + trunc.toNat * 2 ^ 20 + q.lost.toNat * 2 ^ 21 + gap.toNat * 2 ^ 22
    + ((s.get (R.AQ_STAT_SEQ n) + (!trunc).toNat) % 2 ^ 16) * 2 ^ 32
  (Word.ofN w2, Word.ofN w3)

/-- The capture is complete, or STOP ends it: its descriptor words wait to be written (R548, R549). -/
def State.aqFinish (s : State) (n : Engine) (trunc : Bool) : State :=
  match (s.unit n).trig with
  | none => s
  | some g =>
    let r := s.aqResult n g trunc
    let a := s.get (R.AQ_DESC_ADDR n)
    s.modAq n (fun q => { q with waits := q.waits ++ [(a + 1, g.tdt), (a + 2, r.1), (a + 3, r.2)], closing := some trunc })

/-- The capture ends once POST records have followed the trigger record (R549). -/
def State.aqCheckEnd (s : State) (n : Engine) : State :=
  match (s.unit n).trig with
  | some g => if g.num + s.get (R.AQ_DEPTH_POST n) < (s.unit n).recs then s.aqFinish n false else s
  | none => s

/-- The fire record names the earliest fire (R561). -/
def State.aqFireCause (s : State) : State :=
  let v := [0, 1, 2, 3].filter (fun p => (s.get R.AQ_FIRESTAT_VALID).testBit p)
  let dt (p : Nat) : Word := s.reg (RW.AQ_FIRET p)
  match v.find? (fun p => v.all (fun q => reached (dt q) (dt p))) with
  | some p => (s.put R.AQ_FIRESTAT_CAUSE p).putB R.AQ_FIRESTAT_MULTI (v.any (fun q => q != p && dt q == dt p))
  | none => s.put R.AQ_FIRESTAT_MULTI 0

/-- Enter a fire at a chip position (R561). -/
def State.aqFireEntry (s : State) (p : Nat) (dt : Word) : State :=
  let v := s.get R.AQ_FIRESTAT_VALID
  if v.testBit p then s
  else ((s.orF R.AQ_FIRESTAT_VALID (1 <<< p)).setReg (RW.AQ_FIRET p) dt).aqFireCause

/-- Send over the peer link to every other chip: the lead and each follower with a chip behind it by port B, a follower and a twin chip
by port A (R559, R560, R763). -/
def State.sendPeer (s : State) (k : SentKind) (ws : List Word) : State :=
  let t := s.when (!(s.cascade && s.chipPos == 0)) (·.linkOut false k ws)
  t.when (s.cascade && (s.chipPos == 0 || s.on R.PEER_CSSTAT_LINKB)) (·.linkOut true k ws)

/-- A unit with FOUT fires (R560, R561). -/
def State.aqFire (s : State) (n : Engine) (g : AqTrig) : State :=
  let other := g.cause.getLsbD 4 || [0, 1, 2, 3].any (fun k => g.cause.getLsbD k && s.get (R.AQ_COND_KIND n k) != 7)
  if s.on (R.AQ_MC_FOUT n) && other && !s.shadowing then
    ((s.modAcq (fun a => { a with firing := true, fireAt := s.time.dtime })).aqFireEntry s.chipPos g.tdt).sendPeer .fire [Word.ofN s.chipPos, g.tdt]
  else s

/-- The sample becomes the trigger (R552 to R554). -/
def State.aqTrigger (s : State) (n : Engine) (m : AqSample) (hits : List Nat) : State :=
  let q := s.unit n
  let g : AqTrig := {
    num := q.recs, ofs := if s.on (R.AQ_CFG_MODE n) then q.group.elim 0 (·.n) else 0
    cause := BitVec.ofNat 8 ((hits.map (fun k => 2 ^ k)).sum + q.force.toNat * 16), tdt := s.full20 m.time.toNat }
  ((s.modAq n (fun q => { q with trig := some g, force := false })).put (R.AQ_STAT_STATE n) aqPost).aqFire n g

/-- Add a sample to the records (R555, R556). -/
def State.aqStore (s : State) (n : Engine) (m : AqSample) (trig : Bool) : State :=
  if s.on (R.AQ_CFG_MODE n) then
    let g : AqGroup := match (s.unit n).group with
      | some g => { g with hi := max g.hi m.v, lo := min g.lo m.v, n := g.n + 1, clip := g.clip || m.clip, gap := g.gap || m.gap
                           trig := g.trig || trig }
      | none => { hi := m.v, lo := m.v, n := 1, time := m.time, clip := m.clip, gap := m.gap, trig := trig }
    let t := s.modAq n (fun q => { q with group := some g })
    if g.n = s.aqRed n then t.aqCloseGroup n else t
  else s.aqRecord n [m.entry.getD (Word.ofN ((BitVec.ofInt 28 m.v).toNat + m.time.toNat * 2 ^ 28))] m.gap

/-- A unit in ARMED or POST takes a sample (R550 to R558). -/
def State.aqSample (s : State) (n : Engine) (m : AqSample) : State :=
  let hits := s.aqHits n m
  let armed := s.get (R.AQ_STAT_STATE n) = aqArmed
  let fire := armed && (hits.any (fun k => s.get (R.AQ_COND_ACT n k) == 1) || (s.unit n).force)
  let next := armed && !fire && hits.any (fun k => s.get (R.AQ_COND_ACT n k) == 2)
  let t := (s.when next (·.put (R.AQ_STAT_STAGE n) 1)).when fire (·.aqTrigger n m hits)
  let t := (t.aqStore n m fire).modAq n (fun q => { q with prev := some m.v, evs := 0, fire := false })
  (t.aqCheckEnd n).when fire (·.aqEvent n 1)

/-- Whether the record a sample would close fits into the waiting words (R557). -/
def State.aqFits (s : State) (n : Engine) : Bool :=
  let q := s.unit n
  if s.on (R.AQ_CFG_MODE n) then q.group.elim 0 (·.n) + 1 != s.aqRed n || decide (q.waits.length + 2 ≤ 8) else decide (q.waits.length + 1 ≤ 8)

/-- A unit is in ARMED or POST. -/
def State.aqLive (s : State) (n : Engine) : Bool := s.get (R.AQ_STAT_STATE n) = aqArmed || s.get (R.AQ_STAT_STATE n) = aqPost

/-- An engine offers an item of a stream to the units that record it (R508, R540, R543, R549, R557). -/
def State.aqOffer (s : State) (src : Nat) (e : Engine) (v : Int) (time : BitVec 20) : State :=
  engines.foldl (fun t (n : Engine) =>
    if t.on (R.AQ_CFG_EN n) && t.pwr.mode = .run && t.get (R.AQ_CFG_SRC n) == src && t.get (R.AQ_CFG_FEN n) == e.val && t.aqLive n then
      if (t.unit n).closing.isSome || !t.aqFits n then
        ((t.bump (R.AQ_STAT_LOST n)).modAq n (fun q => { q with lost := true })).aqEvent n 3
      else t.aqSample n { v := v, time := time }
    else t) s

/-- AQ_TAKE_SAMPLE (R540 to R543, R549 to R558): a unit takes its oldest queue entry, or stalls. -/
def execAqTakeSample (n : Engine) (s : State) : Host.Outcome State Fault Refusal :=
  let k := n.val + 5
  match s.qFirst k with
  | none => done s
  | some w =>
    let good := s.get (R.AQ_CFG_SRC n) = 0 && entryMatches w (s.get (R.AQ_CFG_ICLS n)) (s.get (R.AQ_CFG_ICHAN n))
    if !s.on (R.AQ_CFG_EN n) || s.pwr.mode ≠ .run then done s
    else if (s.unit n).closing.isSome || (good && s.aqLive n && !s.aqFits n) then done (s.bump (R.AQ_STAT_STALL n))
    else
      let t := (s.qTake k).2
      if !good then done (t.bump (R.AQ_STAT_MISMATCH n))
      else if t.aqLive n then
        let f := getBits w 24 4
        done (t.aqSample n { v := entryValue w, time := BitVec.ofNat 20 (getBits w 28 20), clip := f.testBit 0, gap := f.testBit 1, flags := f
                             entry := some w })
      else done t

/-- AQ_RECORD_WRITE (R111, R557): the oldest waiting word of a unit is written, while RAM can be accessed. -/
def execAqRecordWrite (n : Engine) (s : State) : Host.Outcome State Fault Refusal :=
  match (s.unit n).waits with
  | (a, w) :: rest => if !s.watching then done s else done ((s.ramSet a w).modAq n (fun q => { q with waits := rest }))
  | [] => done s

/-- An arm that failed (R547). -/
def State.aqArmFail (s : State) (n : Engine) : State := (s.put (R.AQ_STAT_ARMERR n) 1).aqEvent n 3

/-- Arm a unit from its descriptor (R547, R558). -/
def State.aqArm (s : State) (n : Engine) : State :=
  match s.ramRead (s.get (R.AQ_DESC_ADDR n)) 3 0 with
  | (none, t) => (t.put (R.AQ_STAT_MEMERR n) 1).aqArmFail n
  | (some w, t) =>
    let base := getBits w 0 24
    let len := getBits w 24 16
    if len < t.get (R.AQ_DEPTH_PRE n) + t.get (R.AQ_DEPTH_POST n) + 1 then t.aqArmFail n
    else if !t.fencedBy (0x10 + n.val) base (len * t.aqWidth n) then (t.refuseFence (0x10 + n.val) base (len * t.aqWidth n)).aqArmFail n
    else
      (((t.put (R.AQ_STAT_STATE n) aqArmed).put (R.AQ_STAT_STAGE n) 0).modAq n (fun _ =>
        { base := base, len := len, last := getBits w 47 1 == 1 })).aqEvent n 0

/-- AQ_ARM (R547): a write of AQn_CMD.ARM. -/
def execAqArm (_m : Master) (n : Engine) (s : State) : Host.Outcome State Fault Refusal :=
  if s.on (R.AQ_CFG_EN n) && !s.aqLive n then done (s.aqArm n) else done (s.put (R.AQ_STAT_CFGREJ n) 1)

/-- AQ_STOP (R548): a write of AQn_CMD.STOP. -/
def execAqStop (_m : Master) (n : Engine) (s : State) : Host.Outcome State Fault Refusal :=
  if s.get (R.AQ_STAT_STATE n) = aqArmed then
    done ((s.put (R.AQ_STAT_STATE n) aqIdle).modAq n (fun q => { waits := q.waits }))
  else if s.get (R.AQ_STAT_STATE n) = aqPost ∧ (s.unit n).closing.isNone then done ((s.aqCloseGroup n).aqFinish n true)
  else done s

/-- AQ_FORCE (R553): a write of AQn_CMD.FORCE. -/
def execAqForce (_m : Master) (n : Engine) (s : State) : Host.Outcome State Fault Refusal :=
  if s.get (R.AQ_STAT_STATE n) = aqArmed then done (s.modAq n (fun q => { q with force := true })) else done s

/-- AQ_CAPTURE_DONE (R548, R549, R558): the last descriptor word has been written. -/
def execAqCaptureDone (n : Engine) (s : State) : Host.Outcome State Fault Refusal :=
  match (s.unit n).closing, (s.unit n).trig, (s.unit n).waits with
  | some trunc, some g, [] =>
    let r := s.aqResult n g trunc
    let t := ((s.setReg (RW.AQ_TDT n) g.tdt).setReg (RW.AQ_TPOS n) r.1).setReg (RW.AQ_TCAUSE n) r.2
    let t := t.when (!trunc) (·.put (R.AQ_STAT_SEQ n) (s.get (R.AQ_STAT_SEQ n) + 1))
    let t := ((t.put (R.AQ_STAT_STATE n) aqDone).modAq n (fun q => { q with closing := none, trig := none })).aqEvent n 2
    if s.on (R.AQ_CFG_AUTO n) && !(s.unit n).last && !trunc then
      done ((t.put (R.AQ_DESC_ADDR n) (s.get (R.AQ_DESC_ADDR n) + 4)).aqArm n)
    else done t
  | _, _, _ => done s

/-! ### Multi-chip capture -/

/-- Multi-chip capture is available in the twin and cascade topologies (R32). -/
def State.multiChip (s : State) : Bool := s.isTwin || s.cascade
/-- The cascade lead or the twin primary. -/
def State.masterChip (s : State) : Bool :=
  (s.cascade && s.chipPos == 0) || (s.isTwin && (s.get R.PEER_TWSTAT_STATE == 1 || s.get R.PEER_TWSTAT_STATE == 2))

/-- Units of the group arm (R559). -/
def State.groupArm (s : State) : State :=
  (engines.foldl (fun t (n : Engine) => if t.on (R.AQ_MC_GRP n) && t.on (R.AQ_CFG_EN n) && !t.aqLive n then t.aqArm n else t) s).modAcq
    (fun a => { a with garm := none })

/-- A chip takes a global arm time (R559): a beat that has passed arms late. -/
def State.armAt (s : State) (t : Word) : State :=
  if reached s.time.dtime (t + 1) then (s.put R.AQ_MCSTAT_LATEARM 1).groupArm else s.modAcq (fun a => { a with garm := some t })

/-- GLOBAL_ARM_GO (R559): a write of AQ_GARM.GO. -/
def execGlobalArmGo (_m : Master) (s : State) : Host.Outcome State Fault Refusal :=
  if s.masterChip then
    let t := s.reg RW.AQ_GARMAT
    done ((s.armAt t).sendPeer .globalArm [t])
  else done (s.put R.AQ_MCSTAT_GREJ 1)

/-- GLOBAL_ARM_RECEIVED (R559). -/
def execGlobalArmReceived (t : Word) (s : State) : Host.Outcome State Fault Refusal := done (if s.multiChip then s.armAt t else s)

/-- GLOBAL_ARM_TIME (R559): DTIME equals the global arm time. -/
def execGlobalArmTime (s : State) : Host.Outcome State Fault Refusal :=
  if s.acq.garm = some s.time.dtime then done s.groupArm else done s

/-- The pulse on FIRE has lasted its 240 beats, the first of them the beat after the trigger sample (R560). -/
def State.fireOver (s : State) : Bool := s.acq.firing && s.since s.acq.fireAt 240

/-- The pulse on FIRE ends (R560). -/
def State.fireEnd (s : State) : State := s.when s.fireOver (·.modAcq (fun a => { a with firing := false }))

/-- FIRE_PULSE_END (R560). -/
def execFirePulseEnd (s : State) : Host.Outcome State Fault Refusal := done s.fireEnd

/-- FIRE is driven high; it is high-impedance otherwise (R560, R729). -/
def State.firePin (s : State) : Bool := s.acq.firing && s.time.dtime != s.acq.fireAt && s.twinDrives && !s.inReset

/-- FIRE_MESSAGE (R561): a fire message of a chip position. -/
def execFireMessage (p : Chip) (dt : Word) (s : State) : Host.Outcome State Fault Refusal :=
  if s.multiChip then done (s.aqFireEntry p.val dt) else done s

/-- FIRE_EDGE (R562): a rising edge of FIRE is detected. -/
def execFireEdge (s : State) : Host.Outcome State Fault Refusal :=
  done (s.modAcq (fun a => { a with aq := a.aq.map (fun q => { q with fire := true }) }))

/-! ### Register writes of the units -/

/-- Whether a write would change fields of a register but for those in a mask. -/
def State.changes (s : State) (a : Nat) (v except : Word) : Bool :=
  ((regRow a).elim (0 : Word) (fun r => writeFields r.fields (s.reg a) v ^^^ s.reg a)) &&& ~~~except != 0

/-- A write of AQn_CFG (R546, R548): EN needs the descriptor in a fence of the unit; the rest is refused in ARMED and POST. -/
def State.writeAqCfg (s : State) (n : Engine) (v : Word) : State :=
  let a := RW.AQ_CFG n
  let en := getBits v 0 1 = 1
  let was := s.on (R.AQ_CFG_EN n)
  let t := if s.aqLive n then s.when (s.changes a v 1) (·.put (R.AQ_STAT_CFGREJ n) 1)
    else (s.writePlain a v).putB (R.AQ_CFG_EN n) was
  let d := s.get (R.AQ_DESC_ADDR n)
  if en && !was then
    (if t.fencedBy (0x10 + n.val) d 4 then t.put (R.AQ_CFG_EN n) 1 else t.refuseFence (0x10 + n.val) d 4)
  else if !en && was then
    ((((t.put (R.AQ_CFG_EN n) 0).put (R.AQ_STAT_STATE n) aqIdle).modAq n (fun q => { waits := q.waits }))).qLeave (n.val + 5)
  else t

/-- A write of AQn_DESC while EN is 1, or of AQn_DEPTH, AQn_CONDk, AQn_TAT or AQn_MC in ARMED or POST, is refused (R546). On a
single chip a write that sets GRP or FOUT, or a condition of KIND FIRE, is refused too (R558). -/
def State.writeAq (s : State) (n : Engine) (off : Nat) (v : Word) : State :=
  let a := RW.AQ_CFG n + off
  let rej := if off = 2 then s.on (R.AQ_CFG_EN n) else s.aqLive n
  let single := !s.multiChip && ((off = 9 && getBits v 0 2 != 0) || (decide (16 ≤ off) && getBits v 0 4 == 7))
  if rej || single then s.put (R.AQ_STAT_CFGREJ n) 1 else s.writePlain a v

/-! ## Filter engines -/

/-- Raise event sources of an engine in one beat (R511). -/
def State.feEvents (s : State) (n : Engine) (bits : Nat) : State :=
  let hit := bits &&& s.get (R.FE_DCFG_EVSEL n)
  if hit = 0 then s else (s.orF (R.FE_EVSTAT_SRC n) hit).assertEv (108 + n.val)

/-- Restart the detector window (R509). -/
def Fe.restart (f : Fe) : Fe := { f with dmax := none, dmin := none, dsum := 0, dcnt := 0 }
/-- Clear the history with its decimation count and detector window (R497). -/
def Fe.clear (f : Fe) : Fe := { f with hist := [], taken := 0, dec := 0 }.restart
/-- Clear everything that setting EN clears (R512). -/
def Fe.enable (f : Fe) : Fe := { f.clear with env := 0, comp := none }

/-- Samples that make the history full (R499). -/
def State.feDepth (s : State) (n : Engine) : Nat := if s.on (R.FE_CFG_MODE n) then s.get (R.FE_CFG_MALEN n) + 1 else s.get (R.FE_CFG_NTAPS n)

/-- The coefficients of the active bank. -/
def State.feCoefs (s : State) (n : Engine) : List (BitVec 24) := (s.eng n).banks[(if s.on (R.FE_BANK_ACT n) then 1 else 0 : Fin 2)]

/-- The output for the history (R498): the value and whether it saturated. -/
def State.feCompute (s : State) (n : Engine) : BitVec 28 × Bool :=
  let f := s.eng n
  let c := s.feCoefs n
  let acc : Int := if s.on (R.FE_CFG_MODE n) then
      (f.hist.take (s.get (R.FE_CFG_MALEN n) + 1)).sum * (c.headD 0).toInt
    else (((c.take (s.get (R.FE_CFG_NTAPS n))).zip f.hist).map (fun p => p.1.toInt * p.2)).sum
  let r := clampInt (roundShift 1 acc (s.get (R.FE_CFG_OSH n))) (-(2 ^ 27)) (2 ^ 27 - 1)
  (BitVec.ofInt 28 r.1, r.2)

/-- The detectors take a sample (R509 to R511): the event bits it raises. -/
def State.feDetect (s : State) (n : Engine) (v : Int) (time : BitVec 20) : Nat × State :=
  let f := s.eng n
  let z := (clampInt (v.fdiv (2 ^ s.get (R.FE_DCFG_DSH n))) (-(2 ^ 23)) (2 ^ 23 - 1)).1
  let a := z.natAbs
  let up := decide (f.env < a * 2 ^ 16)
  let k := s.get (if up then R.FE_ENVK_KATT n else R.FE_ENVK_KREL n)
  let env := ((f.env : Int) + (((a * 2 ^ 16 : Nat) : Int) - f.env) * k / 65536).toNat
  let f' := { f with
    dmax := some (max z (f.dmax.getD z)), dmin := some (min z (f.dmin.getD z)), dsum := f.dsum + a * a, dcnt := f.dcnt + 1, env := env }
  let close := decide (s.get (R.FE_DCFG_DWIN n) ≤ f'.dcnt)
  let rms := isqrt (f'.dsum / f'.dcnt)
  let t := s.modFe n (fun _ => if close then f'.restart else f')
  let t := t.when close (fun t =>
    ((((t.put (R.FE_PK_PMAX n) (BitVec.ofInt 24 (f'.dmax.getD z)).toNat).put (R.FE_PK_PMIN n) (BitVec.ofInt 24 (f'.dmin.getD z)).toNat).put
      (R.FE_RMS_RMS n) rms).put (R.FE_RMS_WCNT n) (s.get (R.FE_RMS_WCNT n) + 1)).aqOffer 2 n rms time)
  let e := env / 2 ^ 16
  let was := s.on (R.FE_ENV_ABOVE n)
  let above := if was then !decide (e ≤ s.get (R.FE_ETH_ETHL n)) else decide (s.get (R.FE_ETH_ETHH n) ≤ e)
  let changed := e != s.get (R.FE_ENV_ENV n)
  let t := ((t.put (R.FE_ENV_ENV n) e).putB (R.FE_ENV_ABOVE n) above).when changed (·.aqOffer 3 n e time)
  (close.toNat * 2 + (above && !was).toNat * 4 + (was && !above).toNat * 8 + (decide (s.get (R.FE_PTH_PTH n) ≤ a)).toNat * 16, t)

/-- ENGINE_TAKE_ENTRY (R494 to R505): an engine takes its oldest queue entry, or stalls. -/
def execEngineTakeEntry (n : Engine) (s : State) : Host.Outcome State Fault Refusal :=
  let k := n.val + 1
  match s.qFirst k with
  | none => done s
  | some w =>
    if !s.on (R.FE_CFG_EN n) || s.pwr.mode ≠ .run then done s
    else if !entryMatches w (s.get (R.FE_CFG_ICLS n)) (s.get (R.FE_CFG_ICHAN n)) then
      done ((s.qTake k).2.bump (R.FE_STAT_MISMATCH n))
    else
      let gap := getBits w 25 1 == 1
      let f := if gap && s.on (R.FE_CFG_GAPRST n) then (s.eng n).clear else s.eng n
      let ends := f.dec == s.get (R.FE_CFG_DEC n)
      if ends && ((s.eng n).comp.isSome || decide (4 ≤ (s.eng n).writes.length)) then done (s.bump (R.FE_STAT_STALL n))
      else
        let x := entryValue w - signedOf 17 (s.get (R.FE_IOFS_IOFS n))
        let time := BitVec.ofNat 20 (getBits w 28 20)
        let f := { f with hist := (x :: f.hist).take 4096, taken := min (f.taken + 1) 4096, dec := if ends then 0 else f.dec + 1 }
        let swap := s.on (R.FE_BANK_SWPEND n)
        let t := (s.qTake k).2.modFe n (fun _ => f)
        let t := t.when swap (fun t => ((t.putB (R.FE_BANK_ACT n) (!t.on (R.FE_BANK_ACT n))).put (R.FE_BANK_SWPEND n) 0))
        let t := (t.when (getBits w 24 1 == 1) (·.put (R.FE_STAT_CLIPIN n) 1)).when gap (·.put (R.FE_STAT_GAPIN n) 1)
        let t := t.putB (R.FE_STAT_FULL n) (decide (s.feDepth n ≤ f.taken))
        let t := t.when ends (fun t => t.modFe n (fun g => { g with comp := some ((t.feCompute n).1, (t.feCompute n).2, time) }))
        let d := if s.on (R.FE_DCFG_DSRC n) then t.feDetect n x time else (0, t)
        done (d.2.feEvents n (d.1 + swap.toNat * 32))

/-- ENGINE_OUTPUT (R498, R501, R506, R508 to R511): a computation ends. -/
def execEngineOutput (n : Engine) (s : State) : Host.Outcome State Fault Refusal :=
  match (s.eng n).comp with
  | none => done s
  | some (y, sat, time) =>
    if !s.watching then done s else
    let w := Word.ofN (y.toNat + time.toNat * 2 ^ 28)
    let t := (s.modFe n (fun f => { f with comp := none })).setReg (RW.FE_Y n) w
    let t := t.when (s.on (R.FE_CFG_OBEN n)) (·.modFe n (fun f => { f with writes := f.writes ++ [w] }))
    let t := (t.when sat (·.put (R.FE_STAT_OSAT n) 1)).aqOffer 1 n y.toInt time
    let d := if s.on (R.FE_DCFG_DSRC n) then (0, t) else t.feDetect n y.toInt time
    done (d.2.feEvents n (1 + d.1 + sat.toNat * 128))

/-- ENGINE_OUTPUT_WRITE (R111, R506): the oldest waiting output is written to the ring, while RAM can be accessed. -/
def execEngineOutputWrite (n : Engine) (s : State) : Host.Outcome State Fault Refusal :=
  match (s.eng n).writes with
  | [] => done s
  | w :: rest =>
    let c := s.reg (RW.FE_OWP n)
    if !s.watching then done s
    else done (((s.ramSet (s.get (R.FE_OBUF_BASE n) + c.toNat % s.get (R.FE_OBUF_LEN n)) w).modFe n (fun f => { f with writes := rest })).setReg
      (RW.FE_OWP n) (c + 1))

/-- The inactive bank. -/
def State.feOther (s : State) (n : Engine) : Fin 2 := if s.on (R.FE_BANK_ACT n) then 0 else 1
/-- Whether the inactive bank is valid. -/
def State.feOtherValid (s : State) (n : Engine) : Bool := s.on (if s.on (R.FE_BANK_ACT n) then R.FE_BANK_AVALID n else R.FE_BANK_BVALID n)

/-- BANK_LOAD (R504, R505): a write of FEn_BANK.LOAD. -/
def execBankLoad (_m : Master) (n : Engine) (s : State) : Host.Outcome State Fault Refusal :=
  if s.on (R.FE_BANK_LDBUSY n) || s.on (R.FE_BANK_SWPEND n) then done (s.put (R.FE_STAT_BANKREJ n) 1)
  else
    let a := s.get (R.FE_BANK_LADDR n)
    done ((s.put (R.FE_BANK_LDBUSY n) 1).modFe n (fun f => { f with
      copy := some ((List.range (s.get (R.FE_BANK_LCNT n))).map (fun k => s.ramAt (a + k))) }))

/-- Read the words of a bank copy as it ends: a word that has changed since it began is taken as it stood then or as it stands
(R504, R506); a word outside RAM is a free value. Log entry 55, DESIGN CHOICE. -/
def readBank (a : Nat) : List Word → State → Option (List (BitVec 24)) × State
  | [], s => (some [], s)
  | w :: t, s =>
    let r := if region a = .ram then s.ramRead a 3 0 else (some s.freeWord, s.useFree)
    match r.1 with
    | none => (none, r.2)
    | some v =>
      let pick := if v = w ∨ region a ≠ .ram then v else if r.2.freeWord.getLsbD 0 then v else w
      let q := readBank (a + 1) t r.2.useFree
      (q.1.map (fun l => pick.setWidth 24 :: l), q.2)

/-- BANK_COPY_END (R504, R511). -/
def execBankCopyEnd (n : Engine) (s : State) : Host.Outcome State Fault Refusal :=
  match (s.eng n).copy with
  | none => done s
  | some ws =>
    if !s.watching then done s else
    let b := s.feOther n
    let valid := if b = 0 then R.FE_BANK_AVALID n else R.FE_BANK_BVALID n
    let r := readBank (s.get (R.FE_BANK_LADDR n)) ws s
    let t := (r.2.put (R.FE_BANK_LDBUSY n) 0).modFe n (fun f => { f with copy := none })
    match r.1 with
    | some l => done (((t.modFe n (fun f => { f with banks := f.banks.set b l })).put valid 1).feEvents n 64)
    | none => done (((t.put valid 0).put (R.FE_STAT_MEMERR n) 1).feEvents n (64 + 128))

/-- BANK_SWAP (R505): a write of FEn_BANK.SWAP. -/
def execBankSwap (_m : Master) (n : Engine) (s : State) : Host.Outcome State Fault Refusal :=
  if s.on (R.FE_BANK_LDBUSY n) || !s.feOtherValid n then done (s.put (R.FE_STAT_BANKREJ n) 1) else done (s.put (R.FE_BANK_SWPEND n) 1)

/-- A write of FEn_CFG (R461, R507, R512). Log entry 33, DEDUCED. -/
def State.writeFeCfg (s : State) (n : Engine) (v : Word) : State :=
  let a := RW.FE_CFG n
  let en := getBits v 0 1 = 1
  let was := s.on (R.FE_CFG_EN n)
  let t := if was then s.when (s.changes a v 1) (·.put (R.FE_STAT_CFGREJ n) 1) else (s.writePlain a v).put (R.FE_CFG_EN n) 0
  let base := t.get (R.FE_OBUF_BASE n)
  let len := t.get (R.FE_OBUF_LEN n)
  if en && !was then
    (if t.on (R.FE_CFG_OBEN n) && !t.fencedBy (0x20 + n.val) base len then t.refuseFence (0x20 + n.val) base len
     else ((t.put (R.FE_CFG_EN n) 1).modFe n Fe.enable).put (R.FE_STAT_FULL n) 0)
  else if !en && was then ((t.put (R.FE_CFG_EN n) 0).modFe n (fun f => { f with comp := none })).qLeave (n.val + 1)
  else t

/-- A write of FEn_IOFS or FEn_OBUF (R512). -/
def State.writeFeIo (s : State) (n : Engine) (a : Nat) (v : Word) : State :=
  if s.on (R.FE_CFG_EN n) then s.put (R.FE_STAT_CFGREJ n) 1 else s.writePlain a v

/-- A write of FEn_DCFG restarts the detector window (R509). -/
def State.writeFeDcfg (s : State) (n : Engine) (v : Word) : State := (s.writePlain (RW.FE_DCFG n) v).modFe n Fe.restart

end Sys2Proof.Machine
end

