-- ==== Sys2Proof/Machine/Wake.lean ====
section
/-!
DEFINITION. Machine/Wake.lean: wakes and the wake log, requests for a power state, DOZE and the start of an entry (spec/03), and
the rest engine with its vote (spec/26), with the commands of the vote and of the CAN frames it observes.
-/
namespace Sys2Proof.Machine

/-! ## Wake sources -/

/-- An enabled wake source (R115): codes 1 to 0xC by PWR_WAKEEN. -/
def State.wakeEnabled (s : State) (code : Nat) : Bool := (s.reg RW.PWR_WAKEEN).getLsbD (code - 1)
/-- Sources that act in DOZE, in STANDBY and in REST (R115). -/
def actsDoze (code : Nat) : Bool := decide (code ≤ 4) || code = 9 || code = 10 || code = 12
def State.actsStandby (s : State) (code : Nat) : Bool :=
  decide (code ≤ 5) || decide (8 ≤ code) || (if s.on R.PWR_LPCTL_CAN_PN then code = 7 else code = 6)
def actsRest (code : Nat) : Bool := code != 7
/-- Sources that act in the target of an entry. -/
def State.actsTarget (s : State) (code : Nat) : Bool := if s.pwr.toRest then actsRest code else s.actsStandby code
/-- A local wake source (R722). -/
def State.wakeLocal (s : State) (code : Nat) : Bool := (s.get R.PWR_RVCFG_LOCMASK).testBit (code - 1)

/-! ## The wake log -/

/-- Write an entry of PWR_WAKE_LOG (R727): kind 1 wake, 2 abort sent, 3 abort received. -/
def State.logRing (s : State) (dt : Word) (kind code fr : Nat) (lp latched : Bool) (node : Nat) : State :=
  let n := s.get R.PWR_WLHDR_COUNT
  let k := n % 7
  let w := kind + lp.toNat * 4 + latched.toNat * 8 + (code % 16) * 16 + fr * 2 ^ 8 + (node % 16) * 2 ^ 12 + s.get R.PWR_RVSTAT_VN * 2 ^ 16
  ((s.setReg (RW.PWR_WLE0 k) dt).setReg (RW.PWR_WLE1 k) (Word.ofN w)).put R.PWR_WLHDR_COUNT (n + 1)

/-- The phases of the rest engine (R716). -/
def pIdle : Nat := 0
def pQuerying : Nat := 1
def pVoted : Nat := 2
def pCommit : Nat := 3
def pHold : Nat := 4
def pEntry : Nat := 5
def State.phaseRv (s : State) : Nat := s.get R.PWR_RVSTAT_PHASE
def State.setPhase (s : State) (p : Nat) : State := s.put R.PWR_RVSTAT_PHASE p

/-- FROM of a log entry written now (spec/26). -/
def State.logFrom (s : State) : Nat :=
  match s.pwr.mode, s.pwr.entry with
  | .doze, some .e3 => 5
  | .doze, some _ => 4
  | .doze, none => if s.phaseRv = pCommit then 2 else if s.phaseRv = pHold then 3 else 1
  | _, _ => 0

/-- Log a wake with the beat running, and show its code (R118, R727). Wakes of one always-on period share its device time. -/
def State.logWake (s : State) (code : Nat) : State :=
  let t := (s.logRing s.time.dtime 1 code s.logFrom false false 0).put R.PWR_STAT_WSRC code
  let w : WakeRun := ⟨s.time.aoNum, s.time.dtime, s.logFrom, s.pwr.entry == some .e2, [s.get R.PWR_WLHDR_COUNT % 7], [code]⟩
  t.modPwr (fun p => { p with woken := some w })

/-- Insert a number into a rising list. -/
def insertCode (n : Nat) : List Nat → List Nat
  | [] => [n]
  | m :: l => if n < m then n :: m :: l else m :: insertCode n l

/-- Set CODE in the log entries of the given slots (R727). -/
def State.setCodes (s : State) : List Nat → List Nat → State
  | k :: ks, c :: cs => State.setCodes (s.setReg (RW.PWR_WLE1 k) (setBits (s.reg (RW.PWR_WLE1 k)) 4 4 c)) ks cs
  | _, _ => s

/-- A further wake with the beat running after the one that ended DOZE or an entry: one of the same always-on period, or of the beat in which
the DOZE request at commit was refused, is logged too, the lower code first (R118, spec/03 and spec/26 At the edges). -/
def State.logAgain (s : State) (code : Nat) : State :=
  match s.pwr.woken with
  | none => s
  | some w =>
    let same := if w.codes.isEmpty then s.time.dtime == w.dt else s.time.aoNum == w.period
    if same && !w.codes.contains code && (actsDoze code || (w.target && s.actsTarget code)) then
      let codes := insertCode code w.codes
      let slots := w.slots ++ [s.get R.PWR_WLHDR_COUNT % 7]
      let t := ((s.logRing w.dt 1 code w.from' false false 0).setCodes slots codes).put R.PWR_STAT_WSRC (codes.getLastD code)
      t.modPwr (fun p => { p with woken := some { w with slots := slots, codes := codes } })
    else s

/-! ## The wake transmission -/

/-- The beat T_late (R724). -/
def State.tLate (s : State) : Word := s.reg RW.PWR_RVEND + Word.ofN (s.get R.PWR_RVCFG_THOLD * 240000 + 252000)
/-- One wake transmission with its LIN pulse (R678, R724). -/
def State.wakeFrames (s : State) : State := s.canWake.when (s.on R.PWR_RVCFG_WKLIN) (·.linPulse)
/-- A wake transmission can begin: RUN, CAN NORMAL, buffer 7 free. -/
def State.wakeTxOpen (s : State) : Bool := s.pwr.mode = .run && s.canMode = 2 && (s.net.can[(7 : Fin 8)]).isNone
/-- Buffer 7 holds a wake transmission (R678, R715). -/
def State.wakeTxRuns (s : State) : Bool := (s.net.can[(7 : Fin 8)]).any (fun x => x.wake && x.kind == .txBuffer)
/-- Begin a pending wake transmission as soon as it can (R724): rvTx is 1 before the first, 2 before the one at T_late, 3 when the
last has begun. -/
def State.tryWakeTx (s : State) : State :=
  if s.pwr.rvTx = 1 ∧ s.wakeTxOpen then
    s.wakeFrames.modPwr (fun p => { p with rvTx := if reached s.time.dtime s.tLate then 3 else 2 })
  else s
/-- A local wake after the interval's end (R724). -/
def State.startWakeTx (s : State) : State :=
  if s.on R.PWR_RVCFG_WKTX then ((s.modPwr (fun p => { p with rvTx := 1 })).put R.PWR_RVSTAT_TXPEND 1) else s
/-- The last wake transmission has ended (R724). -/
def State.endWakeTx (s : State) : State :=
  if s.pwr.rvTx = 3 ∧ !s.wakeTxRuns then ((s.modPwr (fun p => { p with rvTx := 0 })).put R.PWR_RVSTAT_TXPEND 0) else s

/-- The transmission at T_late (R724). -/
def State.lateWake (s : State) : State :=
  if s.pwr.rvTx = 2 ∧ s.wakeTxOpen ∧ reached s.time.dtime s.tLate then s.wakeFrames.modPwr (fun p => { p with rvTx := 3 }) else s

/-- LATE_WAKE_REPEAT (R724). -/
def execLateWakeRepeat (s : State) : Host.Outcome State Fault Refusal := done s.lateWake

/-! ## DOZE, RUN and the start of an entry -/

/-- A course has OUTEN other than HIZ (R119, R372). -/
def State.outputsOn (s : State) : Bool := allCourses.any (fun (c : Course) => s.on (R.PWM_OUT_OUTEN c))

/-- Enter DOZE (R111, R112, R117, R389, R468). -/
def State.enterDoze (s : State) : State :=
  let t := ((s.modPwr (fun p => { p with mode := .doze, wtimer := true, wtAt := s.time.dtime + 1 })).put R.PWR_STAT_STATE 1).fadcDiscard
  let t := ([0, 1, 2, 3] : List Dom).foldl (fun t d => t.put (R.GDRV_DOM_STAT_RDY d) 0) t
  t.refreshAll

/-- Step E1 of an entry into STANDBY or REST begins (R117, R121, R184, R702, R705). -/
def State.startEntry (s : State) (rest : Bool) : State :=
  let t := s.modPwr (fun p => { p with entry := some .e1, toRest := rest, wtimer := true, wtAt := s.time.dtime + 1, stepAt := s.time.dtime + 1 })
  let t := { t with core := { t.core with issueOn := false } }
  ((t.put R.PWR_STAT_STATE 2).lSeal rest).journal (if 3 ≤ s.get R.RSV_SDSTAT_STEP then 4 else 3)

/-- A request for RUN, DOZE, STANDBY or REST in RUN or DOZE (R119, R120, R129); other codes are reserved. -/
def State.requestPlain (s : State) (q : Nat) : State :=
  if s.pwr.entry.isSome then s.modPwr (fun p => { p with heldReq := some (BitVec.ofNat 3 q) })
  else if !s.watching ∨ 4 ≤ q then s
  else if q = 0 then (if s.pwr.mode = .doze then ((s.modPwr (fun p => { p with mode := .run })).put R.PWR_STAT_STATE 0).refreshAll else s)
  else if q = 1 ∧ s.pwr.mode = .doze then s
  else if s.outputsOn then s.put R.PWR_STAT_ENTRY 4
  else
    let t := if s.pwr.mode = .run then s.enterDoze else s
    if q = 1 then t else t.startEntry (q == 3)

/-- The device returns to RUN; a held request takes effect and a pending wake transmission begins. -/
def State.toRun (s : State) : State :=
  let t := ((s.modPwr (fun p => { p with mode := .run, entry := none, heldReq := none })).put R.PWR_STAT_STATE 0).refreshAll
  let t := t.tryWakeTx
  match s.pwr.heldReq with
  | some q => t.requestPlain q.toNat
  | none => t

/-- An entry is abandoned during E1 or E2: issue resumes, and ENTRY says why (R122, R123, R489). -/
def State.abandonEntry (s : State) (why : Nat) : State :=
  let t := if s.iconv.lpSum then ((s.useFree 2).icLpEnd s.freeWord (s.useFree).freeWord) else s
  let t := allCourses.foldl (fun t (c : Course) => t.modPos c (fun p => { p with e2 := none })) t
  let t := { t with core := { t.core with issueOn := true } }
  ((t.modPwr (fun p => { p with entry := none })).put R.PWR_STAT_STATE 1).put R.PWR_STAT_ENTRY why

/-! ## The rest engine: readiness and frames -/

/-- The reasons against rest (R717). -/
def State.notReady (s : State) : Nat :=
  s.outputsOn.toNat + s.lAnyBusy.toNat * 2 + (s.on R.PWR_RVCTL_HOLD).toNat * 4 + (s.on R.RSV_SDSTAT_STEP).toNat * 8

/-- Send a control frame (R714, R715). -/
def State.control (s : State) (dst : Nat) (bytes : List Nat) (seven : Bool := false) : State :=
  s.engSend { kind := .control, desc := rcpDesc false (s.rcpId 4 dst) (bytes.map (BitVec.ofNat 8)), seven := seven }

/-- An abort is sent (R718, R722): WAKE_ABORT, the log, OUTCOME and ABORTS; the engine returns to IDLE. -/
def State.abortSent (s : State) (cause : Nat) : State :=
  let t := s.logRing s.time.dtime 2 cause s.logFrom false false 0
  let t := ((t.put R.PWR_RVSTAT_OUTCOME 3).bump R.PWR_RVSTAT_ABORTS).setPhase pIdle
  t.control 0xF [6, s.get R.PWR_RVSTAT_VN, cause] true

/-- An abort is received (R721, R722). -/
def State.abortReceived (s : State) (src cause : Nat) : State :=
  (s.logRing s.time.dtime 3 cause s.logFrom false false src).bump R.PWR_RVSTAT_ABORTS

/-- Readiness may have ended in VOTED (R718). -/
def State.voteCheck (s : State) : State := if s.phaseRv = pVoted ∧ s.notReady ≠ 0 then s.abortSent 0xD else s

/-- Step S1 of a shutdown, from VOTED to the end of HOLD (R723). -/
def State.voteShutdown (s : State) : State :=
  if pVoted ≤ s.phaseRv ∧ s.phaseRv ≤ pHold then
    let t := (s.setPhase pIdle).put R.PWR_RVSTAT_OUTCOME 6
    if s.pwr.mode = .doze then t.toRun else t
  else s

/-- The commit interval is open, up to and including its end beat (R721, R722). -/
def State.inCommit (s : State) : Bool :=
  s.phaseRv == pCommit || (s.phaseRv == pHold && s.time.dtime == s.reg RW.PWR_RVEND)

/-- A write of PWR_CTL.REQ (R119, R120, R129, R722, R791): REQ = RUN in the commit interval aborts the rest; a machine halt lets no
other request take effect. -/
def State.request (s : State) (q : Nat) : State :=
  if s.halted && q != 0 then s
  else if q = 0 ∧ s.pwr.entry.isNone ∧ s.inCommit then (s.abortSent 0xD).toRun
  else if q = 0 ∧ s.pwr.mode = .doze ∧ s.pwr.entry.isNone then s.toRun
  else s.requestPlain q

/-- REQ_RUN (R129, R722). -/
def execReqRun (_m : Master) (s : State) : Host.Outcome State Fault Refusal := done (s.request 0)
/-- REQ_DOZE (R119, R129, R468). -/
def execReqDoze (_m : Master) (s : State) : Host.Outcome State Fault Refusal := done (s.request 1)
/-- REQ_STANDBY (R119 to R121). -/
def execReqStandby (_m : Master) (s : State) : Host.Outcome State Fault Refusal := done (s.request 2)
/-- REQ_REST (R119 to R121). -/
def execReqRest (_m : Master) (s : State) : Host.Outcome State Fault Refusal := done (s.request 3)

/-! ## Wakes -/

/-- A wake in DOZE (R116, R722, R724): in the commit interval a local one aborts the rest; in HOLD it ends the vote. -/
def State.dozeWake (s : State) (code : Nat) : State :=
  let t := s.logWake code
  let t := if s.inCommit ∧ s.wakeLocal code then t.abortSent code
    else if s.phaseRv = pHold ∧ s.wakeLocal code then (t.setPhase pIdle).startWakeTx
    else t
  (t.toRun).assertEv 49

/-- A wake abandons the entry in E1 or E2 (R123, R724). -/
def State.entryWake (s : State) (code : Nat) : State :=
  let t := (s.logWake code).abandonEntry 2
  let t := (t.when (s.phaseRv == pEntry) (·.setPhase pIdle)).when (s.wakeLocal code) (·.startWakeTx)
  (t.toRun).assertEv 49

/-- The wake sequence of STANDBY or REST begins (R126, R128). -/
def State.startWake (s : State) : State :=
  match s.pwr.mode with
  | .standby => s.modPwr (fun p => { p with wake := some .regs })
  | .rest =>
    let t := (s.put R.RST_STAT_KIND 7).orF R.RST_STAT_HIST 0x40
    (t.modPwr (fun p => { p with mode := .start, boot := .regs, kind := 7, rstDrive := true })).closeDebug
  | _ => s

/-- A wake takes its place among those noted: by its always-on period, then by its code (R118, R727). -/
def LpWake.insert (w : LpWake) : List LpWake → List LpWake
  | [] => [w]
  | x :: l => if w.n < x.n ∨ (w.n = x.n ∧ w.code < x.code) then w :: x :: l else x :: w.insert l

/-- Note a wake that is logged at the hand-off (R80, R124, R727). -/
def State.noteWake (s : State) (code : Nat) (latched : Bool) (fr : Nat) : State :=
  s.modPwr (fun p => { p with lpWakes := LpWake.insert { code := code, n := s.time.aoCount, latched := latched, from' := fr } p.lpWakes })

/-- A wake source is detected (R115, R116, R123, R124, R126, R128). -/
def State.wake (s : State) (code : Nat) : State :=
  if !s.wakeEnabled code then s
  else match s.pwr.mode, s.pwr.entry with
  | .doze, none => if actsDoze code then s.dozeWake code else s
  | .doze, some .e1 => if actsDoze code then s.entryWake code else s
  | .doze, some .e2 => if actsDoze code || s.actsTarget code then s.entryWake code else s
  | .doze, some .e3 => if s.actsTarget code then s.noteWake code true 5 else s
  | .standby, _ => if s.actsStandby code then
      let t := s.noteWake code false 6
      if s.pwr.wake.isNone then t.startWake else t
    else s
  | .rest, _ => if actsRest code then (s.noteWake code false 7).startWake else s
  | .start, _ => if s.pwr.kind = 7 ∧ actsRest code ∧ s.pwr.boot ≠ .flow then s.noteWake code false 7 else s
  | .run, _ => s.logAgain code
  | _, _ => s

/-- A network wake frame becomes valid (R721): src and cause are those of a WAKE_ABORT of this vote; any other frame counts as a
program action in the log. -/
def State.netWake (s : State) (src cause : Nat) : State :=
  if !s.on R.PWR_RVCFG_EN || !s.watching then s
  else if s.inCommit then (((s.abortReceived src cause).setPhase pIdle).put R.PWR_RVSTAT_OUTCOME 4).toRun
  else if s.phaseRv = pHold then ((((s.logWake 0xD).setPhase pIdle).put R.PWR_RVSTAT_OUTCOME 7).toRun).assertEv 49
  else if s.phaseRv = pEntry ∧ s.pwr.entry = some .e1 then
    (((((s.logWake 0xD).abandonEntry 2).setPhase pIdle).put R.PWR_RVSTAT_OUTCOME 7).toRun).assertEv 49
  else s

/-! ## The coordinator -/

/-- The coordinator collects answers and has not decided (R719). -/
def State.querying (s : State) : Bool := s.phaseRv == pQuerying && !s.pwr.rvDecided

/-- The coordinator cancels (R719). -/
def State.voteCancel (s : State) : State :=
  (((s.setPhase pIdle).put R.PWR_RVSTAT_OUTCOME 2).control 0xF [5, s.get R.PWR_RVSTAT_VN]).assertEv 49

/-- Enter the commit interval that began with the SOF stamp sof (R720, R722): DOZE by a write of REQ, whose refusal aborts. -/
def State.enterCommit (s : State) (ci : Nat) (sof : Word) : State :=
  let t := s.setReg RW.PWR_RVEND (sof + Word.ofN (ci * 240000))
  let t := t.modPwr (fun p => { p with rvPos := s.positions })
  if s.outputsOn then
    let w : WakeRun := ⟨s.time.aoNum, s.time.dtime, s.logFrom, false, [], []⟩
    ((t.put R.PWR_STAT_ENTRY 4).abortSent 0xE).modPwr (fun p => { p with woken := some w })
  else (if s.pwr.mode = .run then t.enterDoze else t).setPhase pCommit

/-- The coordinator decides to commit once every node has answered READY, and sends REST_COMMIT (R719). -/
def State.voteDecide (s : State) : State :=
  let nodes := s.get R.PWR_RVCOORD_NODES
  if s.querying && nodes &&& s.get R.PWR_RVRES_READY == nodes then
    let ci := s.get R.PWR_RVCOORD_CI
    ((s.modPwr (fun p => { p with rvDecided := true })).control 0xF
      [4, s.get R.PWR_RVSTAT_VN, s.get R.PWR_RVSTAT_TGT, ci / 256, ci]).assertEv 49
  else s

/-- The coordinator's REST_COMMIT has ended SENT: its commit interval runs from the SOF stamp of that frame (R720). -/
def State.commitSent (s : State) (x : CanTx) : State :=
  if x.isCommit && s.pwr.rvDecided then
    (s.modPwr (fun p => { p with rvDecided := false })).enterCommit (descByte x.desc 3 * 256 + descByte x.desc 4) (x.sof.getD 0)
  else s

/-- What the end of a frame of the ledger or the rest engine brings (R711, R712, R720). Log entry 41, DEDUCED. -/
def State.engSent (s : State) (x : CanTx) : State := ((s.markReplied x).syncSent x).commitSent x

/-- CAN_TX_END (R668, R669, R678, R711, R720, R724). -/
def execCanTxEnd (k : Fin 8) (ok : Bool) (s : State) : Host.Outcome State Fault Refusal :=
  let t := s.canTxEnd k ok
  let t := match s.net.can[k] with
    | some x => if ok && x.sof.isSome && !x.wupf then t.engSent x else t
    | none => t
  done t.endWakeTx.tryWakeTx

/-- QUERY (R719): a write of PWR_RVCMD.QUERY on the coordinator. -/
def execQueryRest (_m : Master) (tgt : Bool) (s : State) : Host.Outcome State Fault Refusal :=
  if !s.on R.PWR_RVCFG_EN || s.get R.RST_STRAP_NODE != 0xC || s.phaseRv != pIdle then done s
  else if s.notReady ≠ 0 then done (s.put R.PWR_RVSTAT_OUTCOME 8)
  else
    let vn := (s.get R.PWR_RVSTAT_VN + 1) % 256
    let t := (((s.put R.PWR_RVSTAT_VN vn).putB R.PWR_RVSTAT_TGT tgt).setPhase pQuerying).modPwr (fun p => { p with rvAt := none })
    let t := ((t.put R.PWR_RVRES_READY 0x1000).put R.PWR_RVRES_BUSY 0).put R.PWR_RVRES_MISS 0
    done ((t.control 0xF [1, vn, tgt.toNat]).voteDecide)

/-- Whether a received vote frame carries the vote in progress of a phase. -/
def State.voteOf (s : State) (phase : Nat) (vn : BitVec 8) : Bool :=
  s.on R.PWR_RVCFG_EN && s.phaseRv == phase && s.get R.PWR_RVSTAT_VN == vn.toNat

/-- READY from a node (R719). -/
def State.readyFrom (s : State) (src : Nat) (vn : BitVec 8) : State :=
  if s.voteOf pQuerying vn && s.querying && (s.get R.PWR_RVCOORD_NODES).testBit src then
    (s.put R.PWR_RVRES_READY (s.get R.PWR_RVRES_READY ||| (1 <<< src))).voteDecide
  else s

/-- BUSY from a node (R719). -/
def State.busyFrom (s : State) (src : Nat) (vn : BitVec 8) : State :=
  if s.voteOf pQuerying vn && s.querying then
    (s.when ((s.get R.PWR_RVCOORD_NODES).testBit src) (·.put R.PWR_RVRES_BUSY (s.get R.PWR_RVRES_BUSY ||| (1 <<< src)))).voteCancel
  else s

/-- The answer window has passed: TANS milliseconds after the SOF stamp of the REST_QUERY (R719). -/
def State.answerOver (s : State) : Bool :=
  s.querying && s.pwr.rvAt.any (fun t => reached s.time.dtime (t + Word.ofN (s.get R.PWR_RVCOORD_TANS * 240000)))

/-- The answer window ends with nodes silent (R719). -/
def State.answerEnd (s : State) : State :=
  if s.answerOver then
    let nodes := s.get R.PWR_RVCOORD_NODES
    (s.put R.PWR_RVRES_MISS (nodes ^^^ (nodes &&& (s.get R.PWR_RVRES_READY ||| s.get R.PWR_RVRES_BUSY)))).voteCancel
  else s

/-- ANSWER_TIMEOUT (R719). -/
def execAnswerTimeout (s : State) : Host.Outcome State Fault Refusal := done s.answerEnd

/-- ABORT (R722): a write of PWR_RVCMD.ABORT. -/
def execAbortRest (_m : Master) (s : State) : Host.Outcome State Fault Refusal :=
  if s.inCommit then done (s.abortSent 0xD).toRun else done s

/-! ## The nodes -/

/-- REST_QUERY (R717): READY and VOTED, or BUSY and IDLE. -/
def State.restQuery (s : State) (vn : BitVec 8) (tgt : Bool) : State :=
  if !s.on R.PWR_RVCFG_EN || (s.phaseRv != pIdle && s.phaseRv != pVoted) then s
  else
    let why := s.notReady
    if why = 0 then
      ((((s.put R.PWR_RVSTAT_VN vn.toNat).putB R.PWR_RVSTAT_TGT tgt).setPhase pVoted).modPwr (fun p => { p with
        rvAt := some s.time.dtime })).control 0xC [2, vn.toNat]
    else (s.setPhase pIdle).control 0xC [3, vn.toNat, why]

/-- REST_COMMIT (R718, R720, R722), of SOF stamp sof. -/
def State.restCommit (s : State) (vn : BitVec 8) (tgt : Bool) (ci : Nat) (sof : Word) : State :=
  if s.voteOf pVoted vn then (s.putB R.PWR_RVSTAT_TGT tgt).enterCommit ci sof else s

/-- REST_CANCEL (R718). -/
def State.restCancel (s : State) (vn : BitVec 8) : State := if s.voteOf pVoted vn then s.setPhase pIdle else s

/-- No decision has come within TVOTE milliseconds of the REST_QUERY (R718). -/
def State.voteOver (s : State) : Bool :=
  s.phaseRv == pVoted && s.pwr.rvAt.any (fun t => reached s.time.dtime (t + Word.ofN (s.get R.PWR_RVCFG_TVOTE * 240000)))

/-- VOTED ends without a decision (R718). -/
def State.voteEnd (s : State) : State := if s.voteOver then (s.setPhase pIdle).put R.PWR_RVSTAT_OUTCOME 5 else s

/-- VOTE_TIMEOUT (R718). -/
def execVoteTimeout (s : State) : Host.Outcome State Fault Refusal := done s.voteEnd

/-- WAKE_ABORT (R718, R719, R721, spec/26 At the edges): of the node's own vote; a later one finds the node in RUN and is logged. -/
def State.abortFrom (s : State) (src : Nat) (vn : BitVec 8) (cause : Nat) : State :=
  if !s.on R.PWR_RVCFG_EN || s.get R.PWR_RVSTAT_VN != vn.toNat then s
  else match s.phaseRv with
    | 1 => (s.abortReceived src cause).when s.querying (·.voteCancel)
    | 2 => ((s.abortReceived src cause).setPhase pIdle).put R.PWR_RVSTAT_OUTCOME 4
    | 0 => s.abortReceived src cause
    | _ => s.netWake src cause

/-- The rest engine takes a control frame (R714, R715): its kind, vote number and further bytes, from node src with SOF stamp d. A reserved
kind, or a frame shorter than its DLC, is ignored. -/
def State.controlIn (s : State) (d : Word) (src : Nat) (bytes : List (BitVec 8)) : State :=
  match bytes with
  | [1, vn, tgt] => s.restQuery vn (tgt.getLsbD 0)
  | [2, vn] => s.readyFrom src vn
  | [3, vn, _] => s.busyFrom src vn
  | [4, vn, tgt, c1, c0] => s.restCommit vn (tgt.getLsbD 0) (c1.toNat * 256 + c0.toNat) d
  | [5, vn] => s.restCancel vn
  | [6, vn, cause] => s.abortFrom src vn (cause.toNat % 16)
  | [7, _] => s.netWake src 0xD
  | _ => s

/-- A control frame becomes valid (R715): a twin shadow keeps it for a takeover, and a primary journals it (R683, R737). -/
def State.controlFrame (s : State) (d : Word) (src : BitVec 4) (bytes : List (BitVec 8)) : State :=
  if s.shadowing then s.heard (.control d src bytes)
  else if s.canHears && s.on R.PWR_RVCFG_EN then (s.controlIn d src.toNat bytes).jotRx (.control d src bytes)
  else s

/-- READY (R719). -/
def execReadyMsg (src : BitVec 4) (vn : BitVec 8) (s : State) : Host.Outcome State Fault Refusal := done (s.controlFrame s.phys src [2, vn])
/-- BUSY (R719). -/
def execBusyMsg (src : BitVec 4) (vn : BitVec 8) (s : State) : Host.Outcome State Fault Refusal := done (s.controlFrame s.phys src [3, vn, 0])
/-- REST_QUERY (R717). -/
def execRestQuery (src : BitVec 4) (vn : BitVec 8) (tgt : Bool) (s : State) : Host.Outcome State Fault Refusal :=
  done (s.controlFrame s.phys src [1, vn, BitVec.ofNat 8 tgt.toNat])
/-- REST_COMMIT (R718, R720, R722). -/
def execRestCommit (src : BitVec 4) (vn : BitVec 8) (tgt : Bool) (ci : BitVec 16) (sof : Word) (s : State) :
    Host.Outcome State Fault Refusal :=
  done (s.controlFrame sof src [4, vn, BitVec.ofNat 8 tgt.toNat, BitVec.ofNat 8 (ci.toNat / 256), BitVec.ofNat 8 ci.toNat])
/-- REST_CANCEL (R718). -/
def execRestCancel (src : BitVec 4) (vn : BitVec 8) (s : State) : Host.Outcome State Fault Refusal := done (s.controlFrame s.phys src [5, vn])
/-- WAKE_ABORT (R718, R719, R721). -/
def execWakeAbort (src : BitVec 4) (vn : BitVec 8) (cause : BitVec 4) (s : State) : Host.Outcome State Fault Refusal :=
  done (s.controlFrame s.phys src [6, vn, cause.zeroExtend 8])
/-- WAKE (R721): a WAKE control frame acts as a network wake frame. -/
def execWakeFrame (src : BitVec 4) (code : BitVec 8) (s : State) : Host.Outcome State Fault Refusal := done (s.controlFrame s.phys src [7, code])

/-- The rest engine observes an RCP request: class 0 or 1, carrying PFX, whatever its DST (R715). -/
def State.rcpSeen (s : State) (q : RcpRequest) : Bool :=
  let id := q.id.toNat
  s.on R.PWR_RVCFG_EN && s.canHears && !q.lin && id / 2 ^ 11 == s.get R.LEDG_CFG_PFX && (id / 2 ^ 8 % 8 == 0 || id / 2 ^ 8 % 8 == 3)

/-- What the observed request of node src does (R719, R721). -/
def State.reqSeen (s : State) (src : Nat) : State := if s.querying then s.voteCancel else s.netWake src 0xD

/-- The commit interval has ended (R720). -/
def State.commitEnd (s : State) : State :=
  if s.phaseRv = pCommit ∧ reached s.time.dtime (s.reg RW.PWR_RVEND) then s.setPhase pHold else s

/-- COMMIT_INTERVAL_END (R720). -/
def execCommitIntervalEnd (s : State) : Host.Outcome State Fault Refusal := done s.commitEnd

/-- HOLD has lasted THOLD milliseconds (R720). -/
def State.holdOverRv (s : State) : Bool :=
  s.phaseRv == pHold && reached s.time.dtime (s.reg RW.PWR_RVEND + Word.ofN (s.get R.PWR_RVCFG_THOLD * 240000))

/-- HOLD ends (R720, R723): the node requests the target state, or is not ready and returns to RUN. -/
def State.holdEndRv (s : State) : State :=
  if !s.holdOverRv then s
  else if s.notReady ≠ 0 then
    let t := (s.setPhase pIdle).put R.PWR_RVSTAT_OUTCOME 6
    if s.pwr.mode = .doze then t.toRun else t
  else (s.setPhase pEntry).requestPlain (if s.on R.PWR_RVSTAT_TGT then 3 else 2)

/-- HOLD_END (R720, R723). -/
def execHoldEnd (s : State) : Host.Outcome State Fault Refusal := done s.holdEndRv

/-- What falls due of the vote in a beat comes about by its end (R718 to R720, R724). -/
def State.voteDue (s : State) : State := s.voteEnd.answerEnd.commitEnd.holdEndRv.lateWake

/-! ## Frames on the CAN bus -/

/-- The selective-wake filter accepts a frame (R676). -/
def State.pnAccepts (s : State) (f : CanFrame) : Bool :=
  let base := !f.fdf && (f.ide == s.on R.CAN_PN_IDE) && ((f.id.toNat ^^^ s.get R.CAN_PN_ID) &&& s.get R.CAN_PNMSK_MASK) == 0
  let m0 := s.reg RW.CAN_PNDM0
  let m1 := s.get R.CAN_PNDM1_M
  let w := packBytes 2 f.data
  base && ((m0 == 0 && m1 == 0) || (f.dlc.toNat == s.get R.CAN_PN_DLC
    && ((w.getD 0 0 &&& m0) != 0 || (getBits (w.getD 1 0) 32 16 &&& m1) != 0)))

/-- The ledger takes a frame, which then bypasses the filters: PFX, a request, beacon or credit TYPE, and the own node or 0xF as DST
(R687, R713). -/
def State.ledgFrame (s : State) (f : CanFrame) : Bool :=
  let id := f.id.toNat
  s.on R.LEDG_CFG_EN && !(s.get R.RST_STRAP_ROLE = 3 && s.get R.PEER_CSSTAT_POS != 0) && f.ide && id / 2 ^ 11 == s.get R.LEDG_CFG_PFX
    && id / 2 ^ 8 % 8 != 1 && id / 2 ^ 8 % 8 != 4 && (id % 16 == s.get R.RST_STRAP_NODE || id % 16 == 0xF)

/-- CAN_FRAME_VALID (R669 to R673, R721): a frame of another node becomes valid in NORMAL or LISTEN. -/
def execCanFrameValid (f : CanFrame) (s : State) : Host.Outcome State Fault Refusal :=
  if s.shadowing then done (s.heard (.can f))
  else if s.canHears then
    let t := (if s.ledgFrame f then s else s.canTake f).canGood R.CAN_STAT_REC
    done (if s.pnAccepts f then t.netWake (f.id.toNat / 16 % 16) 0xD else t)
  else done s

/-- CAN_WAKEUP_PATTERN (R115, R677). -/
def execCanWakeupPattern (s : State) : Host.Outcome State Fault Refusal := done (s.wake 6)

/-- CAN_SELECTIVE_WAKE_FRAME (R115, R676): a frame decoded in selective wake, none for one with an error. -/
def execCanSelectiveWakeFrame (f : Option CanFrame) (s : State) : Host.Outcome State Fault Refusal :=
  let armed := s.on R.PWR_LPCTL_CAN_PN && (s.pwr.mode = .standby || s.netAsleep)
  if !armed then done s
  else match f with
    | none =>
      let n := s.net.pnErr + 1
      let t := s.modNet (fun m => { m with pnErr := if n = 32 then 0 else n })
      if n = 32 then done ((t.put R.CAN_STAT_PNERRWK 1).wake 7) else done t
    | some f =>
      if f.fdf then done s
      else
        let t := s.modNet (fun m => { m with pnErr := m.pnErr - 1 })
        if s.pnAccepts f then done (t.wake 7) else done t

/-- LIN_BUS_WAKE (R115, R682). -/
def execLinBusWake (s : State) : Host.Outcome State Fault Refusal := done (s.wake 8)

end Sys2Proof.Machine
end

