-- ==== Sys2Proof/Machine/Pos.lean ====
section
/-!
DEFINITION. Machine/Pos.lean: Hall registrations, position counters and fine capture (spec/18), with their commands.
-/
namespace Sys2Proof.Machine

/-! ## Registrations -/

/-- Motion of a course ends the commit interval or, in E2, the entry (R115, R123, R722). -/
def State.hallWake (s : State) (c : Course) (d : Int) : State :=
  let th := s.get { addr := RW.PWR_WAKEHALL, lo := 6 * c.val, len := 6, w1c := false }
  let s := s.modPos c (fun p => { p with e2 := p.e2.map (· + d) })
  if th = 0 then s
  else if s.inCommit then
    let moved := (s.reg (RW.POS_CNT c) - s.pwr.rvPos[c]).toInt
    if s.wakeEnabled 5 && s.wakeLocal 5 && decide (th ≤ moved.natAbs) then s.dozeWake 5 else s
  else match (s.posn c).e2 with
    | some e => if th ≤ e.natAbs then s.wake 5 else s
    | none => s

/-- The last transition and its interval (R519, R530). -/
def State.posTrans (s : State) (c : Course) (e : Word) (neg : Bool) : State :=
  let t := match (s.posn c).chain with
    | some p => (s.put (R.POS_TINT_INT c) (min (e - p).toNat (2 ^ 40 - 1))).put (R.POS_TINT_VALID c) 1
    | none => s.put (R.POS_TINT_VALID c) 0
  (((t.setReg (RW.POS_LAST c) e).putB (R.POS_TINT_DIR c) neg).put (R.POS_TINT_LP c) 0).modPos c (fun p => { p with chain := some e })

/-- Count a registration of a counting course (R517, R520 to R522): the state, and whether it set SKIPCNT or HINV. -/
def State.posCount (s : State) (c : Course) (h : BitVec 3) (e : Word) : Bool × State :=
  match sectorOf h, (s.posn c).ref with
  | none, _ => (true, ((s.put (R.POS_STAT_HINV c) 1).bump (R.POS_STAT_HINVCNT c)).posBreak c)
  | some n, none => (false, (s.modPos c (fun p => { p with ref := some n })).posBreak c)
  | some n, some r =>
    let d := (n + 6 - r) % 6
    let ch := s.posStep c d
    let skip := sectorSkip d
    let t := (s.modPos c (fun p => { p with
      ref := some n, regBeat := some (s.time.dtime, ch)
      regOld := [s.reg (RW.POS_CNT c), s.reg (RW.POS_LAST c), s.reg (RW.POS_TINT c), s.reg (RW.POS_STAT c)] })).posAdd c ch
    let t := t.when skip (fun t => ((t.bump (R.POS_STAT_SKIPCNT c)).posUnc c 1).posBreak c)
    let t := t.when (ch != 0 && (s.posn c).setBeat == some s.time.dtime) (·.put (R.POS_STAT_LDHIT c) 1)
    let t := if d = 1 ∨ d = 5 then t.posTrans c e (decide (ch < 0)) else t
    (skip, if ch = 0 then t else t.hallWake c ch)

/-- The first registrations after X4 of a course whose domain was not sampled (R527): within the synchroniser and filter. -/
def State.posCompare (s : State) (c : Course) (h : BitVec 3) : State :=
  match (s.posn c).cmp with
  | none => s
  | some (h0, b) =>
    let t := s.modPos c (fun p => { p with cmp := none })
    if h ≠ h0 ∧ (s.time.dtime - b).toNat ≤ s.get (R.POS_CFG_HFILT c) + 2 then t.posUnc c 4 else t

/-- A Hall state of a course is registered, from an edge a number of beats before (R364, R365, R515 to R522, R527, R530): a course
with EN 0 shows the state and commutates, and counts nothing. -/
def State.hallReg (s : State) (c : Course) (h : BitVec 3) (back : Nat) : State :=
  let e := s.time.dtime - Word.ofN back
  let en := s.on (R.POS_CFG_EN c)
  let t := s.modPos c (fun p => { p with hst := h })
  let r := if en then (t.posCompare c h).posCount c h e else (false, t)
  let t := (r.2.posShow c).hallCommut c (sectorOf h)
  let t := t.when (s.on (R.POS_CFG_EVT c) || (r.1 && s.on (R.POS_CFG_EVE c))) (·.assertEv (80 + c.val))
  t.jot 3 [Word.ofN (c.val * 2 ^ 13 + h.toNat * 2 ^ 10 + back % 256)]

/-- HALL_REGISTRATION (R515, R518, R733): the filtered levels of inputs A, B and C, in bits 0 to 2; a twin shadow keeps what its own
inputs register for a takeover (R754). -/
def execHallRegistration (c : Course) (levels : BitVec 3) (s : State) : Host.Outcome State Fault Refusal :=
  if !s.watching then done s
  else
    let h := s.hallState c levels
    if s.shadowing then done (s.modTwin (fun x => { x with halls := (c, h, s.phys) :: x.halls }))
    else done (s.hallReg c h (s.get (R.POS_CFG_HFILT c)))

/-- A write of POSc_SET (R522, R523): a transition registered in the same beat is applied after it. -/
def State.writePosSet (s : State) (m : Master) (c : Course) (v : Word) : State :=
  if s.barred m c false then s.put (R.POS_STAT_WREJ c) 1
  else
    let t := (s.setReg (RW.POS_CNT c) v).modPos c (fun p => { p with setBeat := some s.time.dtime })
    match (s.posn c).regBeat with
    | some (b, d) => if b = s.time.dtime ∧ d ≠ 0 then (t.posAdd c d).put (R.POS_STAT_LDHIT c) 1 else t
    | none => t

/-- POS_SET (R522). -/
def execPosSet (m : Master) (c : Course) (v : Word) (s : State) : Host.Outcome State Fault Refusal := done (s.writePosSet m c v)

/-- A write of POSc_ADD (R522, R523). -/
def State.writePosAdd (s : State) (m : Master) (c : Course) (v : Word) : State :=
  if s.barred m c false then s.put (R.POS_STAT_WREJ c) 1 else s.setReg (RW.POS_CNT c) (s.reg (RW.POS_CNT c) + v)

/-- POS_ADD (R522). -/
def execPosAdd (m : Master) (c : Course) (v : Word) (s : State) : Host.Outcome State Fault Refusal := done (s.writePosAdd m c v)

/-- EN is cleared: a transition registered in the same beat is not counted (spec/18 At the edges). -/
def State.posUncount (s : State) (c : Course) : State :=
  match (s.posn c).regBeat, (s.posn c).regOld with
  | some (b, _), [cnt, last, tint, stat] =>
    if b = s.time.dtime then
      let t := (((s.setReg (RW.POS_CNT c) cnt).setReg (RW.POS_LAST c) last).setReg (RW.POS_TINT c) tint).setReg (RW.POS_STAT c) stat
      (t.when (t.get (R.POS_STAT_UNC c) != s.get (R.POS_STAT_UNC c)) (·.persistShadow (RW.POS_STAT c))).posShow c
    else s
  | _, _ => s

/-- A write of POSc_CFG (R520, R523, R530): setting EN takes the state the inputs show as the first one registered. -/
def State.writePosCfg (s : State) (m : Master) (c : Course) (v : Word) : State :=
  if s.barred m c false then s.put (R.POS_STAT_WREJ c) 1
  else
    let was := s.on (R.POS_CFG_EN c)
    let pol := BitVec.ofNat 3 (s.get (R.POS_CFG_HPOL c))
    let t := s.writePlain (RW.POS_CFG c) v
    if t.on (R.POS_CFG_EN c) && !was then
      let h := t.hallState c ((s.posn c).hst ^^^ pol)
      ((t.modPos c (fun p => { p with hst := h, ref := sectorOf h, cmp := none })).posBreak c).posShow c
    else t.when (was && !t.on (R.POS_CFG_EN c)) (·.posUncount c)

/-- LP_HALL_SAMPLE (R115, R130, R133, R524, R525, R528): the levels of HALL6d to HALL6d+5. -/
def execLpHallSample (d : Dom) (levels : BitVec 24) (s : State) : Host.Outcome State Fault Refusal :=
  if s.lpInstant d then
    let one (t : State) (c : Course) (lo : Nat) : State :=
      let before := (t.posn c).lpDelta
      let u := t.lpSample c (t.hallState c (levels.extractLsb' lo 3))
      let th := s.get { addr := RW.PWR_WAKEHALL, lo := 6 * c.val, len := 6, w1c := false }
      if th ≠ 0 ∧ th ≤ (u.posn c).lpDelta.natAbs ∧ before.natAbs < th then u.wake 5 else u
    let c0 : Course := ⟨2 * d.val, by omega⟩
    let c1 : Course := ⟨2 * d.val + 1, by omega⟩
    done (one (one s c0 (6 * d.val)) c1 (6 * d.val + 3))
  else done s

/-! ## Fine capture -/

def State.cap (s : State) (n : Fin 16) : Tc := s.tc[n]
def State.modTc (s : State) (n : Fin 16) (f : Tc → Tc) : State := { s with tc := s.tc.set n (f s.tc[n]) }

/-- A record enters a channel (R536, R538). -/
def State.tcEnter (s : State) (n : Fin 16) (dt w1 : Word) : State :=
  let t := s.modTc n (fun x => { x with recs := x.recs ++ [(dt, w1)], gap := false })
  let t := (t.put (R.TC_STAT_LEVEL n) ((s.cap n).recs.length + 1)).when (w1.getLsbD 5) (·.bump (R.TC_STAT_COARSE n))
  (t.when (s.on (R.TC_CFG_EVEN n)) (·.assertNext (88 + n.val))).jot 4 [Word.ofN n.val, dt, w1]

/-- A record enters, or is lost (R536 to R538). -/
def State.tcRecord (s : State) (n : Fin 16) (dt : Word) (tap : Nat) (coarse sub interval level : Bool) (len : Nat) : State :=
  let x := s.cap n
  if 8 ≤ x.recs.length then (s.bump (R.TC_STAT_OVR n)).modTc n (fun x => { x with gap := true })
  else
    let w1 := tap + coarse.toNat * 32 + sub.toNat * 64 + interval.toNat * 128 + level.toNat * 256 + x.gap.toNat * 512 + len * 1024
    s.tcEnter n dt (Word.ofN w1)

/-- Open or close the start of a channel. -/
def State.tcOpen (s : State) (n : Fin 16) (x : Option (Word × Nat × Bool)) : State :=
  (s.modTc n (fun t => { t with start := x })).putB (R.TC_STAT_OPEN n) x.isSome

/-- A stop edge in interval mode (R535). -/
def State.tcStop (s : State) (n : Fin 16) (tap : Nat) (coarse level : Bool) : State :=
  let now := s.time.dtime
  match (s.cap n).start with
  | none => s.bump (R.TC_CNT_ORPHAN n)
  | some (b, t0, c0) =>
    let same := b = now ∧ t0 = tap ∧ c0 = coarse
    let any := coarse || c0
    let beats := (now - b).toNat
    let len := if any then beats * 32 else beats * 32 + tap - t0
    let after (t : State) : State := t.tcOpen n (if s.on (R.TC_CFG_CHAIN n) then some (now, tap, coarse) else none)
    if same then
      let t := s.bump (R.TC_CNT_SUBCNT n)
      if s.on (R.TC_CFG_SUBDIS n) then t else after (t.tcRecord n now tap any true true level 0)
    else after (s.tcRecord n now (if any then 0 else tap) any false true level (min len (2 ^ 38 - 1)))

/-- A start edge in interval mode (R535). -/
def State.tcStart (s : State) (n : Fin 16) (tap : Nat) (coarse : Bool) : State :=
  (s.when (s.cap n).start.isSome (·.bump (R.TC_CNT_RESTART n))).tcOpen n (some (s.time.dtime, tap, coarse))

/-- An edge is selected by SEDGE or PEDGE. -/
def edgeSel (sel : Nat) (rising : Bool) : Bool := if rising then sel.testBit 0 else sel.testBit 1

/-- The delay line of a channel (R531). -/
def tcLine (n : Fin 16) : Fin 2 := if n.val < 8 then 0 else 1

/-- Whether edges of this beat on the delay line of a channel are stamped to the beat (R532, R533). -/
def State.tcCoarse (s : State) (n : Fin 16) : Bool := s.stage.dlEdge[tcLine n] == some s.time.dtime || !s.lineLocked (tcLine n)

/-- An edge of a channel takes effect (R532 to R536). -/
def State.tcEdge (s : State) (n : Fin 16) (partner rising : Bool) (tap : Nat) : State :=
  let coarse := s.tcCoarse n
  let t0 := if coarse then 0 else tap
  let sSel := !partner && edgeSel (s.get (R.TC_CFG_SEDGE n)) rising
  let pSel := edgeSel (s.get (R.TC_CFG_PEDGE n)) rising
  if !s.on (R.TC_CFG_MODE n) then s.when sSel (·.tcRecord n s.time.dtime t0 coarse false false rising 0)
  else
    let stop := if s.get (R.TC_CFG_SRC n) = s.get (R.TC_CFG_PSRC n) then !partner && pSel else partner && pSel
    (s.when stop (·.tcStop n t0 coarse rising)).when sSel (·.tcStart n t0 coarse)

/-- The edges of a channel in one beat, in the order in which R535 takes them: by tap, and the start first at the same tap or when they are
stamped to the beat. -/
def tcOrder (n : Fin 16) (coarse : Bool) (l : List (Fin 16 × Bool × Bool × Nat)) : List (Fin 16 × Bool × Bool × Nat) :=
  let own := l.filter (fun e => e.1 == n)
  match own.find? (fun e => !e.2.1), own.find? (fun e => e.2.1) with
  | some a, some b => if !coarse && decide (b.2.2.2 < a.2.2.2) then [b, a] else [a, b]
  | some a, none => [a]
  | none, some b => [b]
  | none, none => []

/-- The capture edges of this beat take effect at its end, when it is known which delay lines have placed an edge in it (R532, R535). Log
entry 64, DEDUCED. -/
def State.tcBeat (s : State) : State :=
  if s.now.edges.isEmpty then s
  else
    let t := { s with now := { s.now with edges := [] } }
    (List.finRange 16).foldl (fun t n => (tcOrder n (s.tcCoarse n) s.now.edges).foldl (fun t e => t.tcEdge n e.2.1 e.2.2.1 e.2.2.2) t) t

/-- CAPTURE_EDGE (R531 to R536, R539): an edge of SRC, or with partner of PSRC, at a tap of this beat; a source takes one edge in a beat
(R534). Log entry 64, DEDUCED. -/
def execCaptureEdge (n : Fin 16) (partner rising : Bool) (tap : BitVec 5) (s : State) : Host.Outcome State Fault Refusal :=
  if s.shadowing || !s.on (R.TC_CFG_EN n) || !s.watching || s.now.edges.any (fun e => e.1 == n && e.2.1 == partner) then done s
  else done { s with now := { s.now with edges := s.now.edges ++ [(n, partner, rising, tap.toNat)] } }

/-- What a load of TCn_POP returns (R537). -/
def State.tcPeek (s : State) (n : Fin 16) : Word := match (s.cap n).recs with | r :: _ => r.1 | [] => 0xFFFFFFFFFFFF#48

/-- CAPTURE_POP (R537): a load of TCn_POP takes the oldest record and latches its word 1 for the reader. -/
def execCapturePop (m : Master) (n : Fin 16) (s : State) : Host.Outcome State Fault Refusal :=
  let x := s.cap n
  let w1 := match x.recs with | r :: _ => r.2 | [] => 0
  done ((s.modTc n (fun x => { x with
    recs := x.recs.drop 1, aux := (readerOf m, w1) :: x.aux.filter (fun p => p.1 != readerOf m) })).put (R.TC_STAT_LEVEL n) (x.recs.length - 1))

/-- A write of TCn_CFG clears an open start (spec/18 At the edges). -/
def State.writeTcCfg (s : State) (n : Fin 16) (v : Word) : State := (s.writePlain (RW.TC_CFG n) v).tcOpen n none

/-- Every open start is cleared at P0 (R539). -/
def State.tcClear (s : State) : State :=
  (List.finRange 16).foldl (fun t (n : Fin 16) => t.tcOpen n none) s

end Sys2Proof.Machine
end

