-- ==== Sys2Proof/Machine/Iconv.lean ====
section
/-!
DEFINITION. Machine/Iconv.lean: results, charge counters and self-test of the integrating converter (spec/16), with the commands that
concern it alone.
-/
namespace Sys2Proof.Machine

/-- IC1_PASS_GO (R479): a write of ICONV_IC1CFG.GO starts one pass, unless one runs. -/
def execIc1PassGo (_m : Master) (s : State) : Host.Outcome State Fault Refusal :=
  if s.on R.ICONV_IC1CFG_EN && !s.on R.ICONV_IC1CFG_CONT && s.iconv.pass.isEmpty && s.watching then done s.passStart else done s

/-! ## Results -/

/-- A result enters the queue and ICONV_RESj (R466, R480 to R483). -/
def State.icReport (s : State) (x : IcRes) : State :=
  let fl := x.clip.toNat + x.short.toNat * 4 + x.test.toNat * 8
  let w := x.res.toNat / 16 + x.code * 2 ^ 16 + 3 * 2 ^ 22 + fl * 2 ^ 24 + (x.closed.toNat % 2 ^ 20) * 2 ^ 28
  let r := x.res.toNat + x.n * 2 ^ 20 + (fl + s.fadc.gap.toNat * 2) * 2 ^ 39
  let t := (s.offer (48 + x.code) (Word.ofN w)).setReg (RW.ICONV_RES x.code) (Word.ofN r)
  t.when (decide (s.fadc.queue.length < t.fadc.queue.length)) (·.jot 2 [Word.ofN r])

/-! ## Charge -/

/-- IC0 integrates (R490): in RUN and DOZE, in the SRR hold, and with IC0_KEEP in STANDBY. -/
def State.icRuns (s : State) : Bool :=
  s.on R.ICONV_IC0CFG_EN && (s.watching || s.pwr.mode == .srrHold
    || (s.on R.PWR_LPCTL_IC0_KEEP && (s.pwr.mode == .standby || (s.pwr.entry == some .e3 && !s.pwr.toRest))))

/-- IC_OVER_RANGE (R474, R488): an input of IC0 exceeds full scale. -/
def execIcOverRange (qb : Bool) (s : State) : Host.Outcome State Fault Refusal :=
  if s.shadowing || !s.icRuns then done s
  else
    let t := (s.put (if qb then R.ICONV_STAT_ORB else R.ICONV_STAT_ORR) 1).modIconv (fun x => { x with
      clip := x.clip.set (icSide qb) true })
    done (if s.icCounts qb then t.chgGap 2 else t)

/-- COUNTER_LOAD (R485): a write of ICONV_QLOADR or ICONV_QLOADB. -/
def execCounterLoad (_m : Master) (qb : Bool) (v : Word) (s : State) : Host.Outcome State Fault Refusal :=
  if s.icCounts qb then done (s.put R.ICONV_STAT_CFGREJ 1)
  else done (s.setReg (if qb then RW.ICONV_QBAT else RW.ICONV_QRSV) v)

/-! ## Register writes -/

/-- QR or QB stops or starts counting by a write that leaves the register at v (R484, R488): what it has counted is in its counter, and what
its window has counted before the start is not. -/
def State.icSwitch (s : State) (qb : Bool) (v : Word) : State :=
  let k := icSide qb
  let after := { s with regs := spSet resetWord s.regs RW.ICONV_IC0CFG v }
  if s.icCounts qb && !after.icCounts qb then
    ((s.icPart qb).modIconv (fun x => if qb then { x with lpB := false } else { x with lpR := false })).chgGap 1
  else if !s.icCounts qb && after.icCounts qb then
    (s.useFree).modIconv (fun x => { x with part := x.part.set k (freeCount s.freeWord (s.icEdges (k.castLE (by decide)))) })
  else s

/-- A write of ICONV_IC0CFG (R476 to R478, R484, R488, R493). -/
def State.writeIc0 (s : State) (v : Word) : State :=
  let v := if s.tstTarget = 0 then setBits v 1 1 0 else if s.tstTarget = 1 then setBits v 2 1 0 else v
  let new := (s.writePlain RW.ICONV_IC0CFG v).reg RW.ICONV_IC0CFG
  let t := ((s.icSwitch false new).icSwitch true new).writePlain RW.ICONV_IC0CFG v
  let was := s.on R.ICONV_IC0CFG_EN
  let now := t.on R.ICONV_IC0CFG_EN
  let win := getBits (s.reg RW.ICONV_IC0CFG) 4 27 != getBits (t.reg RW.ICONV_IC0CFG) 4 27
  if now && !was then
    t.modIconv (fun x => { x with
      short := (x.short.set 0 (t.icLocked 0)).set 1 (t.icLocked 0), cut := (x.cut.set 0 false).set 1 false
      age := (x.age.set 0 0).set 1 0, bounds := (x.bounds.set 0 0).set 1 0, part := Vector.replicate 2 0, clip := Vector.replicate 2 false })
  else t.when (now && win) (·.modIconv (fun x => { x with
    short := (x.short.set 0 true).set 1 true, cut := (x.cut.set 0 true).set 1 true }))

/-- A write of ICONV_IC1CFG but for GO (R476, R478, R479). -/
def State.writeIc1 (s : State) (v : Word) : State :=
  let t := s.writePlain RW.ICONV_IC1CFG v
  let was := s.on R.ICONV_IC1CFG_EN
  let now := t.on R.ICONV_IC1CFG_EN
  let win := getBits (s.reg RW.ICONV_IC1CFG) 4 27 != getBits (t.reg RW.ICONV_IC1CFG) 4 27
  let t := if now && !was then t.modIconv (fun x => { x with short := x.short.set 2 (t.icLocked 2), cut := x.cut.set 2 false, input := none })
    else t.when (now && win) (·.modIconv (fun x => { x with short := x.short.set 2 true, cut := x.cut.set 2 true }))
  if !now then (t.modIconv (fun x => { x with pass := [], input := none, hold := false })).put R.ICONV_STAT_IC1BUSY 0
  else if t.on R.ICONV_IC1CFG_CONT && t.iconv.pass.isEmpty then t.passStart else t

/-- A write of ICONV_IC1MASK (R19, R479): codes 0 to 3 and 11 stay clear; a pass in progress keeps its mask; a continuous unit without one
starts. -/
def State.writeIc1Mask (s : State) (v : Word) : State :=
  let t := s.writePlain RW.ICONV_IC1MASK (v &&& 0xF7F0#48)
  if t.on R.ICONV_IC1CFG_EN && t.on R.ICONV_IC1CFG_CONT && t.iconv.pass.isEmpty then t.passStart else t

/-- A write of ICONV_TST (R20, R52, R493). -/
def State.writeTst (s : State) (v : Word) : State :=
  let t := s.writePlain RW.ICONV_TST (setBits v 0 1 0)
  let tgt := t.get R.ICONV_TST_TGT
  if getBits v 0 1 = 0 then t
  else if s.get R.FADC_DACOWN_OWNER ≠ 2 then s.conflict 3 0 2
  else if (tgt = 0 && s.icCounts false) || (tgt = 1 && s.icCounts true) then t.put R.ICONV_STAT_CFGREJ 1
  else t.put R.ICONV_TST_EN 1

end Sys2Proof.Machine
end

