-- ==== Sys2Proof/Machine/Supervisor.lean ====
section
/-!
DEFINITION. Machine/Supervisor.lean: the drive supervisor (spec/20): its policy, the courses it holds, its service calls, motions,
tuning, limits, stall and pinch, with their commands. The commands of a service take its call at issue; the values that its
loops write (compares, the auxiliary compare) are free values (log entry 32, DESIGN CHOICE).
-/
namespace Sys2Proof.Machine

def State.supc (s : State) (c : Course) : SupCourse := s.sup.courses[c]
def State.modSup (s : State) (f : Sup → Sup) : State := { s with sup := f s.sup }
def State.modSupc (s : State) (c : Course) (f : SupCourse → SupCourse) : State :=
  s.modSup (fun x => { x with courses := x.courses.set c (f x.courses[c]) })

/-! ## The policy table -/

/-- A word of a list of field values: value, lowest bit. -/
def packWord (l : List (Nat × Nat)) : Word := l.foldl (fun w p => w ||| Word.ofN (p.1 * 2 ^ p.2)) 0
/-- The ROM defaults of the header and of a section (R597). -/
def supHdrDefault : Vector Word 4 :=
  #v[packWord [(0x84, 0), (1, 16), (0x535650, 24)], packWord [(0x100000, 0)],
    packWord [(110, 0), (135, 8), (60, 16), (90, 24), (160, 32), (240, 40)], packWord [(85, 0), (105, 8), (1, 16)]]
def supSecDefault : Vector Word 16 :=
  #v[packWord [(1, 17), (0x2EDF, 21), (0x30, 37)], packWord [(10, 24)], Word.ofN (2 ^ 24 / 1000),
    packWord [(20, 0), (40, 16), (4, 32)], packWord [(2, 0), (200, 16), (90, 32), (0, 40), (2, 44)],
    packWord [(4000, 0), (3, 16), (2, 20), (200, 24), (32, 40)], Word.ofS s48Min, Word.ofS s48Max, 0, 0,
    packWord [(0, 0), (5, 24), (128, 28), (200, 37)], packWord [(0, 0), (110, 24), (150, 32), (50, 40)],
    packWord [(2000, 0), (50, 16), (200, 24)], packWord [(1000, 0), (150, 16), (200, 24)], packWord [(1000, 0), (20, 16)], 0]

/-- A field of a course's section: its word, lowest bit and length. -/
def SupCourse.fld (x : SupCourse) (w lo len : Nat) : Nat := getBits (x.sec.toList.getD w 0) lo len
def SupCourse.word (x : SupCourse) (w : Nat) : Word := x.sec.toList.getD w 0
def SupCourse.cmode (x : SupCourse) : Nat := x.fld 0 1 3
def SupCourse.pinchOn (x : SupCourse) : Bool := x.fld 0 8 1 = 1
def SupCourse.learnOn (x : SupCourse) : Bool := x.fld 0 9 1 = 1
def SupCourse.pfe (x : SupCourse) : Engine := ⟨x.fld 0 12 2 % 4, Nat.mod_lt _ (by decide)⟩
def SupCourse.nbin (x : SupCourse) : Nat := x.fld 10 28 9
def SupCourse.binsh (x : SupCourse) : Nat := x.fld 10 24 4
/-- W of R594: the words of a copy of the profile. -/
def SupCourse.profWords (x : SupCourse) : Nat := (x.nbin + 2) / 3

/-- The fields of a section within their limits (R342, R597, R598). -/
def SupCourse.secOk (x : SupCourse) : Bool :=
  let il := (x.word 1).toInt
  let rs := (x.word 2).toInt
  decide (x.fld 0 47 1 = 0 ∧ x.cmode ≤ 4 ∧ x.fld 0 14 3 ≤ 4 ∧ 1 ≤ x.fld 0 17 4 ∧ x.fld 0 17 4 ≤ 8 ∧ 7 ≤ x.fld 0 21 16 ∧ x.fld 0 21 16 ≤ 0xFFFE)
  && decide (2 ^ 24 ≤ 10 * il ∧ il ≤ 200 * 2 ^ 24 ∧ 2 ^ 24 ≤ 10000 * rs ∧ rs ≤ 2 ^ 24)
  && decide (x.fld 3 32 16 < x.fld 3 0 16 ∧ x.fld 3 32 16 < x.fld 3 16 16)
  && decide (10 ≤ x.fld 4 16 16 ∧ 10 ≤ x.fld 4 32 8 ∧ x.fld 4 32 8 ≤ 100 ∧ 1 ≤ x.fld 5 16 4)
  && decide ((x.word 6).toInt < (x.word 7).toInt ∧ (x.word 8).toInt ≤ (x.word 9).toInt)
  && decide (1 ≤ x.nbin ∧ x.nbin ≤ 256 ∧ x.fld 11 24 8 < x.fld 11 32 8)
  && decide (x.fld 12 40 8 = 0 ∧ x.fld 13 40 8 = 0 ∧ 100 ≤ x.fld 13 16 8 ∧ x.fld 13 16 8 ≤ 250 ∧ x.fld 14 32 16 = 0 ∧ x.word 15 = 0)
  && decide (x.fld 10 0 24 = 0 ∨ x.fld 10 0 24 + 1 + 2 * x.profWords ≤ 0x70000)
  && decide (x.fld 11 0 24 = 0 ∨ x.fld 11 0 24 + 8 ≤ 0x70000)
  && !(x.pinchOn && x.fld 10 0 24 = 0)

/-- Whether a section is within its limits, among the sections that judge pinch also in its engine (R597). -/
def State.supOk (s : State) (c : Course) : Bool :=
  let x := s.supc c
  x.secOk && !(x.pinchOn && allCourses.any (fun d => d != c && (s.supc d).pinchOn && (s.supc d).pfe == x.pfe))
/-- EN as the supervisor treats it (R597). -/
def State.supEn (s : State) (c : Course) : Bool := s.supOk c && (s.supc c).fld 0 0 1 = 1
/-- Whether the supervisor holds a course: SUP or SPLIT. -/
def State.supHeld (s : State) (c : Course) : Bool := s.arr c != 2
/-- R567: the supervisor reads the program consumer. -/
def State.supReads (s : State) : Bool := allCourses.any (fun c => s.supHeld c && s.supEn c)
/-- The supervisor holds a filter engine (R569). -/
def State.feHeld (s : State) (n : Engine) : Bool := allCourses.any (fun c => s.supHeld c && s.supEn c && (s.supc c).pinchOn && (s.supc c).pfe == n)

/-- The header's checks (R597). -/
def supHdrOk (h : Vector Word 4) : Bool :=
  let b (w lo len : Nat) : Nat := getBits (h.toList.getD w 0) lo len
  decide (h[0] = supHdrDefault[0])
  && decide (b 1 40 8 = 0 ∧ (b 1 24 16 = 0 ∨ (0x100000 ≤ b 1 0 24 ∧ b 1 0 24 + b 1 24 16 ≤ 0x200000)))
  && decide (b 2 0 8 < b 2 8 8 ∧ b 2 8 8 ≤ 165 ∧ b 2 16 8 < b 2 24 8 ∧ b 2 24 8 < b 2 32 8 ∧ b 2 32 8 < b 2 40 8)
  && decide (b 3 0 8 < b 3 8 8 ∧ 1 ≤ b 3 16 8 ∧ b 3 16 8 ≤ 100 ∧ b 3 24 24 = 0)
def State.hdrFld (s : State) (w lo len : Nat) : Nat := getBits (s.sup.hdr.toList.getD w 0) lo len

/-- A word of the policy table (R165, R167, R565): the supervisor loads it on a strand, here 58, none where it cannot be read; in the XIP
window what the flash holds is a free value. Log entry 55, DESIGN CHOICE. -/
def State.tableWord (s : State) (a : Nat) : Option Word × State :=
  match region a with
  | .mramUser | .mramSys => s.mramRead a 0 58
  | .ram => s.ramRead a 0 58
  | .rom => (some (Config.romWord a), s)
  | .xip => (some s.freeWord, s.useFree)
  | _ => (none, s)

/-- n words of the policy table from an address. -/
def State.tableWords (s : State) (a : Nat) : Nat → List (Option Word) × State
  | 0 => ([], s)
  | n + 1 =>
    let r := s.tableWord a
    let q := State.tableWords r.2 (a + 1) n
    (r.1 :: q.1, q.2)

/-- POLBAD shows the sections rejected (R597). -/
def State.polbad (s : State) : State :=
  s.put R.SYS_SVGLB_POLBAD (allCourses.foldl (fun n c => n + (if s.supOk c then 0 else 2 ^ c.val)) 0)

/-- n words that the supervisor loads from MRAM (R167); one that reads uncorrectable is a free value. Log entry 55, DESIGN CHOICE. -/
def State.supWords (s : State) (a : Nat) : Nat → List Word × State
  | 0 => ([], s)
  | n + 1 =>
    let r := match s.mramRead a 0 58 with
      | (some w, t) => (w, t)
      | (none, t) => (t.freeWord, t.useFree)
    let q := State.supWords r.2 (a + 1) n
    (r.1 :: q.1, q.2)

/-- A course takes the friction profile and the motor record that MRAM holds (R583, R594). -/
def State.supStored (s : State) (c : Course) : State :=
  let x := s.supc c
  let a := x.fld 10 0 24
  let m := x.fld 11 0 24
  let sel := s.supWords a (if a = 0 then 0 else 1)
  let b := (sel.1.getD 0 0).getLsbD 0
  let p := sel.2.supWords (a + 1 + (if b then x.profWords else 0)) (if a = 0 then 0 else x.profWords)
  let r := p.2.supWords m (if m = 0 then 0 else 8)
  let bin (i : Nat) : BitVec 16 := if a = 0 then 0xFFFF else BitVec.ofNat 16 (getBits (p.1.getD (i / 3) 0) (16 * (i % 3)) 16)
  r.2.modSupc c (fun y => { y with
    prof := (List.range x.nbin).map bin, profB := b, mrec := Vector.ofFn (fun i : Fin 8 => r.1.getD i.val 0) })

/-- An engine that judges pinch becomes a moving average of 8 samples of FCHc of unity gain, once the program runs (R159, spec/20 Pinch, log
entry 33, DEDUCED). -/
def State.supFe (s : State) (c : Course) : State :=
  let x := s.supc c
  let n := x.pfe
  if !(s.supEn c && s.supHeld c && x.pinchOn && s.pwr.boot == .user) then s
  else
    let k := s.freeWord.toNat % 20
    let t := (s.useFree).writeFeCfg n 0
    let t := t.writeFeDcfg n (setBits (t.reg (RW.FE_DCFG n)) 32 8 1)
    let t := t.modFe n (fun f => { f with banks := f.banks.map (fun _ => [BitVec.ofNat 24 (2 ^ k)]) })
    let t := t.put (R.ROUTE c.val) (t.get (R.ROUTE c.val) ||| (2 ^ (n.val + 1)))
    t.writeFeCfg n (packWord [(1, 0), (1, 1), (c.val, 4), (7, 19), (3 + k, 41)])

/-- Take a policy table over, or the ROM defaults (R565, R597). -/
def State.loadPolicy (s : State) (addr : BitVec 24) : State :=
  let (ws, s) := s.tableWords addr.toNat (if addr = 0 then 0 else 132)
  let h : Vector Word 4 := Vector.ofFn (fun i : Fin 4 => (ws.getD i.val none).getD 0)
  let good := addr != 0 && ws.all (·.isSome) && supHdrOk h
  let sec (c : Nat) : Vector Word 16 :=
    if good then Vector.ofFn (fun i : Fin 16 => (ws.getD (4 + 16 * c + i.val) none).getD 0) else supSecDefault
  let t := s.modSup (fun x => { x with
    hdr := if good then h else supHdrDefault, table := addr
    courses := x.courses.mapIdx (fun c y => { y with sec := sec c }) })
  let t := allCourses.foldl (fun t c => t.supStored c) t
  let t := (t.put R.SYS_SVGLB_POLSRC (if addr = 0 then 0 else if good then 1 else 2)).polbad
  allCourses.foldl (fun t c => t.supFe c) t

/-! ## Calls -/

/-- The record of a call is updated, while the ring still holds it (R578). -/
def State.callOutcome (s : State) (n outcome : Nat) : State :=
  if s.sup.calls ≤ n + 8 then s.put (R.SYS_SVCALL_OUTCOME (n % 8)) outcome else s

/-- A result goes to the caller: a code and a value, which for a refusal is its reason (R315, R576, R694, R774). -/
def State.svcAnswer (s : State) (k : SupCaller) (code : BitVec 4) (v : Word) : State :=
  match k with
  | .op id => s.endOp id v code 0
  | .remote => s.modSup (fun x => { x with rsvc := x.rsvc.map (fun r => (r.1, some ((v <<< 4) ||| code.zeroExtend 48))) })
  | .ledger o q => match s.lEntry o q with
    | some e => if e.live then s.lEnd o e true (if code = 0 then 0 else 0x100 + v.setWidth 16) else s
    | none => s
/-- A call completes OK or refused. -/
def State.callOk (s : State) (k : SupCall) (v : Word) : State := (s.callOutcome k.num 3).svcAnswer k.caller 0 v
def State.callRefused (s : State) (k : SupCall) (reason : Nat) : State := (s.callOutcome k.num 4).svcAnswer k.caller 1 (Word.ofN reason)

/-! ## States of a course -/

def svIdle : Nat := 0
def svTuning : Nat := 1
def svStarting : Nat := 2
def svRunning : Nat := 3
def svStopping : Nat := 4
def svHold : Nat := 5
def svStalled : Nat := 6
def svReversing : Nat := 7
def svFault : Nat := 8
def svUser : Nat := 9
def State.svst (s : State) (c : Course) : Nat := s.get (R.SYS_SVST_STATE c)

/-- Change STATE (R572, R580, R694): SUPV is asserted, a TAKE that waits is refused, and a ledger request shows the state. -/
def State.setSv (s : State) (c : Course) (n : Nat) : State :=
  if s.svst c = n then s
  else
    let t := (s.put (R.SYS_SVST_STATE c) n).assertEv 53
    let t := match (s.supc c).take with
      | some (k, tgt) => if tgt = 0 then t else (t.modSupc c (fun x => { x with take := none })).callRefused k 3
      | none => t
    match (s.supc c).mot with
    | some m => match m.call.caller with
      | .ledger o q => match t.lEntry o q with
        | some e => if e.live then t.putEntry o { e with step := BitVec.ofNat 8 n, course := some c, state := lRunning, replied := false } else t
        | none => t
      | _ => t
    | none => t

/-- Write fields of PWMc_OUT as the supervisor does. -/
def State.supOut (s : State) (c : Course) (f : Word → Word) : State := s.writeOut c (f (s.reg (RW.PWM_OUT c)))
/-- OUTEN and CAPO of a course. -/
def State.supOuten (s : State) (c : Course) (outen capo : Nat) : State := s.supOut c (fun w => setBits (setBits w 0 2 outen) 4 2 capo)
/-- The course is stopped at once. -/
def State.supStop (s : State) (c : Course) : State := if s.running c then (s.haltCourse c).refresh c else s
/-- Enter IDLE: OUTEN HIZ, no capo hold, the course stopped (R579). -/
def State.supIdle (s : State) (c : Course) : State := (((s.supOuten c 0 0).supStop c).put (R.SYS_SVST_MODE c) 0).setSv c svIdle

/-! ## The profile -/

/-- The words of a copy (R594). -/
def profileWords (l : List (BitVec 16)) : List Word :=
  (List.range ((l.length + 2) / 3)).map (fun i => packWord ((List.range 3).map (fun j => ((l.getD (3 * i + j) 0).toNat, 16 * j))))

/-- Store the profile (R594): persists of the copy not in force, after which its selector follows; without PROFADDR nothing is
stored. -/
def State.storeProfile (s : State) (c : Course) : State :=
  let x := s.supc c
  let a := x.fld 10 0 24
  if a = 0 then s
  else if x.storing ≠ 0 ∨ x.select then s.modSupc c (fun x => { x with dirty := true })
  else
    let ws := profileWords x.prof
    let base := a + 1 + (if x.profB then 0 else x.profWords)
    let n := (ws.length + 15) / 16
    let t := s.modSupc c (fun x => { x with storing := n, dirty := false })
    t.forN n (fun k t => t.persist { owner := .supervisor c true, target := BitVec.ofNat 24 (base + 16 * k), data := (ws.drop (16 * k)).take 16 })

/-- A persist of the profile has committed (R594). -/
def State.profCommitted (s : State) (c : Course) : State :=
  let x := s.supc c
  let a := x.fld 10 0 24
  if x.select then
    let t := s.modSupc c (fun x => { x with select := false, profB := !x.profB })
    if x.dirty then t.storeProfile c
    else x.clears.foldl (fun t k => t.callOk k 0) (t.modSupc c (fun x => { x with clears := [] }))
  else if x.storing = 1 then
    (s.modSupc c (fun x => { x with storing := 0, select := true })).persist
      { owner := .supervisor c true, target := BitVec.ofNat 24 a, data := [setBits (s.mramAt a) 0 1 (!x.profB).toNat] }
  else s.modSupc c (fun x => { x with storing := x.storing - 1 })

/-- The learning of one bin (R595). -/
def learnBin (x : SupCourse) (b : SupBin) (p : BitVec 16) : BitVec 16 :=
  let lmax : Int := x.fld 10 37 11
  if !b.fast ∨ b.n = 0 then p
  else if p = 0xFFFF then BitVec.ofInt 16 (clampInt (roundDiv 1 b.sum b.n) 0 0xFFFF).1
  else
    let d := roundDiv 1 ((b.sum - (p.toNat : Int) * b.n) * x.fld 5 40 8) (256 * b.n)
    BitVec.ofInt 16 (clampInt ((p.toNat : Int) + (clampInt d (-lmax) lmax).1) 0 0xFFFF).1

/-- What a closing motion that ended with CAUSE 0x1 or 0x4 teaches (R595). -/
def State.learn (s : State) (c : Course) (cause : BitVec 4) : State :=
  let x := s.supc c
  if !x.learnOn || x.bins.isEmpty || x.pinched || x.badVbat || !(cause = 1 || cause = 4) then s
  else
    let prof := x.bins.foldl (fun l b => l.mapIdx (fun i p => if i = b.bin then learnBin x b p else p)) x.prof
    (s.modSupc c (fun x => { x with prof := prof })).storeProfile c

/-! ## The end of a motion -/

/-- A motion ends with a cause (R580, R595, R694): its record, CAUSE and ledger request; the course's STATE is the caller's. -/
def State.motionEnds (s : State) (c : Course) (cause : BitVec 4) : State :=
  match (s.supc c).mot with
  | none => s
  | some m =>
    let t := (s.learn c cause).modSupc c (fun x => { x with mot := none, step := 0, saving := false, bins := [], pinch := 0 })
    let t := (t.put (R.SYS_SVST_CAUSE c) cause.toNat).callOutcome m.call.num 3
    match m.call.caller with
    | .ledger o q => match t.lEntry o q with
      | some e => if e.live then t.lEnd o e ([1, 3, 4, 5, 8, 0xA, 0xB].contains cause) (cause.zeroExtend 16) else t
      | none => t
    | _ => t

/-- A motion ends in IDLE. -/
def State.endMotion (s : State) (c : Course) (cause : BitVec 4) : State := (s.supIdle c).motionEnds c cause

/-- Put a course in STOPPING; its motion will end with the cause (R579). -/
def State.stopping (s : State) (c : Course) (cause : BitVec 4) : State :=
  (s.modSupc c (fun x => { x with mot := x.mot.map (fun m => { m with cause := cause }), since := s.time.dtime })).setSv c svStopping

/-- States in which the supervisor drives the outputs of a course (R579, R588). -/
def State.supDrives (s : State) (c : Course) : Bool :=
  s.supHeld c && (([1, 2, 4, 5, 6, 7].contains (s.svst c)) || (s.svst c == svRunning))

/-- A latched protection source (R579, R580, R584): tuning fails, any other driven course is put in FAULT and its motion ends. -/
def State.supFault (s : State) (c : Course) : State :=
  if s.supDrives c && s.on (R.PROTC_FSTAT_SRC c) then
    if s.svst c = svTuning then s.endMotion c 0xB else (s.setSv c svFault).motionEnds c 6
  else s

/-! ## Driving a motion -/

/-- The registers that the supervisor writes for a course that it drives (R566). -/
def State.supRegs (s : State) (c : Course) : State :=
  let x := s.supc c
  let t := s.setReg (RW.PWM_PER c) (setBits (s.reg (RW.PWM_PER c)) 0 16 (x.fld 0 21 16))
  let t := (t.put (R.PWM_DT_DTHL c) (x.fld 0 37 10)).put (R.PWM_DT_DTLH c) (x.fld 0 37 10)
  let t := t.put (R.FADC_UMASK_MASK c) (2 ^ c.val + 2 ^ 32 + 2 ^ (42 + (domOf c).val))
  let t := (t.put (R.PWM_AUXOWN_OWNER c) 1).put (R.ROUTE c.val) (t.get (R.ROUTE c.val) ||| 1)
  t.writeSrc (.strand 58) ((List.range 3).foldl (fun w k => setBits w (2 * (3 * c.val + k)) 2 0) (t.reg RW.GDRV_SRC))

/-- The mode in force takes effect (R586): the mask ring follows the Hall inputs in SIX. -/
def State.supMode (s : State) (c : Course) (m : Nat) : State := (s.put (R.SYS_SVST_MODE c) m).put (R.PWM_MCFG_MSRC c) (if m = 1 then 1 else 0)

/-- A motion enters STARTING (R566, R585): in PAIR mode the drive direction is set. -/
def State.supStart (s : State) (c : Course) : State :=
  match (s.supc c).mot with
  | none => s
  | some m =>
    let pair := (s.supc c).cmode == 4
    let t := (s.supRegs c).supStop c
    let t := (t.supOut c (fun w => setBits (setBits (setBits w 0 2 0) 4 2 0) 8 2 pair.toNat)).when pair
      (·.supOut c (fun w => setBits w 10 2 (if m.up then 1 else 2)))
    let t := t.modSupc c (fun x => { x with since := s.time.dtime, pinch := 0, pinched := false, bins := [], badVbat := false, stolen := false })
    (((t.supMode c 0).supOuten c 2 0).startCourse c).setSv c svStarting

/-- Tuning begins with U1: the domain is ready (R582, R584). -/
def State.supTune (s : State) (c : Course) (rotate : Bool) : State :=
  let t := ((s.supRegs c).modSupc c (fun x => { x with
    step := 1, rotate := rotate, tune := Vector.replicate 5 0, tuneInfo := 0, since := s.time.dtime })).setSv c svTuning
  if s.on (R.GDRV_DOM_STAT_RDY (domOf c)) then t else t.endMotion c 0xB

/-- A Hall sector is registered (R520, R585). -/
def State.hallValid (s : State) (c : Course) : Bool := s.on (R.POS_CFG_EN c) && (s.posn c).ref.isSome && (sectorOf (s.posn c).hst).isSome

/-- The electrical speed of R590 is below v turns a second: 240,000,000 / (6 INT) < v; without a valid interval it is zero. -/
def State.slower (s : State) (c : Course) (v : Nat) : Bool :=
  let i := s.get (R.POS_TINT_INT c)
  if s.on (R.POS_TINT_VALID c) ∧ i ≠ 0 then decide (40000000 < v * i) else decide (0 < v)

/-- The ramp of IF has reached VOBS: RAMPA turns per second squared since STARTING began (R585). -/
def State.rampDone (s : State) (c : Course) : Bool :=
  let x := s.supc c
  decide (x.fld 3 16 16 * 240000000 ≤ x.fld 12 24 16 * (s.time.dtime - x.since).toNat)

/-- The mode in force at a boundary, 0 for the current-frequency ramp (R586); without Hall sensors the observer's speed is a free
value, whose low bit says that it is at least the bound. Log entry 55, DESIGN CHOICE. -/
def State.chooseMode (s : State) (c : Course) : Nat :=
  let x := s.supc c
  let cur := s.get (R.SYS_SVST_MODE c)
  let tint := s.on (R.POS_TINT_VALID c)
  let free := s.freeWord.getLsbD 0
  let foc := if cur = 3 then (if free then 3 else 0) else if s.rampDone c && (s.svst c == svStarting || free) then 3 else 0
  match x.cmode with
  | 1 => if s.hallValid c then 1 else 0
  | 2 => if !s.hallValid c then 0 else if tint then 2 else 1
  | 3 => foc
  | 4 => 4
  | _ =>
    if s.hallValid c then
      if !tint then 1
      else if cur = 2 then (if s.slower c (x.fld 3 0 16 - x.fld 3 32 16) then 1 else 2)
      else if s.slower c (x.fld 3 0 16) then 1 else 2
    else foc

/-- STARTM waits: the alignment of TALIGN milliseconds is not over (R585). -/
def State.aligning (s : State) (c : Course) : Bool :=
  let x := s.supc c
  x.fld 0 4 2 = 1 && x.cmode != 4 && decide ((s.time.dtime - x.since).toNat < x.fld 12 16 8 * 240000)

/-- The compares of a loop are free values of this period (R566, R568): in PAIR mode the loop acts on CMP0. Log entry 32, DESIGN CHOICE. -/
def State.loopWrites (s : State) (c : Course) : State :=
  if (s.supc c).stolen then s.modSupc c (fun x => { x with stolen := false })
  else
    let w (k : Nat) : Nat := (Config.freeValue (s.free + k)).toNat
    let n : Nat := if s.get (R.SYS_SVST_MODE c) = 4 then 1 else 3
    let t := s.forN n (fun k t => (t.put (R.PWM_CMP_CMP c k) (w k)).when (decide (c.val < 4)) (·.put (R.PWM_CMP_TAP c k) (w k / 2 ^ 16)))
    (t.put (R.PWM_AUX_AUX c) (w 3)).useFree 4

/-- What the supervisor does at a period boundary of a course that it drives (R579, R586, R593). Log entry 32, DESIGN CHOICE. -/
def State.supBoundary (s : State) (c : Course) : State :=
  let t := s.supFault c
  let st := t.svst c
  let loops := t.supHeld c && (st == 1 || st == 2 || st == 4 || st == 7 || (st == 3 && t.arr c == 0))
  if !loops then t
  else if st = 2 ∨ st = 3 then
    if st = 2 ∧ t.aligning c then t.loopWrites c
    else
      let m := t.chooseMode c
      let u := (t.useFree).when (t.get (R.SYS_SVST_MODE c) != m) (·.supMode c m)
      (u.when (decide (st = 2 ∧ m ≠ 0)) (·.setSv c svRunning)).loopWrites c
  else if st = 7 then
    let x := t.supc c
    if x.brake = 0 then t.loopWrites c
    else
      let u := t.modSupc c (fun x => { x with brake := x.brake - 1 })
      if x.brake = 1 then
        let up := x.mot.elim false (·.up)
        let u := u.when (x.cmode == 4) (·.supOut c (fun w => setBits w 10 2 (if up then 2 else 1)))
        (((u.supOuten c 2 0).startCourse c)).loopWrites c
      else u
  else t.loopWrites c

/-! ## Services -/

/-- A protection source is latched on the course. -/
def State.anyLatched (s : State) (c : Course) : Bool := s.on (R.PROTC_FSTAT_SRC c)

/-- The newest record of a service (R578): the fields from value bit 4 up (log entry 34, DESIGN CHOICE). -/
def State.newestCall (s : State) (num : Nat) : Option Word :=
  ((List.range (min 8 s.sup.calls)).map (fun k => (s.sup.calls - 1 - k) % 8)).find?
      (fun k => s.on (R.SYS_SVCALL_OUTCOME k) && s.get (R.SYS_SVCALL_SVC k) == num)
    |>.map (fun k => packWord [(num, 4), (s.get (R.SYS_SVCALL_COURSE k), 16), (s.get (R.SYS_SVCALL_OUTCOME k), 19),
      (s.get (R.SYS_SVCALL_TIME k) % 2 ^ 22, 22)])

/-- The service numbers (R575). -/
def svcNames : List Nat := [1, 2, 3, 0x10, 0x11, 0x12, 0x13, 0x14, 0x15, 0x16, 0x17, 0x18, 0x20, 0x21, 0x22, 0x23]
/-- Services that begin a motion (R577). -/
def svcMotion (n : Nat) : Bool := 0x10 ≤ n && (n ≤ 0x12 || n = 0x14)

/-- The reason a call is refused (R572, R573, R575, R576, R579, R581, R597), by the first check that fails: encoding, arrangement,
shutdown, state, policy, protection, limits (log entry 35, DESIGN CHOICE). -/
def State.svcReason (s : State) (num : Nat) (ra rb : Word) : Option Nat :=
  let c : Course := ⟨ra.toNat % 8, Nat.mod_lt _ (by decide)⟩
  let a := ra.toNat
  let b := rb.toNat
  let st := s.svst c
  let arr := s.arr c
  let idle := decide (st = svIdle)
  let badRa := if num = 3 then decide (2 ^ 12 ≤ a) else if num = 0x21 then decide (2 ^ 8 ≤ a ∨ a / 8 % 2 = 1) else if num = 0x23 then false else decide (8 ≤ a)
  let badRb := (num = 1 && decide (4 ≤ b)) || (num = 0x10 && decide (2 ≤ b)) || (num = 0x14 && b != 1 && b != 3)
  if badRa || badRb then some 1
  else if num = 1 then
    let user := rb.getLsbD 0
    if arr = 2 ∨ (arr = 1 ∧ !user) then some 2
    else if !(st == svIdle || st == svHold || st == svStalled || (st == svRunning && rb.getLsbD 1 && user)) || (s.supc c).take.isSome then some 3
    else if !user && !s.supEn c then some 4 else none
  else if num = 2 then (if arr = 0 then some 2 else if (s.supc c).take.isSome then some 3 else none)
  else if num = 3 then (if (s.newestCall a).isNone then some 5 else none)
  else if num = 0x20 then (if 16 ≤ b then some 5 else none)
  else if num = 0x22 then (if 8 ≤ b then some 5 else none)
  else if num = 0x23 then (if allCourses.all (fun d => s.svst d = svIdle || s.svst d = svUser) then none else some 3)
  else if arr = 2 then some 2
  else if arr = 1 ∧ !idle then some 3
  else if svcMotion num && s.on R.RSV_SDSTAT_STEP && !(s.get R.RSV_SDCFG_RCRS).testBit c.val then some 6
  else if (svcMotion num || num = 0x21) && !idle then some 3
  else if num = 0x13 && (st == svHold || st == svReversing || st == svFault) then some 3
  else if num = 0x15 && st != svHold then some 3
  else if num = 0x18 && st != svFault then some 3
  else if svcMotion num && !s.supEn c then some 4
  else if svcMotion num && s.anyLatched c then some 7
  else if num = 0x11 && decide (rb.toInt < ((s.supc c).word 6).toInt ∨ ((s.supc c).word 7).toInt < rb.toInt) then some 5
  else if num = 0x12 && decide (((s.supc c).fld 13 24 16 : Int) * 2 ^ 24 < rb.toInt.natAbs) then some 5
  else if num = 0x17 && decide (rb.toInt < 0) then some 5
  else none

/-- An accepted motion takes its number (R577). -/
def State.acceptMotion (s : State) (c : Course) (num : Nat) (rb : Word) (k : SupCall) : State :=
  let n := (s.supc c).motions + 1
  let up := if num = 0x11 then decide ((s.reg (RW.POS_CNT c)).toInt ≤ rb.toInt) else decide (0 ≤ rb.toInt)
  let t := s.modSupc c (fun x => { x with
    motions := n, mot := some { svc := BitVec.ofNat 12 num, arg := rb, call := k, up := up } })
  let t := match k.caller with
    | .ledger .. => t.callOutcome k.num 2
    | _ => ((t.svcAnswer k.caller 0 (if num = 0x10 then 0 else n.zeroExtend 48))).callOutcome k.num 2
  if num = 0x10 then t.supTune c (rb.getLsbD 0)
  else if (s.supc c).fld 0 6 1 = 1 && !((s.supc c).mrec[(6 : Fin 8)]).getLsbD 14 then t.supTune c false
  else t.supStart c

/-- STOP of a course (R575, R579): a moving course stops, tuning and a stall end at once; a course at rest stays. -/
def State.svcStop (s : State) (c : Course) : State :=
  let st := s.svst c
  if st = svStarting ∨ st = svRunning then s.stopping c 2
  else if st = svTuning ∨ st = svStalled then s.endMotion c 2
  else s

/-- CLEAR clears the latched sources whose condition is absent; present names those that are present (R432, R579). -/
def State.svcClear (s : State) (c : Course) (present : Nat) (k : SupCall) : State :=
  let t := s.clearProt c present
  if t.anyLatched c then t.callRefused k 7 else (t.supIdle c).callOk k 0

/-- HOLD (R377, R575): a DC hold also starts the course. -/
def State.svcHold (s : State) (c : Course) (form : Nat) : State :=
  let t := (s.supRegs c).supOuten c 2 form
  (t.when (form == 3) (·.startCourse c)).setSv c svHold

/-- Perform an accepted call (R572 to R577, R596). -/
def State.svcAct (s : State) (num : Nat) (ra rb : Word) (present : Nat) (k : SupCall) : State :=
  let c : Course := ⟨ra.toNat % 8, Nat.mod_lt _ (by decide)⟩
  if num = 1 then s.modSupc c (fun x => { x with take := some (k, if rb.getLsbD 0 then 2 else 1), takeAt := s.time.dtime })
  else if num = 2 then s.modSupc c (fun x => { x with take := some (k, 0), takeAt := s.time.dtime })
  else if num = 3 then s.callOk k ((s.newestCall ra.toNat).getD 0)
  else if num = 0x14 then
    ((s.modSupc c (fun x => { x with motions := x.motions + 1 })).svcHold c rb.toNat).callOk k 0
  else if svcMotion num then s.acceptMotion c num rb k
  else if num = 0x13 then (s.svcStop c).callOk k 0
  else if num = 0x15 then (s.supIdle c).callOk k 0
  else if num = 0x16 then
    let t := s.modSupc c (fun x => { x with prof := List.replicate x.nbin 0xFFFF })
    if (s.supc c).fld 10 0 24 = 0 then t.callOk k 0
    else (t.modSupc c (fun x => { x with clears := x.clears ++ [k] })).storeProfile c
  else if num = 0x17 then (s.modSupc c (fun x => { x with limit := rb })).callOk k 0
  else if num = 0x18 then s.svcClear c present k
  else if num = 0x20 then s.callOk k ((s.supc c).word rb.toNat)
  else if num = 0x21 then
    ((s.modSupc c (fun x => { x with sec := x.sec.setIfInBounds (ra.toNat / 16 % 16) rb })).polbad).callOk k 0
  else if num = 0x22 then s.callOk k ((s.supc c).mrec.toList.getD rb.toNat 0)
  else (s.loadPolicy s.sup.table).callOk k 0

/-- The supervisor takes a call (R315, R576, R578): its record, then its effect or its refusal. Log entry 54, DEDUCED. Log entry 35, DESIGN CHOICE. -/
def State.svcCall (s : State) (caller : SupCaller) (strand : Nat) (num : Nat) (ra rb : Word) (present : Nat) : State :=
  let n := s.sup.calls
  let k : SupCall := { caller := caller, num := n }
  let t := (s.modSup (fun x => { x with calls := n + 1 })).setReg (RW.SYS_SVCALL (n % 8))
    (packWord [(num, 0), (ra.toNat % 8, 12), (1, 15), (strand, 18), (s.time.dtime.toNat % 2 ^ 24, 24)])
  if !svcNames.contains num then t.callRefused k 0 -- the reason is not stated: 0 (log entry 35, DESIGN CHOICE)
  else match t.svcReason num ra rb with
    | some r => t.callRefused k r
    | none => t.svcAct num ra rb present k

/-- A call of a strand that the supervisor holds and that has not completed; one answered BUSY is none (R316). -/
def Op.isCall (o : Op) : Bool :=
  match o.body, o.stage with
  | .svc .., .ended _ 2 _ => false
  | .svc .., _ => true
  | _, _ => false

/-- Calls not yet completed (R316). -/
def State.svcPending (s : State) : Nat := (s.core.ops.filter Op.isCall).length + (if s.sup.rsvc.any (·.2.isNone) then 1 else 0)

/-- The supervisor answers one call at a time (log entry 73, DESIGN CHOICE): one that has its result completes before the next is taken, while one
that waits for an event holds up no other. -/
def State.svcBusy (s : State) : Bool := s.core.ops.any (fun o => o.isCall && (match o.stage with | .ended .. => true | _ => false))

/-- The call that the supervisor takes next (R316): of class-0 strands before all others, otherwise the first issued. Log entry 73, DESIGN CHOICE. -/
def State.svcFirst (s : State) : Option Op :=
  let l := s.core.ops.filter (fun o => o.isCall && o.stage == .waiting)
  (l.find? (fun o => (s.strand o.str).cls == 0)).or l.head?

/-- The supervisor takes the next call, unless it answers one or an escalation stops its strands (R316, R326, R333). Log entry 73, DESIGN CHOICE. -/
def State.svcNext (s : State) (present : Nat) : State :=
  if s.svcBusy || s.core.esc.isSome then s
  else match s.svcFirst with
    | some o => match o.body with
      | .svc _ n ra rb => (s.modOp o.id (fun q => { q with stage := .begun })).svcCall (.op o.id) o.str.val n.toNat ra rb present
      | _ => s
    | none => s

/-- A strand issues svc (R315, R316): IMM16 names the service; with 16 calls not completed it is BUSY; a supervisor strand faults. The call is
taken at once unless another waits or has still to complete. present names the conditions that hold latched sources, for CLEAR. Log entry 13,
DEDUCED. Log entry 73, DESIGN CHOICE. -/
def State.svcIssue (s : State) (i : StrandId) (x : FmtX) (present : Nat) : State :=
  let num := x.imm.toNat % 2 ^ 12
  let y := s.strand i
  let ra := y.rd x.ra
  let rb := y.rd x.rb
  let busy := decide (16 ≤ s.svcPending)
  s.issueLong i [x.rd, x.ra, x.rb] (x.unused true true true true || decide (2 ^ 12 ≤ x.imm.toNat) || isSup i) none
    (.svc x.rd (BitVec.ofNat 12 num) ra rb) (if busy then .ended 0 2 0 else .waiting) (fun t => if busy then t else t.svcNext present)

/-- TAKE (R572). -/
def execTakeCourse (i : StrandId) (x : FmtX) (s : State) : Host.Outcome State Fault Refusal := done (s.svcIssue i x s.freeWord.toNat)
/-- GIVE (R573). -/
def execGiveCourse (i : StrandId) (x : FmtX) (s : State) : Host.Outcome State Fault Refusal := done (s.svcIssue i x s.freeWord.toNat)
/-- QUERY_STATE (R578). -/
def execQueryState (i : StrandId) (x : FmtX) (s : State) : Host.Outcome State Fault Refusal := done (s.svcIssue i x s.freeWord.toNat)
/-- TUNE (R582). -/
def execTuneMotor (i : StrandId) (x : FmtX) (s : State) : Host.Outcome State Fault Refusal := done (s.svcIssue i x s.freeWord.toNat)
/-- MOVE_TO (R577). -/
def execMoveTo (i : StrandId) (x : FmtX) (s : State) : Host.Outcome State Fault Refusal := done (s.svcIssue i x s.freeWord.toNat)
/-- MOVE_VEL (R577). -/
def execMoveVel (i : StrandId) (x : FmtX) (s : State) : Host.Outcome State Fault Refusal := done (s.svcIssue i x s.freeWord.toNat)
/-- STOP (R575). -/
def execStopMotion (i : StrandId) (x : FmtX) (s : State) : Host.Outcome State Fault Refusal := done (s.svcIssue i x s.freeWord.toNat)
/-- HOLD (R575). -/
def execHoldCapo (i : StrandId) (x : FmtX) (s : State) : Host.Outcome State Fault Refusal := done (s.svcIssue i x s.freeWord.toNat)
/-- RELEASE (R575). -/
def execReleaseHold (i : StrandId) (x : FmtX) (s : State) : Host.Outcome State Fault Refusal := done (s.svcIssue i x s.freeWord.toNat)
/-- PROFCLR (R596). -/
def execProfclr (i : StrandId) (x : FmtX) (s : State) : Host.Outcome State Fault Refusal := done (s.svcIssue i x s.freeWord.toNat)
/-- LIMIT (R587). -/
def execLimitCurrent (i : StrandId) (x : FmtX) (s : State) : Host.Outcome State Fault Refusal := done (s.svcIssue i x s.freeWord.toNat)
/-- CLEAR (R579): present names the conditions that are present, as in PROTECTION_CLEAR. -/
def execClearFault (i : StrandId) (x : FmtX) (present : BitVec 13) (s : State) : Host.Outcome State Fault Refusal :=
  done (s.svcIssue i x present.toNat)
/-- PARGET (R575). -/
def execParget (i : StrandId) (x : FmtX) (s : State) : Host.Outcome State Fault Refusal := done (s.svcIssue i x s.freeWord.toNat)
/-- PARSET (R575). -/
def execParset (i : StrandId) (x : FmtX) (s : State) : Host.Outcome State Fault Refusal := done (s.svcIssue i x s.freeWord.toNat)
/-- MRECGET (R575). -/
def execMrecget (i : StrandId) (x : FmtX) (s : State) : Host.Outcome State Fault Refusal := done (s.svcIssue i x s.freeWord.toNat)
/-- POLRELOAD (R565). -/
def execPolreload (i : StrandId) (x : FmtX) (s : State) : Host.Outcome State Fault Refusal := done (s.svcIssue i x s.freeWord.toNat)

/-! ## Hand-over -/

/-- A TAKE or GIVE that waits takes effect in this beat (R572, R573): at a period boundary of the course after its acceptance, or with the
course stopped in the beat after it. -/
def State.takeOver? (s : State) (c : Course) : Bool :=
  (s.supc c).takeAt != s.time.dtime && (!s.running c || (s.pwm c).bndAt == some s.time.dtime)

/-- ARRANGEMENT_CHANGE (R570 to R573): a TAKE or GIVE takes effect. -/
def execArrangementChange (c : Course) (s : State) : Host.Outcome State Fault Refusal :=
  match (s.supc c).take with
  | none => done s
  | some (k, tgt) =>
    if !s.takeOver? c then done s else
    let t := (s.modSupc c (fun x => { x with take := none })).put (R.ARR c) tgt
    let u :=
      if tgt = 2 then (((t.put (R.SYS_SVST_MODE c) 0).setSv c svUser).motionEnds c 9)
      else if tgt = 1 then t.motionEnds c 9
      else if s.svst c = svFault then t
      else if s.get (R.PWM_OUT_CAPO c) ≠ 0 then (t.setSv c svHold).motionEnds c 9
      else (t.supIdle c).motionEnds c 9
    done ((u.supFe c).callOk k 0)

/-! ## Tuning -/

/-- The motor record of a tuning (R583): Kt = 1.5 p Ke, whose last bit when p Ke is odd the spec does not fix. Log entry 55, DESIGN CHOICE. -/
def State.motorRecord (s : State) (c : Course) : Vector Word 8 :=
  let x := s.supc c
  let p := x.tuneInfo.toNat % 16
  let kt := (3 * p * (x.tune[2]).toNat + s.freeWord.toNat % 2) / 2
  let rot := x.rotate
  let w6 := if rot then (x.tuneInfo.toNat % 2 ^ 13) &&& 0x177F else x.fld 0 17 4 + 2 ^ 13
  #v[x.tune[0], x.tune[1], if rot then x.tune[2] else 0, if rot then Word.ofN kt else 0, if rot then x.tune[3] else 0,
    if rot then x.tune[4] else 0, Word.ofN (w6 + 2 ^ 14 + s.time.dtime.toNat % 2 ^ 24 * 2 ^ 24), 0]

/-- The new motor record is used (R583): HPOL and MOFS are written, and the motion that asked for the tuning starts. -/
def State.tuned (s : State) (c : Course) : State :=
  let x := s.supc c
  let t := s.modSupc c (fun x => { x with step := 0, saving := false })
  let t := if x.rotate then
      (t.putN (R.POS_CFG_HPOL c) (getBits x.mrec[(6 : Fin 8)] 4 3)).put (R.PWM_MCFG_MOFS c) (getBits x.mrec[(6 : Fin 8)] 8 3)
    else t
  match x.mot with
  | some m =>
    if m.svc = 0x10 then ((t.supIdle c).modSupc c (fun x => { x with mot := none })).callOutcome m.call.num 3 |> fun u =>
      (match m.call.caller with
        | .ledger o q => (match u.lEntry o q with
          | some e => if e.live then u.lEnd o e true 0 else u
          | none => u)
        | _ => u)
    else t.supStart c
  | none => t.supIdle c

/-- A successful tuning (R583, R598): its record is persisted, then used. -/
def State.tuneDone (s : State) (c : Course) : State :=
  let r := s.motorRecord c
  let a := (s.supc c).fld 11 0 24
  let t := (s.useFree).modSupc c (fun x => { x with mrec := r, saving := true })
  if a = 0 then t.tuned c
  else t.persist { owner := .supervisor c false, target := BitVec.ofNat 24 a, data := r.toList }

/-- The supervisor's persist has committed. -/
def State.supCommitted (s : State) (c : Course) (prof : Bool) : State :=
  if prof then s.profCommitted c else if (s.supc c).saving then s.tuned c else s

/-- The beats that a tuning step takes at least (R582): 100, 40 and 1 ms of U1 to U3. -/
def tuneBeats (step : Nat) : Nat := match step with | 1 => 24000000 | 2 => 9600000 | 3 => 240000 | _ => 0

/-- TUNING_STEP_END (R582 to R584): the running step succeeds with its results (R; L; Ke and the p, HPOL, MOFS and PPASSUMED of
word 6; Tf and J), or fails. A result R, L or Ke that is not positive fails. -/
def execTuningStepEnd (c : Course) (ok : Bool) (v v2 : Word) (s : State) : Host.Outcome State Fault Refusal :=
  let x := s.supc c
  if x.step = 0 ∨ x.saving ∨ s.svst c ≠ svTuning ∨ (ok ∧ !s.since x.since (tuneBeats x.step)) then done s
  else if !ok ∨ (2 ≤ x.step ∧ x.step ≤ 4 ∧ v.toInt ≤ 0) ∨ (x.step = 1 ∧ !s.on (R.GDRV_DOM_STAT_RDY (domOf c))) then done (s.endMotion c 0xB)
  else
    let rot := x.rotate || x.fld 0 7 1 = 1
    let t := s.modSupc c (fun x => { x with
      rotate := rot
      step := x.step + 1, since := s.time.dtime
      tune := if x.step = 5 then (x.tune.set 3 v).set 4 v2 else if 2 ≤ x.step then x.tune.setIfInBounds (x.step - 2) v else x.tune
      tuneInfo := if x.step = 4 then v2 else x.tuneInfo })
    if x.step = 5 ∨ (x.step = 3 ∧ !rot) then done (t.tuneDone c) else done t

/-! ## Motions -/

/-- MOTION_END (R580): the target is reached (0x1), a motion by speed reaches POSMIN or POSMAX (0x8), or the stop or the reversal
in progress ends with its own cause. -/
def execMotionEnd (c : Course) (cause : BitVec 4) (s : State) : Host.Outcome State Fault Refusal :=
  match (s.supc c).mot with
  | none => if s.svst c = svStopping then done (s.supIdle c) else done s
  | some m =>
    let st := s.svst c
    if st = svStopping ∨ st = svReversing then done (s.endMotion c m.cause)
    else if (st = svStarting ∨ st = svRunning) ∧ ((cause = 1 ∧ m.svc = 0x11) ∨ (cause = 8 ∧ m.svc = 0x12)) then
      done (s.endMotion c cause)
    else done s

/-- STOPT milliseconds of STOPPING have passed (R579, R597). -/
def State.stopDue (s : State) (c : Course) : Bool := s.svst c == svStopping && s.since (s.supc c).since ((s.supc c).fld 11 40 8 * 240000)

/-! ## Derating -/

/-- A value of a fast channel, or a free value while none has been taken. -/
def State.supVal (s : State) (ch : Nat) : Int := ((s.sup.vals.toList.getD ch none).getD (s.freeWord.setWidth 16)).toNat

/-- The lesser of two fractions with positive denominators. -/
def minFrac (a b : Int × Int) : Int × Int := if a.1 * b.2 ≤ b.1 * a.2 then a else b
/-- A falling band (R587): 1 up to lo, 0 from hi, linear between. -/
def fallBand (x lo hi : Int) : Int × Int := if x ≤ lo then (1, 1) else if hi ≤ x then (0, 1) else (hi - x, hi - lo)

/-- kdie, kntc and kvbat (R587). -/
def State.kdie (s : State) (c : Course) : Int × Int :=
  fallBand (s.supVal (42 + (domOf c).val)) ((s.hdrFld 2 0 8 + 64) * 128) ((s.hdrFld 2 8 8 + 64) * 128)
def State.kvbat (s : State) : Int × Int :=
  let v := s.supVal 32 * 400
  let b (lo : Nat) : Int := (s.hdrFld 2 lo 8 : Int) * 65536
  minFrac (fallBand v (b 32) (b 40)) (fallBand (-v) (-(b 24)) (-(b 16)))
/-- The NTC named by NTCSEL has a result of the last 100 ms. -/
def State.ntcFresh (s : State) (k : Nat) : Bool :=
  match s.sup.ntcAt.toList.getD k none with
  | some d => decide ((s.time.dtime - d).toNat ≤ 24000000)
  | none => false
def State.kntc (s : State) (c : Course) : Int × Int :=
  let k := (s.supc c).fld 0 14 3
  if 4 ≤ k then (1, 1)
  else if !s.ntcFresh k then (s.supc c).kntc
  else
    let t := Config.ntcTemp (BitVec.ofNat 20 (getBits (s.reg (RW.ICONV_RES (12 + k))) 0 20))
    fallBand t.toInt ((s.hdrFld 3 0 8 : Int) * 256) ((s.hdrFld 3 8 8 : Int) * 256)

/-- DERMS milliseconds have passed since the last derating of a course (R587); the first comes at once. Log entry 72, DESIGN CHOICE. -/
def State.derDue (s : State) (c : Course) : Bool := (s.supc c).derAt.all (fun d => s.since d (s.hdrFld 3 16 8 * 240000))

/-- DERATING_UPDATE (R587 to R589): k, ILIMEFF, OCTH and the over-current reaction of a held course. The last units of K and
ILIMEFF, whose rounding is not stated, are free. Log entry 55, DESIGN CHOICE. Log entry 72, DESIGN CHOICE. -/
def execDeratingUpdate (c : Course) (s : State) : Host.Outcome State Fault Refusal :=
  if !s.supHeld c || !s.supEn c || !s.watching || !s.derDue c then done s
  else
    let x := s.supc c
    let kn := s.kntc c
    let k := minFrac (minFrac (s.kdie c) kn) s.kvbat
    let il := if x.limit = 0 then (x.word 1).toInt else min (x.word 1).toInt (x.limit).toInt
    let fr (j : Nat) : Int := if (Config.freeValue (s.free + j)).getLsbD 0 then k.2 - 1 else 0
    let kk := (k.1 * 255 + fr 1) / k.2
    let mA := (k.1 * il * 1000 + (if fr 2 = 0 then 0 else k.2 * 2 ^ 24 - 1)) / (k.2 * 2 ^ 24)
    let num := k.1 * il * (x.word 2).toInt * x.fld 13 16 8 * 5
    let den := k.2 * 2 ^ 48
    let octh := min 255 ((num + den - 1) / den)
    let t := ((s.useFree 3).modSupc c (fun x => { x with kntc := kn, derAt := some s.time.dtime })).putB (R.SYS_SVST_NTCST c) (decide (x.fld 0 14 3 < 4) && !s.ntcFresh (x.fld 0 14 3))
    let t := (t.put (R.SYS_SVST_K c) kk.toNat).put (R.SYS_SVST_ILIMEFF c) (min (2 ^ 24 - 1) mA.toNat)
    let t := (((t.put (R.PROTC_OC_OCEN c) 1).put (R.PROTC_OC_POS c) 1).put (R.PROTC_OC_NEG c) 1).put (R.PROTC_REACT_OC c) 1
    let t := t.put (R.PROTC_OC_OCTH c) octh.toNat
    let st := s.svst c
    if k.1 * il ≤ 0 ∧ (st = svStarting ∨ (st = svRunning ∧ s.arr c = 0)) then done (t.stopping c 0xA) else done t

/-! ## Stall -/

/-- The position lies within ENDZ bins before the end of travel in the direction of motion (R591). -/
def State.nearEnd (s : State) (c : Course) (up : Bool) : Bool :=
  let x := s.supc c
  let p := (s.reg (RW.POS_CNT c)).toInt
  let z : Int := x.fld 4 44 4 * 2 ^ x.binsh
  if up then decide ((x.word 7).toInt - z ≤ p ∧ p ≤ (x.word 7).toInt) else decide ((x.word 6).toInt ≤ p ∧ p ≤ (x.word 6).toInt + z)

/-- STALLED (R591): outputs OFF, or short-low capo hold. -/
def State.toStalled (s : State) (c : Course) : State :=
  let t := if (s.supc c).fld 0 11 1 = 1 then s.supOuten c 2 1 else s.supOuten c 1 0
  (t.modSupc c (fun x => { x with since := s.time.dtime })).setSv c svStalled

/-- The stall condition can have held for TSTALL milliseconds (R590): the motion, or its reversal, began that long ago. -/
def State.stallOpen (s : State) (c : Course) : Bool := s.since (s.supc c).since ((s.supc c).fld 4 16 16 * 240000)

/-- STALL_DECISION (R590, R591): the stall condition has held for TSTALL. -/
def execStallDecision (c : Course) (s : State) : Host.Outcome State Fault Refusal :=
  match (s.supc c).mot with
  | none => done s
  | some m =>
    let st := s.svst c
    if !s.stallOpen c then done s
    else if st = svReversing then done (s.toStalled c)
    else if st = svStarting ∨ (st = svRunning ∧ s.arr c = 0) then
      if s.nearEnd c m.up then done (s.stopping c 4) else done (s.toStalled c)
    else done s

/-- 500 ms have passed since a course stalled (R591). -/
def State.retryDue (s : State) (c : Course) : Bool := s.svst c == svStalled && s.since (s.supc c).since 120000000

/-- STALL_RETRY (R591): 500 ms after the stall the course enters IDLE; the motion is tried again up to NRETRY times, a reversal
never. -/
def execStallRetry (c : Course) (s : State) : Host.Outcome State Fault Refusal :=
  if !s.retryDue c then done s
  else match (s.supc c).mot with
  | none => done (s.supIdle c)
  | some m =>
    let t := s.supIdle c
    if m.cause = 0 ∧ m.retries < (s.supc c).fld 4 40 4 ∧ !s.on R.RSV_SDSTAT_STEP ∧ s.supEn c then
      done ((t.modSupc c (fun x => { x with mot := some { m with retries := m.retries + 1 } })).supStart c)
    else done (t.motionEnds c 3)

/-! ## Pinch -/

/-- The bin of a position (R592). -/
def SupCourse.binOf (x : SupCourse) (p : Int) : Nat := min ((p - (x.word 8).toInt).toNat / 2 ^ x.binsh) (x.nbin - 1)

/-- The excess is at least PTH (R592, R596): an unlearned bin is judged against the exact mean of the learned bins. -/
def SupCourse.overThr (x : SupCourse) (bin : Nat) (i ia : Int) : Bool :=
  let learned := x.prof.filter (fun p => p != 0xFFFF)
  let pth : Int := x.fld 5 0 16
  let p := x.prof.getD bin 0xFFFF
  if p ≠ 0xFFFF then decide (pth ≤ i - p.toNat + ia)
  else if learned.isEmpty then decide (pth ≤ i + ia)
  else decide (pth * learned.length ≤ (i + ia) * learned.length - (learned.map (fun q => (q.toNat : Int))).sum)

/-- The bin of an output joins what the motion may teach (R595). -/
def State.gather (s : State) (c : Course) (bin : Nat) (i : Int) : State :=
  let x := s.supc c
  let fast := !s.slower c (x.fld 3 0 16)
  let v := s.supVal 32 * 400
  let bad := decide (v < (x.fld 11 24 8 : Int) * 65536 ∨ (x.fld 11 32 8 : Int) * 65536 < v)
  let bins := if x.bins.any (fun b => b.bin = bin) then
      x.bins.map (fun b => if b.bin = bin then { b with sum := b.sum + i, n := b.n + 1, fast := b.fast && fast } else b)
    else x.bins ++ [{ bin := bin, sum := i, n := 1, fast := fast }]
  s.modSupc c (fun x => { x with bins := bins, badVbat := x.badVbat || bad })

/-- The pinch decision (R593): the brake command, then REVERSING. -/
def State.pinchDecision (s : State) (c : Course) : State :=
  let t := s.supOuten c 2 1
  let t := t.modSupc c (fun x => { x with
    pinch := 0, pinched := true, brake := max 1 (x.fld 5 20 4), mot := x.mot.map (fun m => { m with cause := 5 }), since := s.time.dtime })
  t.setSv c svReversing

/-- PINCH_JUDGMENT (R592, R593, R596): an output of PFE of ma mA, and the supervisor's IA, taken as 0 while the interval is not
VALID (log entry 36, DESIGN CHOICE). -/
def execPinchJudgment (c : Course) (ma ia : Word) (s : State) : Host.Outcome State Fault Refusal :=
  let x := s.supc c
  let p := (s.reg (RW.POS_CNT c)).toInt
  let st := s.svst c
  match x.mot with
  | none => done s
  | some m =>
    let closing := m.up == !(x.fld 0 10 1 = 1)
    let zone := decide ((x.word 8).toInt ≤ p ∧ p ≤ (x.word 9).toInt)
    if !(s.supHeld c && s.supEn c && x.pinchOn && closing && zone && (st == svStarting || (st == svRunning && s.arr c == 0))) then done s
    else
      let b := x.binOf p
      let i := ma.toInt
      let t := (s.useFree).when x.learnOn (·.gather c b i)
      let a := if s.on (R.POS_TINT_VALID c) then ia.toInt else 0
      if x.overThr b i a then
        let n := x.pinch + 1
        let t := t.modSupc c (fun x => { x with pinch := n, pinched := true })
        if x.fld 5 16 4 ≤ n then done (t.pinchDecision c) else done t
      else done (t.modSupc c (fun x => { x with pinch := 0 }))

/-! ## The program consumer -/

/-- The channels whose samples the supervisor uses (R566, R567). -/
def State.supUses (s : State) (ch : Nat) : Bool :=
  allCourses.any (fun c => s.supHeld c && s.supEn c && (ch == c.val || ch == 32 || ch == 42 + (domOf c).val))

/-- The supervisor takes an entry (R567): its own are used; any other goes to the program's ring, whose words inside a fence of another owner
stay as they are (R191; log entry 55, DESIGN CHOICE). -/
def State.supTakes (s : State) (w : Word) : State :=
  let ch := getBits w 16 6
  let fast := decide (getBits w 22 2 ≠ 3)
  if fast && s.supUses ch then s.modSup (fun x => { x with vals := x.vals.setIfInBounds ch (some (w.setWidth 16)) })
  else
    let len := s.hdrFld 1 24 16
    let a := s.hdrFld 1 0 24 + s.get R.SYS_SVQWP_COUNT % len
    if len = 0 then s
    else (s.when (!s.fenceBars a) (·.ramSet a w)).setReg RW.SYS_SVQWP (s.reg RW.SYS_SVQWP + 1)

/-- A load of FADC_QPOP (R464, R567, R568). -/
def State.qpop (s : State) (m : Master) : Word × State :=
  let r := s.qTake 0
  match r.1 with
  | none => (0xFFFFFFFFFFFF#48, r.2)
  | some w =>
    if !s.supReads then (w, r.2)
    else match m with
      | .strand i =>
        if isSup i then (w, r.2.supTakes w)
        else
          let ch := getBits w 16 6
          let t := r.2.bump R.SYS_SVGLB_QSTEAL
          (w, if ch < 8 ∧ getBits w 22 2 ≠ 3 then t.modSupc ⟨ch % 8, Nat.mod_lt _ (by decide)⟩ (fun x => { x with stolen := true }) else t)
      | _ => (w, r.2)

/-- QPOP (R464, R567, R568). -/
def execQpop (m : Master) (s : State) : Host.Outcome State Fault Refusal := done (s.qpop m).2

/-! ## Reset and shutdown -/

/-- Calls and motions in progress read ABANDONED at the first instruction after a WDR, SWR, PIN or SRR (R578). -/
def State.abandonCalls (s : State) : State :=
  s.forN 8 (fun k t => t.when (t.get (R.SYS_SVCALL_OUTCOME k) == 1 || t.get (R.SYS_SVCALL_OUTCOME k) == 2) (·.put (R.SYS_SVCALL_OUTCOME k) 5))

/-- Step S2 of the shutdown (R581): every course that the supervisor drives is brought to STOPPING; a hold or a stall ends. -/
def State.supShutdown (s : State) : State :=
  allCourses.foldl (fun t c =>
    let st := t.svst c
    if !t.supHeld c then t
    else if st = svStarting ∨ st = svRunning ∨ st = svReversing ∨ st = svStopping then t.stopping c 7
    else if st = svTuning ∨ st = svStalled ∨ st = svHold then (t.supIdle c).motionEnds c 7
    else t) s

end Sys2Proof.Machine
end

