-- ==== Sys2Proof/Machine/Reserve.lean ====
section
/-!
DEFINITION. Machine/Reserve.lean: the reserve stack, its limits, charging, balancing and sense-wire check, and the shutdown
sequence (spec/21), with the commands that drive them and the windows of the integrating converter.
-/
namespace Sys2Proof.Machine

def State.modRsv (s : State) (f : Reserve → Reserve) : State := { s with rsv := f s.rsv }

/-! ## The stack -/

def State.sdStep (s : State) : Nat := s.get R.RSV_SDSTAT_STEP

/-- A cell that the sense-wire check found bad: its pin open, or the cell itself (R605, R611). -/
def State.badCell (s : State) : Bool := (List.range s.ncell).any (fun j => s.get (R.OWCELL j) = 1 || s.get (R.OWCELL j) = 2)

/-- RSV_STAT.CHGST: 0 OFF, 1 CHARGE, 2 CONNECT (R604, R605, R614). -/
def State.chgst (s : State) : Nat :=
  if s.sdStep = 4 ∧ s.rsv.connect then 2
  else if s.sdStep ≠ 0 then 0
  else if s.get R.RSV_CHG_MODE = 1 && s.on R.RSV_CFG_EN && !s.on R.PWR_STAT_VBATUV && !s.on R.RSV_STAT_OVC && !s.on R.RSV_STAT_SUMERR
      && !s.badCell && s.rsv.check.isNone && s.watching then 1
  else 0

/-- RSV_STAT.BALON: the switches that are on (R606, R607). -/
def State.balon (s : State) : Nat :=
  let cell := s.iconv.pass.head?.any (fun k => 4 ≤ k && k ≤ 8)
  if !s.on R.RSV_LIM_BALEN || s.rsv.check.isSome || s.sdStep != 0 || !s.watching || (s.on R.RSV_LIM_BALPAUSE && cell) then 0
  else s.rsv.bal % 2 ^ s.ncell

/-- Results are compared exactly: a cell result counts 1/128 mV, a stack result 1/32 mV (R475). -/
def cellUnits (mV : Nat) : Int := mV * 128

/-- The flags and switches of a full pass (R603, R606): cells in 1/128 mV and the stack in 1/32 mV. -/
def State.stackJudge (s : State) (cells : List Int) (stack : Int) : State :=
  let n := s.ncell
  let bits (f : Int → Bool) : Nat := (cells.mapIdx (fun j v => if f v then 2 ^ j else 0)).sum
  let ovc := bits (fun v => decide (cellUnits (s.get R.RSV_LIM_VCMAX * 10) < v))
  let uvc := bits (fun v => decide (v < cellUnits (s.get R.RSV_LIM_VCMIN * 10)))
  let sumerr := decide (cellUnits (s.get R.RSV_LIM_SUMTH) < (stack * 4 - cells.sum).natAbs)
  let new := (ovc ||| s.get R.RSV_STAT_OVC) != s.get R.RSV_STAT_OVC || (uvc ||| s.get R.RSV_STAT_UVC) != s.get R.RSV_STAT_UVC
    || (sumerr && !s.on R.RSV_STAT_SUMERR)
  let t := (s.orF R.RSV_STAT_OVC ovc).orF R.RSV_STAT_UVC uvc
  let t := (t.when sumerr (·.put R.RSV_STAT_SUMERR 1)).when new (·.assertEv 107)
  let th := cellUnits (s.get R.RSV_LIM_BALTH)
  let bal := (cells.mapIdx (fun j v =>
    let d := v * n - cells.sum
    let was := s.rsv.bal.testBit j
    if th * n < d then 2 ^ j else if 2 * d < th * n then 0 else if was then 2 ^ j else 0)).sum
  t.modRsv (fun r => { r with bal := if s.on R.RSV_LIM_BALEN then bal else 0 })

/-- Charging pauses at the target and resumes below it less the hysteresis (R605). -/
def State.chargePause (s : State) (stack : Int) : State :=
  let tgt : Int := s.ncell * s.get R.RSV_CHG_VCTGT * 10 * 32
  let low := tgt - s.get R.RSV_CHG_VRHYS * 10 * 32
  s.modRsv (fun r => { r with paused := if tgt ≤ stack then true else if stack < low then false else r.paused })

/-- A result of IC1 joins its pass; at the pass's end a full one is judged (R603). -/
def State.stackResult (s : State) (code : Nat) (res : BitVec 20) (bad last : Bool) : State :=
  let l := s.rsv.pass ++ [(code, res.toInt, bad)]
  let t := s.modRsv (fun r => { r with pass := if last then [] else l })
  let t := t.when (code = 8) (·.chargePause res.toInt)
  let want := (List.range s.ncell).map (· + 4) ++ [8]
  let got := want.filterMap (fun k => l.find? (fun e => e.1 == k && !e.2.2))
  if last && got.length = want.length then
    t.stackJudge ((got.take s.ncell).map (·.2.1)) ((got.getLast?).elim 0 (·.2.1))
  else t

/-! ## The sense-wire check -/

/-- SENSE_WIRE_CHECK_GO (R608): a write of RSV_OWCFG.GO. -/
def execSenseWireCheckGo (_m : Master) (s : State) : Host.Outcome State Fault Refusal :=
  if s.rsv.check.isSome || !s.on R.RSV_CFG_EN || !s.on R.ICONV_IC1CFG_EN || !s.watching then done s
  else
    let t := ((s.put R.RSV_OWRES_BUSY 1).put R.RSV_OWRES_VALID 0).modRsv (fun r => { r with check := some { step := .wait } })
    done (if s.iconv.pass.isEmpty then t.owBase else t)

/-- The check ends: IC1's own passes resume from the start of the mask (R608). -/
def State.owEnd (s : State) : State :=
  let t := (s.modRsv (fun r => { r with check := none, pass := [] })).put R.RSV_OWRES_BUSY 0
  if t.on R.ICONV_IC1CFG_EN && t.on R.ICONV_IC1CFG_CONT then t.passStart else t.setPass []

/-- A check is abandoned without results (R611); one that waits for the end of a pass leaves that pass as it is. -/
def State.owAbandon (s : State) : State :=
  match s.rsv.check with
  | none => s
  | some c => if c.step = .wait then (s.modRsv (fun r => { r with check := none })).put R.RSV_OWRES_BUSY 0 else s.owEnd

/-- Pin k's test current has settled for OWSET milliseconds (R608); IC1 begins as after a change of its input (R479). -/
def State.owSettled (s : State) : State :=
  match s.rsv.check with
  | some c => match c.step with
    | .settle k =>
      if reached s.time.dtime (c.since + Word.ofN (s.get R.RSV_OWCFG_OWSET * 240000)) then
        (s.modIconv (fun x => { x with input := none })).owTo (.conv k) s.iconv.pass
      else s
    | _ => s
  | none => s

/-- SENSE_WIRE_SETTLE_END (R608). -/
def execSenseWireSettleEnd (s : State) : Host.Outcome State Fault Refusal := done s.owSettled

/-- δk in 1/256 mV (R609). -/
def OwCheck.delta (c : OwCheck) (n k : Nat) : Int :=
  let base (code : Nat) : Int := (c.base.find? (fun e => e.1 = code)).elim 0 (·.2)
  let on (code : Nat) : Int := (c.on.find? (fun e => e.1 = k && e.2.1 = code)).elim 0 (·.2.2)
  let sum := ((List.range n).map (fun j => if (adjCells n k).contains (4 + j) then on (4 + j) else base (4 + j))).sum
  if k = 0 then 2 * (base 8 * 4 - sum)
  else if k = n then 2 * (sum - base 8 * 4)
  else (on (3 + k) - base (3 + k)) - (on (4 + k) - base (4 + k))

/-- The class of a pin: 1 INTACT, 2 OPEN, 3 INDETERMINATE (R610). -/
def State.pinClass (s : State) (d : Int) : Nat :=
  let lo : Int := s.get R.RSV_OWCFG_OWLO * 256
  if -lo < d ∧ d < lo then 1 else if (s.get R.RSV_OWCFG_OWHI : Int) * 256 < d then 2 else 3

/-- The results of a check (R609 to R611). The rounding of δk to whole mV is not stated: its last unit is free. Log entry 55, DESIGN CHOICE. -/
def State.owClassify (s : State) (c : OwCheck) : State :=
  let n := s.ncell
  let ds := (List.range (n + 1)).map (fun k => c.delta n k)
  let pins := ds.map s.pinClass
  let up (k : Nat) : Int := if (Config.freeValue (s.free + k)).getLsbD 0 then 255 else 0
  let base (code : Nat) : Int := (c.base.find? (fun e => e.1 = code)).elim 0 (·.2)
  let cell (j : Nat) : Nat :=
    let a := pins.getD j 0
    let b := pins.getD (j + 1) 0
    if a = 2 ∨ b = 2 then 2
    else if a = 3 ∨ b = 3 then 3
    else if cellUnits (s.get R.RSV_LIM_VCMIN * 10) ≤ base (4 + j) ∧ base (4 + j) ≤ cellUnits (s.get R.RSV_LIM_VCMAX * 10) then 0 else 1
  let sumbad := pins.all (· = 1)
    && decide (cellUnits (s.get R.RSV_LIM_SUMTH) < (base 8 * 4 - ((List.range n).map (fun j => base (4 + j))).sum).natAbs)
  let t := (s.useFree 5).setReg RW.RSV_OWMV 0
  let t := t.setReg RW.RSV_OWRES (setBits (t.reg RW.RSV_OWRES) 0 18 0)
  let t := t.forN (n + 1) (fun k t =>
    let mv := (clampInt ((ds.getD k 0 + up k) / 256) (-256) 255).1
    (t.put (R.OWPIN k) (pins.getD k 0)).put (R.OWDELTA k) (BitVec.ofInt 9 mv).toNat)
  let t := t.forN n (fun j t => t.put (R.OWCELL j) (if sumbad then 3 else cell j))
  ((t.when sumbad (·.put R.RSV_STAT_SUMERR 1)).put R.RSV_OWRES_VALID 1).assertEv 107

/-- A result of the check arrives, tag 1 of its baseline and 2 + k at pin k (R608); the last classifies the cells. -/
def State.owResult (s : State) (c : OwCheck) (tag code : Nat) (res : Int) (last : Bool) : State :=
  let c' := if tag = 1 then { c with base := c.base ++ [(code, res)] } else { c with on := c.on ++ [(tag - 2, code, res)] }
  if last && tag == 2 + s.ncell then (s.owClassify c').owEnd else s.modRsv (fun r => { r with check := some c' })

/-! ## Windows of the integrating converter -/

/-- What a result of IC1 does beside entering the queue (R423, R587, R603 to R611); one of a check that has been abandoned does nothing more. -/
def State.icTake (s : State) (code : Nat) (res : BitVec 20) (bad : Bool) (tag : Nat) (last : Bool) : State :=
  let t := if 12 ≤ code then
      (s.ntcResult ⟨code % 4, Nat.mod_lt _ (by decide)⟩ (res.toNat / 16)).modSup (fun x => { x with
        ntcAt := x.ntcAt.setIfInBounds (code - 12) (some s.time.dtime) })
    else s
  if tag = 0 then t.stackResult code res bad last
  else match s.rsv.check with
    | some c => t.owResult c tag code res.toInt last
    | none => t

/-- A result word of ICONV_RESj carries CLIP, GAP or TEST. -/
def icBad (w : Word) : Bool := getBits w 40 1 = 1 || getBits w 39 1 = 1 || getBits w 42 1 = 1

/-- A result arrives (R480 to R483, R603 to R611). -/
def State.icArrive (s : State) (x : IcRes) : State :=
  let t := s.icReport x
  if x.unit ≠ 2 then t else t.icTake x.code x.res (icBad (t.reg (RW.ICONV_RES x.code))) x.ow x.last

/-- IC_WINDOW_CLOSE (R475 to R480, R484): unit 0 QR, 1 QB, 2 IC1; its count over n clock edges. The command is the window's own close at its
locking point, and nothing where the window is not there. A twin shadow keeps what its own modulators count for a takeover (R492, R754). -/
def execIcWindowClose (unit : Fin 3) (cnt : BitVec 20) (n : BitVec 19) (short : Bool) (s : State) : Host.Outcome State Fault Refusal :=
  if s.shadowing then
    done (s.modTwin (fun x => { x with
      own := if unit = 0 then (x.own.1 + cnt.toInt, x.own.2) else if unit = 1 then (x.own.1, x.own.2 + cnt.toInt) else x.own }))
  else if s.icCloses unit cnt.toInt n.toNat short then done (s.icClose unit cnt.toInt n.toNat short)
  else done s

/-- The results whose beat has come arrive, those of one beat by unit (R480, R56). -/
def State.icArrivals (s : State) : State :=
  let now := s.iconv.due.filter (fun x => reached s.time.dtime x.due)
  if now.isEmpty then s
  else
    let t := s.modIconv (fun y => { y with due := y.due.filter (fun x => !reached s.time.dtime x.due) })
    ([0, 1, 2] : List (Fin 3)).foldl (fun t u => (now.filter (fun x => x.unit == u)).foldl (fun t x => t.icArrive x) t) t

/-! ## The shutdown sequence -/

/-- A step of the sequence starts (R612). -/
def State.sdEnter (s : State) (n : Nat) : State := (s.put R.RSV_SDSTAT_STEP n).assertEv 107

/-- S1 (R607, R611, R612, R723). -/
def State.shutdownS1 (s : State) : State :=
  let t := (s.setReg RW.RSV_SDSTAT 0).sdEnter 1
  let t := ((t.setReg RW.RSV_SDTIME s.time.dtime).modRsv (fun r => { r with connect := false, connEnd := none, vend := false, bal := 0 })).owAbandon
  t.voteShutdown

/-- S2 begins in the beat after S1 (R581, R612). -/
def State.shutdownS2 (s : State) : State := s.when (s.sdStep == 1) (fun s => (s.sdEnter 2).supShutdown)

/-- Whether the sequence can start: the user runs and no entry is in progress. -/
def State.sdReady (s : State) : Bool :=
  s.sdStep = 0 && (s.pwr.mode = .run || (s.pwr.mode = .doze && s.pwr.entry.isNone)) && s.pwr.boot = .user

/-- VBATUV stands while the device reaches RUN (R612; spec/21 At the edges). -/
def State.sdCheck (s : State) : State := if s.on R.PWR_STAT_VBATUV && s.sdReady then s.shutdownS1 else s

/-- Every course of RCRS is stopped. -/
def State.rcrsStopped (s : State) : Bool := (mapCourses (s.get R.RSV_SDCFG_RCRS)).all (fun c => !s.running c)

/-- DOZE is held between reserve motions (R614). -/
def State.s4Doze (s : State) : State :=
  if s.on R.RSV_SDCFG_S4DOZE && s.rcrsStopped && s.sdStep = 4 && s.pwr.mode = .run then s.enterDoze else s

/-- S5 (R612, R615): every course is set to HIZ, then REST by its entry, or OFF. -/
def State.shutdownS5 (s : State) : State :=
  let t := (s.sdEnter 5).modRsv (fun r => { r with connect := false })
  let t := allCourses.foldl (fun t c =>
    let u := (t.supOuten c 0 (t.get (R.PWM_OUT_CAPO c))).supStop c
    if u.supHeld c && u.svst c != 0 && u.svst c != svFault then (u.supIdle c).motionEnds c 7 else u) t
  if s.on R.RSV_SDCFG_S5 then t.enterOff true
  else (if t.pwr.mode = .run then t.enterDoze else t).startEntry true

/-- S4 ends (R612, R615, R702): what was accepted after S3 is sealed, and a record is written when a counter has changed. -/
def State.endS4 (s : State) (result : Nat) : State :=
  let t := s.when (result != 0) (·.put R.RSV_SDSTAT_RESULT result)
  let t := t.when (s.ledg.open') (·.lSeal false)
  let t := t.when (s.positions != s.rsv.s3Pos) (·.journal 4)
  t.shutdownS5

/-- S4 begins (R612, R614), or ends at once. -/
def State.startS4 (s : State) : State :=
  let t := s.sdEnter 4
  if s.get R.RSV_SDCFG_TRSV = 0 then t.endS4 4
  else if !s.on R.RSV_CFG_EN || !s.on R.RSV_SDCFG_RCRS then t.endS4 0
  else t.s4Doze

/-- The SRR hold (R143, R472, R528, R617): strands stop, outputs are off, the low-power sampler counts. -/
def State.srrHold (s : State) : State :=
  let t := ((s.sdEnter 6).put R.RSV_SDSTAT_RESULT 2).lpBegin
  let t := { t with core := { t.core with issueOn := false } }
  ((t.modPwr (fun p => { p with mode := .srrHold })).modRsv (fun r => { r with holdAt := s.time.dtime })).refreshAll

/-- S3 (R612, R615, R702): the seal and the position record are issued. -/
def State.shutdownS3 (s : State) : State :=
  let t := (s.sdEnter 3).modRsv (fun r => { r with s3At := s.time.dtime, s3Pos := s.positions, movedAt := s.time.dtime })
  (t.lSeal false).journal 4

/-- The commit point (R612, R617): the record of S3 has committed. -/
def State.shutdownCommit (s : State) : State :=
  if s.sdStep ≠ 3 ∨ s.on R.RSV_SDSTAT_COMMIT then s
  else
    let t := (s.put R.RSV_SDSTAT_COMMIT 1).put R.RSV_SDSTAT_TS3 (min (s.time.dtime - s.rsv.s3At).toNat (2 ^ 24 - 1))
    let t := t.modRsv (fun r => { r with s4At := s.time.dtime })
    if s.on R.PWR_STAT_VBATUV then t.startS4 else t.srrHold

/-- VBATUV becomes 1 (R105, R115, R144, R612, R618). -/
def State.vbatLow (s : State) : State :=
  if s.pwr.mode = .off || s.on R.PWR_STAT_VBATUV then s
  else
    let t := (s.put R.PWR_STAT_VBATUV 1).jotCond 0x10 1
    if s.pwr.mode = .srrHold then
      let u := (t.lpHandoff false).modPwr (fun p => { p with mode := .run })
      (({ u with core := { u.core with issueOn := true } }.sdEnter 4).refreshAll).s4Doze
    else (t.wake 0xC).sdCheck

/-- VBATUV counts for the end of S4: CONNECT is not in force and ended 4 ms ago or more (R617). -/
def State.supplyTest (s : State) : Bool := !s.rsv.connect && s.rsv.connEnd.all (fun d => reached s.time.dtime (d + 960000))

/-- VBATUV becomes 0 (R105, R143, R616, R617). -/
def State.vbatGood (s : State) : State :=
  if s.pwr.mode = .off || !s.on R.PWR_STAT_VBATUV then s
  else
    let t := ((s.put R.PWR_STAT_VBATUV 0).jotCond 0x10 0).modRsv (fun r => { r with vbAt := s.time.dtime })
    let n := s.sdStep
    if n = 1 ∨ n = 2 then (t.put R.RSV_SDSTAT_STEP 0).put R.RSV_SDSTAT_RESULT 1
    else if n = 4 && t.supplyTest then t.srrHold
    else t

/-- VBATUV_SET (R105, R733): of a twin shadow only the journal changes it. -/
def execVbatuvSet (s : State) : Host.Outcome State Fault Refusal := done (if s.shadowing then s else s.vbatLow)
/-- VBATUV_CLEAR (R105, R733). -/
def execVbatuvClear (s : State) : Host.Outcome State Fault Refusal := done (if s.shadowing then s else s.vbatGood)

/-- VBATUV has read 0 for 10 ms in the SRR hold (R143). -/
def State.holdDone (s : State) : Bool := s.pwr.mode = .srrHold && !s.on R.PWR_STAT_VBATUV && reached s.time.dtime (s.rsv.vbAt + 2400000)

/-- The SRR hold ends in an SRR (R134, R143). -/
def State.holdEndSrr (s : State) : State := s.when s.holdDone (fun s => (s.lpHandoff false).resetCause 6)

/-- SRR_HOLD_END (R134, R143). -/
def execSrrHoldEnd (s : State) : Host.Outcome State Fault Refusal := done s.holdEndSrr

/-- Every course is stopped, and the supervisor has parked those it drives. -/
def State.allParked (s : State) : Bool := allCourses.all (fun c => !s.running c && !(s.supHeld c && s.svst c = svStopping))

/-- S2 ends and S3 begins (R612). -/
def State.parkEnd (s : State) : State := s.when (s.sdStep == 2 && s.allParked) (·.shutdownS3)

/-- SHUTDOWN_PARK_END (R612). -/
def execShutdownParkEnd (s : State) : Host.Outcome State Fault Refusal := done s.parkEnd

/-- S2MAX has passed since S2 began (R612). -/
def State.parkOver (s : State) : Bool :=
  s.sdStep == 2 && reached s.time.dtime (s.reg RW.RSV_SDTIME + 1 + Word.ofN (s.get R.RSV_SDCFG_S2MAX * 240000))

/-- At the limit of S2, courses that still run or are driven are set to OUTEN OFF and stop at their next boundary, after which S2 ends (R612,
R613). -/
def State.parkLimit (s : State) : State :=
  if !s.parkOver then s
  else
    let left := allCourses.filter (fun c => s.running c || s.get (R.PWM_OUT_OUTEN c) == 2)
    let t := left.foldl (fun t c => (t.supOuten c 1 0).modPwm c (fun x => { x with stopReq := true })) s
    (t.when (!left.isEmpty) (·.put R.RSV_SDSTAT_FORCED 1)).parkEnd

/-- SHUTDOWN_PARK_LIMIT (R612, R613). -/
def execShutdownParkLimit (s : State) : Host.Outcome State Fault Refusal := done s.parkLimit

/-- TRSV seconds have passed since S4 first began (R612). -/
def State.reserveEnd (s : State) : State :=
  s.when (s.sdStep == 4 && reached s.time.dtime (s.rsv.s4At + Word.ofN (s.get R.RSV_SDCFG_TRSV * 240000000))) (·.endS4 4)

/-- RESERVE_TIME_EXPIRY (R612). -/
def execReserveTimeExpiry (s : State) : Host.Outcome State Fault Refusal := done s.reserveEnd

/-- S4 ends by VEND once a reserve motion has stopped (spec/21 At the edges). -/
def State.vendCheck (s : State) : State := if s.sdStep = 4 && s.rsv.vend && s.rcrsStopped then s.endS4 3 else s

/-- STACK_BELOW_VEND (R612). -/
def execStackBelowVend (s : State) : Host.Outcome State Fault Refusal :=
  if s.sdStep = 4 then done (s.modRsv (fun r => { r with vend := true })).vendCheck else done s

/-- A write of RSV_SDCTL (R614). -/
def State.writeSdctl (s : State) (v : Word) : State :=
  let on := getBits v 0 1 = 1
  if s.sdStep ≠ 4 then s.put R.RSV_STAT_CFGREJ 1
  else (s.putB R.RSV_SDCTL_CONN on).when on (·.modRsv (fun r => { r with connect := true }))

/-- RESERVE_CONNECT (R614): a write of RSV_SDCTL with CONN 1. -/
def execReserveConnect (_m : Master) (s : State) : Host.Outcome State Fault Refusal := done (s.writeSdctl 1)

/-- CONNECT ends: every course of RCRS has been stopped for 10 ms and CONN is 0 (R614). -/
def State.connectEnd (s : State) : State :=
  if s.sdStep = 4 && s.rsv.connect && s.rcrsStopped && !s.on R.RSV_SDCTL_CONN && reached s.time.dtime (s.rsv.movedAt + 2400000) then
    ((s.modRsv (fun r => { r with connect := false, connEnd := some s.time.dtime })).s4Doze).vendCheck
  else s

/-- CONNECT_RELEASE (R614). -/
def execConnectRelease (s : State) : Host.Outcome State Fault Refusal := done s.connectEnd

/-- VBATUV is tested 4 ms after CONNECT ended (R617). -/
def State.connectTest (s : State) : State :=
  s.when (s.sdStep == 4 && s.supplyTest && s.rsv.connEnd.isSome && !s.on R.PWR_STAT_VBATUV) (·.srrHold)

/-- CONNECT_DELAY_EXPIRY (R617). -/
def execConnectDelayExpiry (s : State) : Host.Outcome State Fault Refusal := done s.connectTest

/-- What falls due of the reserve and the shutdown in a beat comes about by its end (R608, R612 to R617). -/
def State.reserveDue (s : State) : State :=
  let t := s.when (s.sdStep == 4 && !s.rcrsStopped) (·.modRsv (fun r => { r with movedAt := s.time.dtime }))
  ((t.owSettled.parkEnd.parkLimit.reserveEnd.connectEnd.connectTest).vendCheck).holdEndSrr

/-- A period boundary with what the supervisor does at it and at those it brings to followers (R351, R579, R586, R593). -/
def State.boundaryAll (s : State) (c : Course) : State :=
  let t := s.boundary c
  (allCourses.foldl (fun u d =>
    u.when ((t.pwm d).bndAt == some s.time.dtime && (s.pwm d).bndAt != some s.time.dtime) (·.supBoundary d)) t).vendCheck

/-- PERIOD_BOUNDARY (R341, R346, R348, R351): the counter returns to 0. -/
def execPeriodBoundary (c : Course) (s : State) : Host.Outcome State Fault Refusal :=
  done (s.when (s.carrierOn c && (s.pwm c).due.getLsbD 0) (·.boundaryAll c))

end Sys2Proof.Machine
end

