-- ==== Sys2Proof/Machine/Flash.lean ====
section
/-!
DEFINITION. Machine/Flash.lean: the flash port (spec/23): delivery of XIP words, the bus lock and software frames, with their
commands.
-/
namespace Sys2Proof.Machine

def State.modFlash (s : State) (f : Flash → Flash) : State := { s with flash := f s.flash }

/-! ## XIP words -/

/-- A word enters the line of its block, which a fill may take now (R647). -/
def Flash.putWord (f : Flash) (a : Nat) (w : Word) : Flash :=
  let g := if (f.lineOf (a / 16)).isSome then f else f.alloc (a / 16)
  match g.lineOf (a / 16) with
  | some k => { g with lines := g.lines.set k { g.lines[k] with
      valid := g.lines[k].valid ||| (1#16 <<< (a % 16)), words := g.lines[k].words.set (a % 16) w (Nat.mod_lt _ (by decide)) } }
  | none => g

/-- A strand's awaited word arrives: a load ends; a fetch may issue (R279, R650). -/
def State.deliver (s : State) (i : StrandId) (w : Word) : State :=
  let t := s.dropMiss i
  match (t.strand i).xipWait with
  | some (ea, x) => t.endLoad i x ea w
  | none => t

/-- The fill in progress delivers its next word (R646 to R650). -/
def State.xipDeliver (s : State) (w : Word) : State :=
  match s.flash.fill with
  | none => s
  | some x =>
    let t := if x.stale then s else s.modFlash (fun f => f.putWord x.next w)
    let t := t.modFlash (fun f => { f with fill := if x.last ≤ x.next then none else some { x with next := x.next + 1 } })
    let t := { t with now := { t.now with fillEnd := t.now.fillEnd || decide (x.last ≤ x.next) } }
    let ws := (s.flash.misses.filter (fun p => p.2 = x.next)).map (·.1)
    ((ws.foldl (fun t i => t.deliver i w) t).startFill).jot 0xA [w]

/-- XIP_WORD_DELIVERED (R189, R646 to R650): the fill in progress delivers the bytes of its next word. -/
def execXipWordDelivered (w : FlashBytes) (s : State) : Host.Outcome State Fault Refusal :=
  done (if s.shadowing then s else s.xipDeliver (xipWord w))

/-- The word of a strand has not come within TO microseconds of its miss (R650). -/
def State.xipLate (s : State) (i : StrandId) : Bool :=
  !s.shadowing && s.on R.XSP_XTO_TO && s.flash.missAt.any (fun p => p.1 == i && s.since p.2 (s.get R.XSP_XTO_TO * 240))

/-- XIP_MISS_TIMEOUT (R650): the miss of the strand is late; its fault comes at the end of the beat, unless the word still comes. -/
def execXipMissTimeout (i : StrandId) (s : State) : Host.Outcome State Fault Refusal :=
  if s.xipLate i then done { s with now := { s.now with xto := i :: s.now.xto } } else done s

/-- The fault of a strand whose word is late (R650). -/
def State.xipFault (s : State) (i : StrandId) : State :=
  let x := s.strand i
  let t := (s.dropMiss i).setStrand i { x with xipWait := none }
  match x.xipWait with
  | some (ea, _) => (t.strandFault i causeXIPERR false false x.pc ea).stepEnd x.stepping
  | none => (t.strandFault i causeXIPERR false true x.pc x.pc).stepEnd x.stepping

/-- The words that are late at the end of this beat (R650). -/
def State.xipDue (s : State) : State :=
  (List.finRange 64).foldl (fun t i =>
    t.when ((s.now.xto.contains i && s.flash.missAt.any (fun p => p.1 == i)) || s.xipLate i) (·.xipFault i)) s

/-- INV (R650): a write of XSP_CTL.INV. -/
def execXspInv (_m : Master) (s : State) : Host.Outcome State Fault Refusal := done s.xipInvalidate

/-- A write of XSP_CTL: INV, or a write of SZ that changes it, invalidates the lines (R650). -/
def State.writeXspCtl (s : State) (v : Word) : State :=
  let t := s.writePlain RW.XSP_CTL v
  if getBits v 0 1 = 1 ∨ t.get R.XSP_CTL_SZ ≠ s.get R.XSP_CTL_SZ then t.xipInvalidate else t
/-- A write of XSP_XTPL invalidates the lines; words that strands wait for come by the old template (R650). -/
def State.writeXtpl (s : State) (v : Word) : State := (s.writePlain RW.XSP_XTPL v).xipInvalidate

/-- XSP_STAT.VALID. -/
def State.xipValid (s : State) : Nat := (s.flash.lines.toList.mapIdx (fun k l => if l.valid = 0 then 0 else 2 ^ k)).sum

/-! ## The bus lock -/

def State.xspEvent (s : State) : State := s.when (s.on R.XSP_CTL_EVEN) (·.assertEv 117)

/-- The lock is granted to software (R655). -/
def State.lockGrant (s : State) : State :=
  (((s.modFlash (fun f => { f with lockReq := false, wrote := false })).put R.XSP_LOCK_HELD 1).put R.XSP_LOCK_GRANT 1).xspEvent

/-- The lock returns to XIP (R656). -/
def State.lockReturn (s : State) : State :=
  let t := (s.put R.XSP_LOCK_HELD 0).modFlash (fun f => { f with lockRel := false, wrote := false })
  (t.when s.flash.wrote (·.xipInvalidate)).startFill

/-- A request of the lock (R655, R657). -/
def State.lockRequest (s : State) : State :=
  if s.on R.XSP_LOCK_HELD || s.flash.lockReq then s
  else
    let t := s.modFlash (fun f => { f.cutFill with lockReq := true })
    if s.flash.fill.isNone then t.lockGrant else t
/-- A release of the lock (R656, R657). -/
def State.lockRelease (s : State) : State :=
  if !s.on R.XSP_LOCK_HELD then s
  else if s.on R.XSP_STAT_SFBUSY then s.modFlash (fun f => { f with lockRel := true })
  else s.lockReturn

/-- LOCK_REQUEST (R655, R657). -/
def execLockRequest (_m : Master) (s : State) : Host.Outcome State Fault Refusal := done s.lockRequest
/-- LOCK_GRANT (R655): the beat after that in which the XIP frame has ended. -/
def execLockGrant (s : State) : Host.Outcome State Fault Refusal :=
  if s.flash.lockReq && s.flash.fill.isNone && !s.now.fillEnd then done s.lockGrant else done s
/-- LOCK_RELEASE (R656, R657). -/
def execLockRelease (_m : Master) (s : State) : Host.Outcome State Fault Refusal := done s.lockRelease

/-- A write of XSP_LOCK: GRANT is cleared by one; REQ and REL act (R655 to R657). -/
def State.writeXspLock (s : State) (v : Word) : State :=
  let t := s.writePlain RW.XSP_LOCK v
  let t := t.when (getBits v 0 1 == 1) (·.lockRequest)
  t.when (getBits v 1 1 == 1) (·.lockRelease)

/-! ## Software frames -/

/-- The words of a buffer of n bytes. -/
def bufWords (n : Nat) : Nat := (n + 5) / 6
/-- The buffer of a software frame passes R652. -/
def State.sfBufOk (s : State) (dir : Bool) (base len : Nat) : Bool :=
  let n := bufWords len
  n = 0 || (decide (0x100000 ≤ base ∧ base + n ≤ 0x200000) && (dir || (List.range n).all (fun k => !s.fenceBars (base + k))))

/-- The GPIO ball that SEL names, when it names one. -/
def State.sfBall (s : State) : Option Nat := if s.get R.XSP_SFCFG_SEL < 0x40 then none else some (s.get R.XSP_SFCFG_SEL - 0x40)

/-- n words of the buffer of a software frame (R178, R651); one that reads uncorrectable is a free value. Log entry 55, DESIGN CHOICE. Log
entry 77, DESIGN CHOICE. -/
def State.sfWords (s : State) (a : Nat) : Nat → List Word × State
  | 0 => ([], s)
  | n + 1 =>
    let r := s.ramRead a 7 0
    let t := if r.1.isNone then r.2.useFree else r.2
    let q := State.sfWords t (a + 1) n
    ((r.1.getD r.2.freeWord) :: q.1, q.2)

/-- A write of XSP_SFCTL.GO (R651 to R653): a writing frame reads its buffer as it starts. Log entry 77, DESIGN CHOICE. -/
def State.sfGo (s : State) : State :=
  let dir := s.on R.XSP_SFCFG_DIR
  let base := s.get R.XSP_SFBUF_BUF
  let len := s.get R.XSP_SFBUF_LEN
  let badBall := s.sfBall.any (fun n => s.get (R.GPIO_FUNC_FUNC n) != 2)
  if !s.on R.XSP_LOCK_HELD then s.put R.XSP_STAT_SFREJ 1
  else if s.on R.XSP_STAT_SFBUSY then s.put R.XSP_STAT_SFREJ 2
  else if !s.sfBufOk dir base len then s.put R.XSP_STAT_SFREJ 3
  else if badBall then (s.put R.XSP_STAT_SFREJ 4).conflict 1 (s.sfBall.getD 0) 2
  else
    let out := s.sfWords base (if dir then bufWords len else 0)
    let t := (out.2.put R.XSP_STAT_SFBUSY 1).modFlash (fun f => { f with
      frame := some (dir, base, len), wrote := f.wrote || s.on R.XSP_SFCFG_WRF })
    t.send .flash .flashFrame ([s.reg RW.XSP_SFCFG, s.reg RW.XSP_SFCMD, Word.ofN len] ++ out.1)

/-- SOFTWARE_FRAME_GO (R651 to R653). -/
def execSoftwareFrameGo (_m : Master) (s : State) : Host.Outcome State Fault Refusal := done s.sfGo

/-- A software frame ends with the bytes it has read (R651, R654, R656). -/
def State.sfEnd (s : State) (data : List (BitVec 8)) : State :=
  match s.flash.frame with
  | none => s
  | some (dir, base, len) =>
    let ws := if dir then [] else packBytes (bufWords len) data
    let t := ws.foldl (fun t w => t.jot 0xA [w]) s
    let t := (ws.zip (List.range ws.length)).foldl (fun t p => t.ramSet (base + p.2) p.1) t
    let t := ((t.modFlash (fun f => { f with frame := none })).put R.XSP_STAT_SFBUSY 0).put R.XSP_STAT_SFDONE 1
    (t.xspEvent.when s.flash.lockRel (·.lockReturn)).jotCond 0x31 0

/-- SOFTWARE_FRAME_END (R651, R660): a reading frame brings its LEN bytes; of a twin shadow only the journal ends one. -/
def execSoftwareFrameEnd (data : List (BitVec 8)) (s : State) : Host.Outcome State Fault Refusal :=
  let ok := match s.flash.frame with | some (dir, _, len) => dir || data.length == len | none => false
  done (if s.shadowing || !ok then s else s.sfEnd data)

/-- A reset, or an entry into STANDBY or REST, ends frames and returns the lock and the template (R658). -/
def State.flashStop (s : State) : State :=
  let t := { s with flash := {} }
  let t := ((t.put R.XSP_LOCK_HELD 0).put R.XSP_STAT_SFBUSY 0)
  t.setReg RW.XSP_XTPL (resetWord RW.XSP_XTPL)

end Sys2Proof.Machine
end

