-- ==== Sys2Proof/Machine/Ledger.lean ====
section
/-!
DEFINITION. Machine/Ledger.lean: the commands of the command ledger (spec/25): the judgement and delivery of a request, progress
and end, credits, time beacons, the seal, and the ledger at a boot.
-/
namespace Sys2Proof.Machine

/-! ## Requests as frames carry them -/

/-- The class of a request TYPE (R686). -/
def typeClass (t : Nat) : Option (BitVec 2) := match t with | 0 => some 0 | 3 => some 1 | 5 => some 2 | 7 => some 3 | _ => none

/-- SRC, DST and class of a request, none for a frame that the ledger does not take (R686, R687, R690). -/
def State.rcpHead (s : State) (q : RcpRequest) : Option (Nat × BitVec 2) :=
  let b (k : Nat) : Nat := (q.bytes.getD k 0).toNat
  let src := if q.lin then b 0 / 16 else getBits (q.id.zeroExtend 48) 4 4
  let dst := if q.lin then b 0 % 16 else getBits (q.id.zeroExtend 48) 0 4
  let cls := if q.lin then some (BitVec.ofNat 2 (b 1)) else typeClass (getBits (q.id.zeroExtend 48) 8 3)
  let mine := if q.lin then q.bytes != [] && q.id.toNat == s.get R.LEDG_CFG_LRQID
    else getBits (q.id.zeroExtend 48) 11 18 == s.get R.LEDG_CFG_PFX
  if mine && decide (src ≤ 12) && (dst == s.get R.RST_STRAP_NODE || dst == 0xF) then cls.map (fun c => (src, c)) else none

/-- Bytes of a request from a position on, most significant first, as a number; a byte that the payload lacks is free. -/
def State.rcpBytes (s : State) (q : RcpRequest) (lo len : Nat) : Nat :=
  (List.range len).foldl (fun v k => v * 256 + (q.bytes.getD (lo + k) ((Config.freeValue s.free).setWidth 8)).toNat) 0

def seqAt (q : RcpRequest) : Nat := if q.lin then 2 else 0
/-- The request keeps to its layout (R688, R690). -/
def rcpFormed (q : RcpRequest) : Bool := if q.lin then q.bytes.length == 8 else decide (4 ≤ q.bytes.length)
/-- Opcodes of the supervisor and of the program (R691). -/
def opSup (op : Nat) : Bool := (0x11 ≤ op && op ≤ 0x15) || op = 0x18
def opUser (op : Nat) : Bool := 0x1000 ≤ op

/-! ## Delivery -/

/-- Write the record of a user request and assert its event line (R692). -/
def State.deliverUser (s : State) (o : Nat) (e : LEntry) : State :=
  let wp := s.reg RW.LEDG_RQWP
  let a := s.get R.LEDG_RQR_BASE + 12 * (wp.toNat % s.get R.LEDG_RQR_LEN)
  let w0 := packWord [(e.seq.toNat, 0), (e.op.toNat, 16), (o, 32), (e.cls.toNat, 36), (e.lin.toNat, 38)]
  ((s.ramWrite a (w0 :: e.t :: packBytes 10 e.args)).setReg RW.LEDG_RQWP (wp + 1)).assertEv (120 + e.cls.toNat)

/-- Hand a supervisor request to the supervisor (R691, R694): the entry runs with the course's STATE, and the call is made. An
argument byte that the request lacks, the strand of its record and the conditions present at a CLEAR are free. -/
def State.deliverSup (s : State) (o : Nat) (e : LEntry) : State :=
  let f := s.freeWord.toNat
  let b (k : Nat) : Nat := (e.args.getD k (BitVec.ofNat 8 (f / 2 ^ 20))).toNat
  let cn := b 0
  let rb := [1, 2, 3, 4, 5, 6].foldl (fun v k => v * 256 + b k) 0
  let c : Course := ⟨cn % 8, Nat.mod_lt _ (by decide)⟩
  let t := (s.useFree).putEntry o { e with
    state := lRunning, step := BitVec.ofNat 8 (s.svst c), course := if cn < 8 then some c else none, replied := false }
  t.svcCall (.ledger o e.seq) (f % 64) e.op.toNat (Word.ofN cn) (Word.ofN rb) (f / 64 % 2 ^ 13)

/-- Deliver an accepted request (R691, R692). -/
def State.deliverReq (s : State) (o : Nat) (e : LEntry) : State := if opUser e.op.toNat then s.deliverUser o e else s.deliverSup o e

/-! ## Judgement -/

/-- A rejection is answered at once (R695, R696). -/
def State.rejectReq (s : State) (o : Nat) (e : LEntry) (reason : Nat) : State :=
  (s.bump (if reason = 1 then R.LEDG_CNT_STALE else R.LEDG_CNT_REJ)).reply o
    { e with state := lRejected, step := BitVec.ofNat 8 reason } false

/-- The request ring takes no further record: none is laid out in RAM that the program owns, or LEN records are unread (R670,
R692, R695). -/
def State.ringFull (s : State) : Bool :=
  let base := s.get R.LEDG_RQR_BASE
  let len := s.get R.LEDG_RQR_LEN
  let wp := s.reg RW.LEDG_RQWP
  len = 0 || decide (base < 0x100000 ∨ 0x200000 < base + 12 * len) || decide (len ≤ (wp - s.reg RW.LEDG_RQRD).toNat)
    || !s.ringOpen (base + 12 * (wp.toNat % len)) 12

/-- An originator's window is unanchored (R704). -/
def State.unsync (s : State) (o : Nat) : Bool := (s.get R.LEDG_STAT_UNSYNC).testBit o

/-- Accept a request (R695, R699, R706). -/
def State.acceptReq (s : State) (o : Nat) (e : LEntry) : State :=
  let d := (e.seq - (s.orig o).h).toInt
  let uses := e.cls != 0 && !e.lin
  let t := s.modOrig o (fun x =>
    let h := if 0 < d then e.seq else x.h
    { x with h := h, entries := x.entries.filter (fun y => decide ((h - y.seq).toInt ≤ 31)), c := if uses then crAdd x.c e.cls.toNat 1 else x.c })
  let t := t.putEntry o e
  if e.cls = 0 then
    let t := (t.persistEntry o e .nothing).replyEntry o e.seq
    match t.lEntry o e.seq with
    | some x => t.deliverReq o x
    | none => t
  else t.persistEntry o e (.accept o e.seq)

/-- Judge a request (R695). -/
def State.judge (s : State) (q : RcpRequest) : State :=
  match s.rcpHead q with
  | none => s
  | some (o, cls) =>
    let seq := BitVec.ofNat 16 (s.rcpBytes q (seqAt q) 2)
    let op := s.rcpBytes q ((seqAt q) + 2) 2
    let e : LEntry := { seq := seq, state := lAccepted, cls := cls, op := BitVec.ofNat 16 op, lin := q.lin, args := q.bytes.drop ((seqAt q) + 4), t := q.t }
    let x := s.orig o
    let d := (seq - x.h).toInt
    let old := s.lEntry o seq
    let inWin := decide (-31 ≤ d ∧ d ≤ 0)
    if !rcpFormed q then (s.useFree).rejectReq o e 8
    else if s.unsync o then s.rejectReq o e 4
    else if d < -31 ∨ (inWin ∧ old.isNone ∧ (seq - x.floor).toInt < 0) then s.rejectReq o e 1
    else match (if inWin then old else none) with
    | some y => (s.bump R.LEDG_CNT_DUP).reply o y true
    | none =>
      if !opSup op && !opUser op then
        (s.rejectReq o e 6).persistEntry o { e with state := lRejected, step := 6, replied := true } .nothing
      else if cls ≠ 0 ∧ s.sdStep ≠ 0 then s.rejectReq o e 5
      else if 0 < d ∧ x.entries.any (fun y => y.live && decide (31 < (seq - y.seq).toInt)) then s.rejectReq o e 3
      else if cls ≠ 0 ∧ !q.lin ∧ x.hold cls.toNat = 0 then s.rejectReq o e 2
      else if (opUser op && s.ringFull) || (opSup op && decide (16 ≤ s.svcPending)) then s.rejectReq o e 7
      else s.acceptReq o e

/-- An unseal is on its way. -/
def State.unsealing (s : State) : Bool := s.ledg.waits.any (fun w => w.2 == .seal false)
/-- SEALED = 0 is persisted unless it already is or is on its way (R702). -/
def State.unseal (s : State) : State := if s.ledg.open' || s.unsealing then s else s.persistSeal false

/-- The ledger takes frames: EN, RUN or DOZE, not a cascade follower (R687, R713). -/
def State.ledgTakes (s : State) : Bool :=
  s.on R.LEDG_CFG_EN && s.watching && !s.netAsleep && !(s.get R.RST_STRAP_ROLE = 3 && s.get R.PEER_CSSTAT_POS != 0)

/-- A request that the ledger takes is judged, or held until the unseal commits; a ninth is BUSY (R702). -/
def State.rcpArrive (s : State) (q : RcpRequest) : State :=
  match s.rcpHead q with
  | none => s
  | some (o, cls) =>
    if s.ledg.open' then s.judge q
    else if s.ledg.held.length < 8 then (s.unseal).modLedg (fun l => { l with held := l.held ++ [q] })
    else
      let e : LEntry := { seq := BitVec.ofNat 16 (s.rcpBytes q (seqAt q) 2), state := lRejected, cls := cls, op := 0, lin := q.lin }
      (s.useFree).rejectReq o e 7

/-- A request becomes valid: the rest engine observes one of class 0 or 1, and the ledger judges its own (R687, R715). -/
def State.rcpTake (s : State) (q : RcpRequest) : State :=
  let seen := s.rcpSeen q
  let own := s.ledgTakes && (s.rcpHead q).isSome
  let t := (s.when seen (·.reqSeen (q.id.toNat / 16 % 16))).when own (·.rcpArrive q)
  t.when (seen || own) (·.jotRx (.rcp q))

/-- RCP_REQUEST (R687, R690, R695, R697, R702, R715, R755): a request arrives; a twin shadow keeps it for a takeover. -/
def execRcpRequest (q : RcpRequest) (s : State) : Host.Outcome State Fault Refusal :=
  if s.shadowing then done (s.heard (.rcp q))
  else if if q.lin then s.linMode = 0 else !s.canHears then done s
  else done (s.rcpTake q)

/-! ## Persist points -/

/-- A credit frame of the device (R707). -/
def State.sendCredit (s : State) (o : Nat) (n : Vector Nat 3) : State :=
  s.sendLedg { kind := .credit, desc := rcpDesc true (s.rcpId 6 o) (1#8 :: n.toList.map (BitVec.ofNat 8)) }

/-- A persist of the ledger has committed (R699, R700, R702, R704, R708). -/
def State.ledgCommitted (s : State) (tag : Nat) : State :=
  match s.ledg.waits.find? (fun w => w.1 == tag) with
  | none => s
  | some (_, w) =>
    let t := s.modLedg (fun l => { l with waits := l.waits.filter (fun w => w.1 != tag) })
    match w with
    | .nothing | .reject .. => t
    | .accept o q => match t.lEntry o q with
      | some e => if e.state = lAccepted then
          let u := t.replyEntry o q
          match u.lEntry o q with
          | some e => u.deliverReq o e
          | none => u
        else t
      | none => t
    | .ending o q => match t.lEntry o q with
      | some e => (t.replyEntry o q).when (e.cls != 0 && !e.lin) (·.modOrig o (fun x =>
          { x with
            owed := x.owed.mapIdx (fun k n => if k + 1 = e.cls.toNat then n + 1 else n)
            owedAt := if x.owed.toList.all (· == 0) then t.time.dtime else x.owedAt }))
      | none => t
    | .seal true => t.put R.LEDG_STAT_SEALED 1
    | .seal false =>
      let t := t.put R.LEDG_STAT_SEALED 0
      if t.ledg.waits.any (fun w => w.2 == .seal true) then t
      else
        let held := t.ledg.held
        held.foldl State.judge (t.modLedg (fun l => { l with open' := true, held := [] }))
    | .grants o n => t.sendCredit o n

/-! ## Progress and end by the program -/

/-- A write of LEDG_STEP (R693, R699). -/
def State.writeLedgStep (s : State) (v : Word) : State :=
  let o := getBits v 0 4
  match s.lEntry o (BitVec.ofNat 16 (getBits v 4 16)) with
  | some e =>
    if e.live then
      s.lStep o e (BitVec.ofNat 8 (getBits v 20 8)) (if v.getLsbD 31 then some ⟨getBits v 28 3 % 8, Nat.mod_lt _ (by decide)⟩ else none)
    else s.put R.LEDG_STAT_ENDREJ 1
  | none => s.put R.LEDG_STAT_ENDREJ 1

/-- A write of LEDG_END (R693): reserved kinds end nothing. -/
def State.writeLedgEnd (s : State) (v : Word) : State :=
  let o := getBits v 0 4
  let kind := getBits v 20 2
  match s.lEntry o (BitVec.ofNat 16 (getBits v 4 16)) with
  | some e =>
    if !e.live then s.put R.LEDG_STAT_ENDREJ 1
    else if kind = 1 ∨ kind = 2 then s.lEnd o e (kind == 1) (BitVec.ofNat 16 (getBits v 22 16))
    else s
  | none => s.put R.LEDG_STAT_ENDREJ 1

/-- LEDG_STEP (R693). -/
def execLedgStep (_m : Master) (v : Word) (s : State) : Host.Outcome State Fault Refusal := done (s.writeLedgStep v)
/-- LEDG_END (R693). -/
def execLedgEnd (_m : Master) (v : Word) (s : State) : Host.Outcome State Fault Refusal := done (s.writeLedgEnd v)

/-- LEDG_QDATAm (R698): the words of the entry that LEDG_QSEL names, zero where there is none. -/
def State.qdata (s : State) (m : Nat) : Word :=
  let o := s.get R.LEDG_QSEL_SRC
  match s.lEntry o (BitVec.ofNat 16 (s.get R.LEDG_QSEL_SEQ)) with
  | some e => (s.entryWords o e).getD m 0
  | none => 0
/-- LEDG_CRCNT (R706). -/
def State.crcnt (s : State) : Word := (s.orig (s.get R.LEDG_QSEL_SRC)).crWord (s.get R.LEDG_QSEL_CLS)

/-! ## Credits -/

/-- The grants owed to an originator are sent in one frame (R708). -/
def State.grantOwed (s : State) (o : Nat) : State :=
  if (s.orig o).owed.toList.all (· == 0) then s
  else (s.sendCredit o (s.orig o).owed).modOrig o (fun x => { x with owed := Vector.replicate 3 0 })

/-- CREDIT_GRANT (R707, R708): the grants owed to an originator are sent. -/
def execCreditGrant (dst : BitVec 4) (s : State) : Host.Outcome State Fault Refusal := done (s.grantOwed dst.toNat)

/-- RETURN: R increases by the credits returned, up to those held (R706, R707). -/
def State.creditReturn (s : State) (src : BitVec 4) (n : List (BitVec 8)) : State :=
  let o := src.toNat
  let x := s.orig o
  let back (k : Nat) (r : Vector (BitVec 16) 3) : Vector (BitVec 16) 3 := crAdd r k (min (n.getD (k - 1) 0).toNat (x.hold k))
  ((s.modOrig o (fun x => { x with r := back 3 (back 2 (back 1 x.r)) })).persistCredits o .nothing).jotRx (.credit s.time.dtime src n)

/-- RESYNC: the window is anchored, every credit held is settled and the initial grants are made, which the answering GRANT names (R704,
R707, log entry 40, DEDUCED). -/
def State.creditResync (s : State) (src : BitVec 4) (n : BitVec 16) : State :=
  let o := src.toNat
  if !s.unsync o && s.lBusy o then s
  else
    let cr := s.crInit
    let t := s.modOrig o (fun x => { x with
      h := n - 1, floor := n, entries := x.entries.filter (fun e => decide (0 ≤ (n - 1 - e.seq).toInt ∧ (n - 1 - e.seq).toInt ≤ 31))
      r := Vector.ofFn (fun k : Fin 3 => x.g[k] - x.c[k])
      g := Vector.ofFn (fun k : Fin 3 => x.g[k] + cr[k])
      owed := Vector.replicate 3 0 })
    let u := s.get R.LEDG_STAT_UNSYNC
    ((t.putN R.LEDG_STAT_UNSYNC (u - u / 2 ^ o % 2 * 2 ^ o)).persistCredits o (.grants o (cr.map (·.toNat)))).jotRx (.resync s.time.dtime src n)

/-- CREDIT_RETURN (R706, R707). -/
def execCreditReturn (src : BitVec 4) (n1 n2 n3 : BitVec 8) (s : State) : Host.Outcome State Fault Refusal :=
  if s.shadowing then done (s.heard (.credit s.phys src [n1, n2, n3]))
  else if !s.ledgTakes || decide (12 < src.toNat) then done s
  else done (s.creditReturn src [n1, n2, n3])

/-- CREDIT_RESYNC (R704, R707). -/
def execCreditResync (src : BitVec 4) (n : BitVec 16) (s : State) : Host.Outcome State Fault Refusal :=
  if s.shadowing then done (s.heard (.resync s.phys src n))
  else if !s.ledgTakes || decide (12 < src.toNat) then done s
  else done (s.creditResync src n)

/-! ## Time beacons -/

/-- A SYNC latches d and nl (R89, R710). -/
def State.beaconSync (s : State) (bn : BitVec 8) : State :=
  (s.modLedg (fun l => { l with beacon := some (bn, s.time.dtime, s.ntLatch64) })).jotRx (.sync s.time.dtime bn)

/-- The FOLLOW of the latched SYNC within 100 ms completes a beacon sample (R89, R710). -/
def State.beaconFollow (s : State) (bn : BitVec 8) (tm : BitVec 64) : State :=
  (match s.ledg.beacon with
  | some (b, d, nl) =>
    if b = bn ∧ !s.since d 24000001 then (s.modLedg (fun l => { l with beacon := none })).queueBeacon tm d nl
    else s.bump R.LEDG_CNT2_TBMISS
  | none => s.bump R.LEDG_CNT2_TBMISS).jotRx (.follow s.time.dtime bn tm)

/-- TIME_BEACON_SYNC (R89, R710): a SYNC of TMSRC. -/
def execTimeBeaconSync (bn : BitVec 8) (s : State) : Host.Outcome State Fault Refusal :=
  if s.shadowing then done (s.heard (.sync s.phys bn))
  else if !s.ledgTakes then done s
  else done (s.beaconSync bn)

/-- TIME_BEACON_FOLLOW (R89, R710): a FOLLOW of TMSRC. -/
def execTimeBeaconFollow (bn : BitVec 8) (tm : BitVec 64) (s : State) : Host.Outcome State Fault Refusal :=
  if s.shadowing then done (s.heard (.follow s.phys bn tm))
  else if !s.ledgTakes then done s
  else done (s.beaconFollow bn tm)

/-- A time master may send its next SYNC: PER milliseconds have passed since the last (R711); when the first leaves, the spec does not say, and
the command says it. Log entry 41, DEDUCED. -/
def State.beaconOpen (s : State) : Bool :=
  s.ledgTakes && s.on R.LEDG_TBCFG_MASTER
    && s.ledg.syncAt.all (fun t => reached s.time.dtime (t + Word.ofN (s.get R.LEDG_TBCFG_PER * 240000)))

/-- The time master sends a SYNC (R710, R711). -/
def State.beaconOut (s : State) : State :=
  (s.modLedg (fun l => { l with bn := l.bn + 1, syncAt := some s.time.dtime })).engSend (s.beaconFrame [1, s.ledg.bn])

/-- BEACON_SEND (R710, R711): the FOLLOW and the master's own sample come once the SYNC is SENT. Log entry 41, DEDUCED. -/
def execBeaconSend (s : State) : Host.Outcome State Fault Refusal := done (s.when s.beaconOpen (·.beaconOut))

/-- What falls due of the ledger in a beat comes about by its end (R708, R711): the next SYNC, and grants owed for 1 ms. Log entry 41, DEDUCED. -/
def State.ledgDue (s : State) : State :=
  let t := s.when (s.beaconOpen && s.ledg.syncAt.isSome) (·.beaconOut)
  (List.range 13).foldl (fun t o => t.when (!(t.orig o).owed.toList.all (· == 0) && reached (t.time.dtime + 1) ((t.orig o).owedAt + 240000))
    (·.grantOwed o)) t

/-! ## Boot -/

/-- The boot ROM reads the MRAM ledger (R167, R178, R703): whether any word reads uncorrectable, and what the reads count. -/
def State.ledgRead (s : State) : Bool × State :=
  (List.range (0x7AAC4 - 0x7A400)).foldl (fun (p : Bool × State) k =>
    let r := p.2.mramRead (0x7A400 + k) 4 0
    (p.1 && r.1.isSome, r.2)) (true, s)

/-- MAGIC, VER and SEALED of the MRAM ledger are those of a valid one (R703). -/
def State.ledgMarked (s : State) : Bool :=
  getBits (s.mramAt 0x7A400) 24 24 == 0x524350 && getBits (s.mramAt 0x7A400) 0 8 == 1 && (s.mramAt 0x7A401).getLsbD 0

/-- The entry that MRAM holds in a place of a window (R698). Log entry 42, DEDUCED. -/
def State.mramEntry (s : State) (o k : Nat) : Option LEntry :=
  let a := 0x7A410 + 4 * (32 * o + k)
  let w := s.mramAt a
  let st := BitVec.ofNat 3 (getBits w 16 3)
  if st = 0 then none
  else some { seq := BitVec.ofNat 16 (getBits w 0 16), state := st, cls := BitVec.ofNat 2 (getBits w 19 2), step := BitVec.ofNat 8 (getBits w 21 8),
              course := some ⟨getBits w 29 3 % 8, Nat.mod_lt _ (by decide)⟩, op := BitVec.ofNat 16 (getBits w 32 16), pos := s.mramAt (a + 1),
              outcome := BitVec.ofNat 16 (getBits (s.mramAt (a + 2)) 0 16), lseq := BitVec.ofNat 32 (getBits (s.mramAt (a + 2)) 16 32), replied := true }

/-- The later of two counts, modulo 2^16. -/
def later16 (a b : BitVec 16) : BitVec 16 := if 0 < (b - a).toInt then b else a

/-- An originator's window from MRAM (R698, log entry 42, DEDUCED): H is the newest accepted number of its entries, never below F - 1, and a count
is the latest that the credit words and the entries of its class carry. -/
def State.mramOrig (s : State) (o : Nat) : LOrig :=
  let es := (List.range 32).filterMap (fun k => (s.mramEntry o k).map (fun e => (e, s.mramAt (0x7A410 + 4 * (32 * o + k) + 3))))
  let floor := BitVec.ofNat 16 (getBits (s.mramAt (0x7AA90 + 4 * o + 3)) 0 16)
  let acc := es.filter (fun p => p.1.state != lRejected)
  let h := match acc with
    | [] => floor - 1
    | p :: _ =>
      let top := acc.foldl (fun (m : LEntry × Word) q => if 0 < (q.1.lseq - m.1.lseq).toInt then q else m) p
      let h := acc.foldl (fun (m : BitVec 16) q => if 0 < (q.1.seq - m).toInt ∧ (q.1.seq - m).toInt ≤ 31 then q.1.seq else m) top.1.seq
      later16 h (floor - 1)
  let cnt (lo : Nat) : Vector (BitVec 16) 3 := Vector.ofFn (fun k : Fin 3 =>
    (es.filter (fun p => p.1.cls.toNat == k.val + 1)).foldl (fun v p => later16 v (BitVec.ofNat 16 (getBits p.2 lo 16)))
      (BitVec.ofNat 16 (getBits (s.mramAt (0x7AA90 + 4 * o + k.val)) lo 16)))
  { h := h, floor := floor, entries := (es.map (·.1)).filter (fun e => decide ((h - e.seq).toInt ≤ 31)), g := cnt 32, c := cnt 16, r := cnt 0 }

/-- The ledger check of a boot after a POR, a BOR or a wake from REST (R47, R703, R704). Log entry 42, DEDUCED. -/
def State.ledgLoad (s : State) : State :=
  let r := s.ledgRead
  let s := r.2
  if r.1 && s.ledgMarked then
    (s.modLedg (fun _ => { orig := Vector.ofFn (fun o : Fin 13 => s.mramOrig o.val), lseq := BitVec.ofNat 32 (getBits (s.mramAt 0x7A401) 1 32) })).put
      R.LEDG_STAT_SEALED 1
  else
    ((s.modLedg (fun _ => { orig := Vector.replicate 13 { g := s.crInit }, rewrite := true })).putN R.LEDG_STAT_LOST 1).putN R.LEDG_STAT_UNSYNC 0x1FFF

/-- After any other reset the requests that it ended are persisted before the first user instruction, and are then answered (R705). -/
def State.ledgAborts (s : State) : State :=
  (List.range 13).foldl (fun t o => ((t.orig o).entries.filter (fun e => !e.live && !e.replied)).foldl
    (fun u e => u.persistEntry o e (.ending o e.seq)) t) s

/-- At the first user instruction an invalid ledger is rewritten, and SEALED = 0 is persisted (R702, R703). -/
def State.ledgStart (s : State) : State :=
  if s.ledg.rewrite then
    let t := s.forN 104 (fun k t => t.ledgPersist (0x7A410 + 16 * k) (List.replicate 16 0) .nothing)
    let t := (List.range 13).foldl (fun t o => t.persistCredits o .nothing) t
    let t := t.ledgPersist 0x7A400 [Word.ofN (0x524350 * 2 ^ 24 + 1)] .nothing
    (t.modLedg (fun l => { l with rewrite := false })).unseal
  else s.unseal

/-! ## Takeover -/

/-- At a takeover the new primary sends the replies not reported SENT and the grants owed (R712): of a request whose acceptance or
end has committed. -/
def State.ledgTakeover (s : State) : State :=
  let waits (o : Nat) (q : BitVec 16) : Bool := s.ledg.waits.any (fun w => w.2 == .accept o q || w.2 == .ending o q)
  (List.range 13).foldl (fun t o =>
    let t := ((t.orig o).entries.filter (fun e => !e.replied && !waits o e.seq)).foldl (fun u e => u.replyEntry o e.seq) t
    t.grantOwed o) s

end Sys2Proof.Machine
end

