-- ==== Sys2Proof/Machine/Boot.lean ====
section
/-!
DEFINITION. Machine/Boot.lean: straps, the boot flow, image tries and the start of the user (spec/04 R145 to R159, R851), with
their commands.
-/
namespace Sys2Proof.Machine

/-! ## Straps -/

/-- The majority of three samples (R145). -/
def majority (a b c : BitVec 8) : BitVec 8 := (a &&& b) ||| (a &&& c) ||| (b &&& c)

/-- The straps have been sampled (R59, R66, R137, R145 to R148): ROLE in bits 1:0, BOOT in 3:2 and NODE in 7:4 of a sample. cold: at a
POR, a BOR or a wake from REST, where ROLE takes effect. Log entry 8, DESIGN CHOICE. -/
def State.sampleStraps (s : State) (cold : Bool) (s1 s2 s3 : BitVec 8) : State :=
  let v := (majority s1 s2 s3).toNat
  let role := v % 4
  let boot := v / 4 % 4
  let node := v / 16
  let t := ((s.put R.RST_STRAP_SROLE role).put R.RST_STRAP_SBOOT boot).put R.RST_STRAP_SNODE node
  let t := (t.put R.RST_STRAP_BOOT boot).put R.RST_STRAP_NODE node
  let t := if cold then
      ((t.put R.RST_STRAP_ROLE role).putB R.TIME_STAT_REF_SRC (role == 2 || (role == 3 && decide (13 ≤ node)))).putB
        R.TIME_CLKCTL_REFOUT_EN (role == 1 || role == 3)
    else t.when (t.get R.RST_STRAP_ROLE != role) (·.put R.RST_STAT_STRAPCHG 1)
  let t := t.put R.PEER_CSSTAT_POS (if t.get R.RST_STRAP_ROLE = 3 ∧ 13 ≤ node then node - 12 else 0)
  (t.when (decide (role ≤ 2 ∧ 13 ≤ node)) (·.put R.RST_BOOTST_STRAPERR 1)).modPwr (fun p => { p with rstDrive := false })

/-- REGULATORS_VALID (R126, R128, R145, R855): VREG5, VIO and VCORE are valid; at a POR, a BOR and a wake from REST the straps are
sampled, with the samples given. -/
def execRegulatorsValid (s1 s2 s3 : BitVec 8) (s : State) : Host.Outcome State Fault Refusal :=
  let ok (t : State) : State := ((t.put R.PWR_STAT_VREG5_OK 1).put R.PWR_STAT_VIO_OK 1).put R.PWR_STAT_VCORE_OK 1
  if s.core.esc.isSome then done s
  else if s.pwr.mode = .start ∧ s.pwr.boot = .regs then
    done (((ok s).sampleStraps true s1 s2 s3).modPwr (fun p => { p with boot := .beat }))
  else if s.pwr.mode = .standby ∧ s.pwr.wake = some .regs then
    done ((ok s).modPwr (fun p => { p with wake := some .beat }))
  else done s

/-! ## Class-N fields, journal and fault log at boot -/

/-- Phase 2 of every committed slot, in commit order (R175). -/
def State.completeSlots (s : State) : State :=
  (s.mem.slots.foldl State.applySlot s).modMem (fun m => { m with slots := [] })

/-- The word w with its class-N fields from the record v (R851). -/
def mergeN (fs : List FieldRow) (w v : Word) : Word :=
  fs.foldl (fun w f => if f.keep == .n then setBits w f.lo f.len (getBits v f.lo f.len) else w) w

/-- The boot ROM reads those words of a list of MRAM addresses that are in error: what each gives, none for an uncorrectable one (R178). -/
def State.bootErrorsAt (s : State) (l : List Nat) : List (Nat × Option Word) × State :=
  l.foldl (fun x a => let r := x.2.mramRead a 4 0; (x.1 ++ [(a, r.1)], r.2)) ([], s)

/-- The boot ROM reads the words in error of a range of MRAM: what each gives, none for an uncorrectable one (R178). -/
def State.bootErrors (s : State) (lo hi : Nat) : List (Nat × Option Word) × State :=
  s.bootErrorsAt ((s.mem.mramErr.map (·.1)).filter (fun a => decide (lo ≤ a ∧ a < hi)))

/-- A word of MRAM as the boot ROM has read it, among the words in error. -/
def State.bootWord (s : State) (errs : List (Nat × Option Word)) (a : Nat) : Option Word :=
  match errs.find? (fun e => e.1 == a) with
  | some e => e.2
  | none => some (s.mramRaw a)

/-- The fields of class N of a register word take a word, or with none their values after reset. -/
def State.setN (s : State) (a : Nat) (w : Option Word) : State :=
  match regRow a with
  | none => s
  | some r => s.setReg a (match w with
    | some v => mergeN r.fields (s.reg a) v
    | none => loseFields (fun k => k == .n) r.fields (s.reg a))

/-- The class-N fields of a register word take their values at boot (R851): from its shadow record, or as of a record never written where the
tag does not match. A record with an uncorrectable word counts as never written, sets UNC or LOST where its word has them, and is persisted
again. Log entry 57, DEDUCED. -/
def State.shadowRecord (s : State) (errs : List (Nat × Option Word)) (a : Nat) : State :=
  match s.bootWord errs (shadowAddr a), s.bootWord errs (shadowAddr a + 1) with
  | some w, some tag => s.setN a (if tag = shadowTag a then some w else none)
  | _, _ =>
    let t := s.setN a none
    let t := allCourses.foldl (fun t (c : Course) =>
      t.when (a == RW.POS_STAT c) (fun t => (t.put (R.POS_STAT_UNC c) 1).put (R.POS_STAT_UNCSRC c) 7)) t
    (t.when (a == RW.LEDG_STAT) (·.put R.LEDG_STAT_LOST 1)).persistShadow a

/-- The class-N fields take their shadow records (R851). Log entry 57, DEDUCED. -/
def State.loadShadow (s : State) : State :=
  let r := s.bootErrors 0x7F000 0x7F800
  shadowWords.foldl (fun t a => t.shadowRecord r.1 a) (r.2.loseClasses (fun k => k == .n))

/-- The class-N fields take their shadow records; the factory and write-once values and the highest staging number follow (R851). Log entry 8,
DESIGN CHOICE. -/
def State.loadClassN (s : State) : State :=
  let t := s.loadShadow
  let t := ((t.put R.MEM_WEAR_PCOUNT s.mem.stagedSeq.toNat).put R.ICONV_CALR_STEP Config.calR.toNat).put R.ICONV_CALB_STEP Config.calB.toNat
  (t.putB R.RST_KEYST_KEYSET s.mem.bootKey.isSome).putB R.RST_KEYST_LOCKED s.mem.lockWord

/-- The slot and the sequence number of the newest valid entry of a ring of records of n words at base (R185, R339): both copies
of SEQ agree and are not zero; a slot with an uncorrectable word holds none. -/
def State.newest (s : State) (errs : List (Nat × Option Word)) (base hi n : Nat) : Option (Nat × Nat) :=
  let cands := ((s.mram.map (·.1) ++ errs.map (·.1)).filter (fun a => decide (base ≤ a ∧ a < hi ∧ (a - base) % n = 0))).map
    (fun a => (a - base) / n)
  let seqOf (k : Nat) : Option Nat :=
    if (List.range n).all (fun i => (s.bootWord errs (base + n * k + i)).isSome) then
      let a := getBits ((s.bootWord errs (base + n * k)).getD 0) 0 40
      let b := getBits ((s.bootWord errs (base + n * k + n - 1)).getD 0) 0 40
      if a = b ∧ a ≠ 0 then some a else none
    else none
  cands.foldl (fun m k => match seqOf k, m with
    | some q, some (_, r) => if r < q then some (k, q) else m
    | some q, none => some (k, q)
    | none, _ => m) none

/-- The journal at boot (R57, R141, R183, R185, R186, R851): por says that the positions are loaded. Log entry 8, DESIGN CHOICE. Log entry 17,
DEDUCED. -/
def State.journalLoad (s : State) (por : Bool) : State :=
  let (errs, t) := s.bootErrors 0x70000 0x78000
  let best := if errs.any (fun e => e.2.isNone) then none else t.newest errs 0x70000 0x78000 16
  match best with
  | none =>
    let t := (t.put R.MEM_JSEQ_SEQ 0).modMem (fun m => { m with jSlot := 2047, jLast := Vector.replicate 8 0 })
    if por then allCourses.foldl (fun t (c : Course) => (t.setReg (RW.POS_CNT c) 0).posUnc c 6) t else t
  | some (k, q) =>
    let word (i : Nat) : Word := (t.bootWord errs (0x70000 + 16 * k + i)).getD 0
    let p : Vector Word 8 := Vector.ofFn (fun c : Fin 8 => word (1 + c.val))
    let u := (t.put R.MEM_JSEQ_SEQ q).modMem (fun m => { m with jSlot := k, jLast := p })
    if por then
      let u := allCourses.foldl (fun u (c : Course) => u.setReg (RW.POS_CNT c) p[c.val]) u
      if getBits (word 0) 40 8 = 4 then u else allCourses.foldl (fun u c => u.posUnc c 5) u
    else u

/-- The fault log at boot: its newest entry, and the entry of this reset (R337 to R339), whose DTIME is that of this step of the boot flow.
Log entry 17, DEDUCED. Log entry 18, DEDUCED. -/
def State.flogLoad (s : State) : State :=
  let (errs, t) := s.bootErrors 0x7E000 0x7F000
  let t := match t.newest errs 0x7E000 0x7F000 8 with
    | none => (t.put R.SCH_FLOGSEQ_SEQ 0).modMem (fun m => { m with flogSlot := 511 })
    | some (k, q) => (t.put R.SCH_FLOGSEQ_SEQ q).modMem (fun m => { m with flogSlot := k })
  (t.flog false 3 (t.reg RW.RST_STAT) (if s.pwr.logLost then 1 else 0)).modPwr (fun p => { p with logLost := false })

/-! ## The sources -/

/-- The order of the image sources by BOOT (R146). -/
def bootOrder : Nat → List Nat
  | 0 => [0, 1, 2]
  | 1 => [1, 0, 2]
  | 2 => [2]
  | _ => [0]

/-- The boot-fail hold (R156). -/
def State.failHold (s : State) : State := s.modPwr (fun p => { p with boot := .failHold, kind := 0 })

/-- The next source is tried, or none is left (R146, R153, R156, R157). -/
def State.trySource (s : State) (l : List Nat) : State :=
  match l with
  | [] => s.failHold
  | k :: rest => s.modPwr (fun p => { p with boot := if k = 2 then .hostWait rest else .trying k rest, stepAt := s.time.dtime })

/-- The boot flow up to its first try of a source (R153). -/
def State.bootFlow (s : State) : State :=
  let kind := s.pwr.kind
  let cold := kind = 1 ∨ kind = 2 ∨ kind = 7
  if s.on R.RST_BOOTST_STRAPERR then s.failHold
  else
    let t := s.completeSlots.loadClassN.journalLoad (kind == 1)
    let t := t.when (kind == 1 || kind == 2) (·.chgGap 5)
    let t := if cold then t.ledgLoad else t
    (t.flogLoad.closeDebug).trySource (bootOrder (t.get R.RST_STRAP_BOOT))

/-- BOOT_FLOW (R136, R145, R153): the straps are sampled now at a PIN, WDR, SWR or SRR, with the samples given. -/
def execBootFlow (s1 s2 s3 : BitVec 8) (s : State) : Host.Outcome State Fault Refusal :=
  if s.pwr.boot ≠ .flow ∨ s.pwr.mode = .off ∨ s.core.esc.isSome ∨ (s.pwr.kind = 3 ∧ s.pwr.pinLow) then done s
  else if s.pwr.kind = 1 ∨ s.pwr.kind = 2 ∨ s.pwr.kind = 7 then done s.bootFlow
  else done ((s.sampleStraps false s1 s2 s3).bootFlow)

/-! ## The start of the user -/

/-- The converter and the gate supplies are stopped at the first user instruction, the filter engines and acquisition units since the reset
(R159). Log entry 8, DESIGN CHOICE. -/
def State.startStopped (s : State) : State :=
  ([0, 1, 2, 3] : List Dom).foldl (fun t d => t.writeDomCtl d (setBits (setBits (t.reg (RW.GDRV_DOM_CTL d)) 0 1 0) 2 1 0)) (s.writeFadcCtl 0)

/-- The first user instruction (R159, R217, R565, R578, R702, R705, R612). The supervisor's strands 56 to 63 stay FREE: what the supervisor
does, it does as the commands and beats of spec/20 say. Log entry 70, DESIGN CHOICE. -/
def State.startUser (s : State) : State :=
  match s.pwr.image with
  | none => s
  | some im =>
    let kind := s.pwr.kind
    let t := s.startStopped.modPwr (fun p => { p with boot := .user, mode := .run, kind := 0 })
    let t := { t with core := { t.core with issueOn := true, wdRun := true, wdBeats := 0 } }
    let t := ((t.put R.TIME_STAT_PLL_LOCK 1).put R.TIME_STAT_DL0_LOCK 1).put R.TIME_STAT_DL1_LOCK 1
    let t := t.modStrand 0 (fun x => x.spawned im.entry (t.reg RW.RST_STAT) im.ecls t.time.dtime)
    let t := t.loadPolicy im.policy
    let t := if 3 ≤ kind ∧ kind ≤ 6 then t.abandonCalls.ledgAborts else t
    t.ledgStart.sdCheck

/-- Whether the role of the chip lets the image start at once, or a pair start or a cascade start comes first (R757, R765). -/
def State.single (s : State) : Bool := s.get R.RST_STRAP_ROLE = 0

/-! ## Image tries -/

/-- Read n words of a source from word address a: MRAM 0, flash 1, RAM 2. The error is an uncorrectable word or a flash timeout, or
that a flash word is not given. -/
def State.readImage (t : ImageTry) (src : Nat) : Nat → Nat → State → Option (List Word) × State
  | _, 0, s => (some [], s)
  | a, n + 1, s =>
    let (w, u) := if src = 0 then s.mramRead a 4 0
      else if src = 1 then ((if t.timeout = some (a - 0x800000) then none else t.words[a - 0x800000]?.map xipWord), s)
      else s.ramRead a 4 0
    match w with
    | none => (none, u)
    | some w =>
      match State.readImage t src (a + 1) n u with
      | (some l, v) => (some (w :: l), v)
      | (none, v) => (none, v)

/-- Copy n words of a source from word address a to RAM at d, up to the first that cannot be read (R153). -/
def State.copyImage (t : ImageTry) (src d : Nat) : Nat → Nat → State → Option (List Word) × State
  | _, 0, s => (some [], s)
  | a, n + 1, s =>
    match State.readImage t src a 1 s with
    | (some [w], u) =>
      match State.copyImage t src (d + 1) (a + 1) n (u.ramSet d w) with
      | (some l, v) => (some (w :: l), v)
      | (none, v) => (none, v)
    | (_, u) => (none, u)

/-- Where the header of a source stands (spec/04 The image header). -/
def imageBase (src : Nat) : Nat := if src = 0 then 0 else if src = 1 then 0x800000 else 0x100000

/-- Whether the body of n words lies wholly inside the source region, and a copy inside RAM (R153, R158, R645). Log entry 38, DEDUCED. -/
def State.imageFits (s : State) (src n : Nat) (load : Bool) (d : Nat) : Bool :=
  (if src = 0 then decide (16 + n ≤ 0x70000)
    else if src = 1 then decide (16 + n ≤ 0x400000) && !s.xipBad (0x800000 + 15 + n)
    else decide (16 + n ≤ 0x100000)) && (!load || decide (0x100000 ≤ d ∧ d + n ≤ 0x200000))

/-- The ROLEMASK bit of the role in force (R149). -/
def State.roleBit (s : State) : Nat :=
  match s.get R.RST_STRAP_ROLE with
  | 0 => 0
  | 1 => 1
  | 2 => 2
  | _ => if s.get R.PEER_CSSTAT_POS = 0 then 3 else 4

/-- The reserved bits of a header are zero, the version and length fields right (R149, R153). -/
def headerFormed (h : List Word) : Bool :=
  let w (k : Nat) : Word := h.getD k 0
  getBits (w 0) 16 8 == 1 && getBits (w 0) 0 16 == 0x10 && getBits (w 1) 0 24 != 0 && getBits (w 1) 25 7 == 0
    && (getBits (w 1) 24 1 == 1 || getBits (w 2) 24 24 == 0)
    && getBits (w 3) 2 6 == 0 && getBits (w 3) 13 3 == 0 && getBits (w 3) 20 4 == 0
    && (List.range 4).all (fun k => getBits (w (12 + k)) 32 16 == 0)

/-- The boot key as the boot ROM reads it (R152): none when a word of it reads uncorrectable; a word with more bits in error may be
read as any value. Log entry 16, DESIGN CHOICE. -/
def State.readKey (s : State) : Option (BitVec 128) × State :=
  let (e1, s) := s.mramRead 0x7FF00 4 0
  let (e2, s) := s.mramRead 0x7FF01 4 0
  let (e3, s) := s.mramRead 0x7FF02 4 0
  if e1.isNone || e2.isNone || e3.isNone then (none, s)
  else if [0x7FF00, 0x7FF01, 0x7FF02].any (fun a => decide (4 ≤ spGet (fun _ => 0) s.mem.mramErr a)) then
    (some (s.freeWord ++ (s.useFree).freeWord ++ (s.useFree 2).freeWord.extractLsb' 0 32), s.useFree 3)
  else (s.mem.bootKey, s)

/-- The tag of a header (R149). -/
def headerTag (h : List Word) : BitVec 128 :=
  let w (k : Nat) : BitVec 32 := (h.getD (12 + k) 0).extractLsb' 0 32
  w 0 ++ w 1 ++ w 2 ++ w 3

/-- The code of the first check that a header fails before anything of the body is read, none where it passes them (R153). Log entry 38,
DEDUCED. -/
def State.headerCode (s : State) (src : Nat) (h : List Word) : Option Nat :=
  let w (k : Nat) : Word := h.getD k 0
  let n := getBits (w 1) 0 24
  let load := getBits (w 1) 24 1 = 1
  let d := getBits (w 2) 24 24
  let first := if load then d else imageBase src + 16
  let entry := getBits (w 2) 0 24
  if getBits (w 0) 24 24 ≠ 0x4824B0 then some 2
  else if !headerFormed h ∨ (src = 2 ∧ load) then some 3
  else if !s.imageFits src n load d then some 4
  else if getBits (w 3) 16 4 ≠ 1 ∨ !(getBits (w 3) 8 5).testBit s.roleBit then some 5
  else if entry < first ∨ first + n ≤ entry then some 6
  else none

/-- The words that a try of the flash reads: the header, and the body where a copy or the CMAC needs it (R151 to R153). Log entry 38, DEDUCED. -/
def State.tryWords (s : State) (h : List Word) : Nat :=
  let load := getBits (h.getD 1 0) 24 1 = 1
  let key := s.on R.RST_KEYST_KEYSET
  if h.length < 16 ∨ (s.headerCode 1 h).isSome then 16
  else if load ∨ (key ∧ s.readKey.1.isSome) then 16 + getBits (h.getD 1 0) 0 24
  else 16

/-- A try of a source (R149 to R153): its code, the header, and the state. Log entry 31, PRESUMED. Log entry 38, DEDUCED. -/
def State.tryImage (s : State) (t : ImageTry) (src : Nat) : Nat × List Word × State :=
  let base := imageBase src
  match State.readImage t src base 16 s with
  | (none, u) => (8, [], u)
  | (some h, u) =>
    let n := getBits (h.getD 1 0) 0 24
    let load := getBits (h.getD 1 0) 24 1 = 1
    let d := getBits (h.getD 2 0) 24 24
    match u.headerCode src h with
    | some code => (code, h, u)
    | none =>
      let (body, u) := if load then State.copyImage t src d (base + 16) n u else (some [], u)
      match body with
      | none => (8, h, u)
      | some copy =>
        if !u.on R.RST_KEYST_KEYSET then (1, h, u)
        else match u.readKey with
          | (none, u) => (8, h, u)
          | (some key, u) =>
            let (b, u) := if load then (some copy, u) else State.readImage t src (base + 16) n u
            match b with
            | none => (8, h, u)
            | some b => if cmac key (h.take 12 ++ b) = headerTag h then (1, h, u) else (7, h, u)

/-- The field of RST_BOOTST with the code of a source's last try. -/
def bootCode (src : Nat) : Fld := if src = 0 then R.RST_BOOTST_FMRAM else if src = 1 then R.RST_BOOTST_FFLASH else R.RST_BOOTST_FHOST

/-- The end of a try with its code: the user starts, the pair or cascade start begins, or the next source is tried (R153). -/
def State.endTry (s : State) (src : Nat) (rest : List Nat) (code : Nat) (h : List Word) : State :=
  let t := s.put (bootCode src) code
  if code = 1 then
    let w (k : Nat) : Word := h.getD k 0
    let t := (t.put R.RST_BOOTST_SRC src).put R.RST_BOOTST_IMGVER (getBits (w 1) 32 16)
    let t := t.putB R.RST_BOOTST_UNAUTH (!t.on R.RST_KEYST_KEYSET)
    let im : Image := { entry := (w 2).extractLsb' 0 24, ecls := (w 3).extractLsb' 0 2, policy := (w 3).extractLsb' 24 24 }
    let t := t.modPwr (fun p => { p with boot := .accepted, image := some im, stepAt := t.time.dtime })
    if t.single then t.startUser else t
  else t.trySource rest

/-- IMAGE_TRY_END (R149 to R159): the try of a source ends; t holds what its reads of the flash gave. A try that read a flash word
that t does not give has not ended. Log entry 38, DEDUCED. -/
def execImageTryEnd (t : ImageTry) (s : State) : Host.Outcome State Fault Refusal :=
  match s.pwr.boot with
  | .trying src rest =>
    let n := s.tryWords ((t.words.take 16).map xipWord)
    if s.core.esc.isSome ∨ (src = 1 ∧ t.words.length < t.timeout.elim n (min n)) then done s
    else
      let r := s.tryImage t src
      done (r.2.2.endTry src rest r.1 r.2.1)
  | _ => done s

/-- RST_HOSTGO (R156, R157): the wait of a host try ends, or a further try starts in the boot-fail hold. -/
def State.hostGo (s : State) : State :=
  match s.pwr.boot with
  | .hostWait rest => s.modPwr (fun p => { p with boot := .trying 2 rest })
  | .failHold =>
    if s.get R.RST_STRAP_BOOT = 3 ∨ s.on R.RST_BOOTST_STRAPERR then s else s.modPwr (fun p => { p with boot := .trying 2 [] })
  | _ => s

/-- HOST_GO (R156, R157): a write of RST_HOSTGO with GO set. -/
def execHostGo (_m : Master) (s : State) : Host.Outcome State Fault Refusal := done s.hostGo

/-- The wait of a host try is over when HOSTTO milliseconds have passed since the try began (R157). -/
def State.hostTryEnd (s : State) : State :=
  match s.pwr.boot with
  | .hostWait rest =>
    if s.on R.RST_BOOTCFG_HOSTTO && s.get R.RST_STRAP_BOOT != 2 && s.core.esc.isNone
        && reached s.time.dtime (s.pwr.stepAt + Word.ofN (s.get R.RST_BOOTCFG_HOSTTO * 240000)) then
      (s.put R.RST_BOOTST_FHOST 9).trySource rest
    else s
  | _ => s

/-- HOST_TRY_TIMEOUT (R157). -/
def execHostTryTimeout (s : State) : Host.Outcome State Fault Refusal := done s.hostTryEnd

end Sys2Proof.Machine
end

