-- ==== Sys2Proof/Machine/Halt.lean ====
section
/-!
DEFINITION. Machine/Halt.lean: debug halts, register access, trace and the instructions of the test access port (spec/29), with their
commands.
-/
namespace Sys2Proof.Machine

def State.modDbg (s : State) (f : Debug → Debug) : State := { s with dbg := f s.dbg }

/-- The master reaches the DBG block: the debug port while debug access is open (R155, R783, R787). -/
def State.dbgOpen (s : State) (m : Master) : Bool := m = .debug && s.on R.RST_KEYST_OPEN

/-! ## Halts -/

/-- A breakpoint has hit in this beat (R794). -/
def State.bpNow (s : State) : Bool := getBits (spGet (fun _ => 0) s.now.w1c R.DBG_STAT_BPHIT.addr) R.DBG_STAT_BPHIT.lo R.DBG_STAT_BPHIT.len != 0
/-- MHALT (R790): CAUSE keeps the breakpoint of the same beat, and that of a halt in force (spec/29 At the edges). Log entry 79, DEDUCED. -/
def State.mhalt (s : State) : State := if s.bpNow || s.halted then s.put R.DBG_STAT_MH 1 else s.haltMachine 1
/-- RESUME ends the machine halt (R361, R790): what the halt froze goes on, and the courses whose start it held start. -/
def State.dbgResume (s : State) : State :=
  let cs := allCourses.filter (fun (c : Course) => s.stage.begin.getLsbD c.val)
  let t := { s.put R.DBG_STAT_MH 0 with stage := { s.stage with begin := 0 } }
  (cs.foldl (fun t c => t.startCourse c) t).refreshAll

/-- The halt of a strand ends: it returns to the state it held before (R197, R789); one that is RUNNABLE again has become so now (R204). -/
def State.releaseStrand (s : State) (i : StrandId) : State :=
  let x := s.strand i
  if x.state = .halted then
    ((s.setStrand i { x with
      state := x.heldFrom, stepping := false, key := if x.heldFrom = .runnable then s.time.dtime else x.key }).traceEv 9 i 0).checkC0
  else s

/-- The halt bits after a write of DBG_SHALT0 (lower) or DBG_SHALT1: a strand that has an instruction to issue halts at its next issue
opportunity, any other that is not FREE at once; a strand whose bit is clear is released (R789; log entry 50, DEDUCED). -/
def State.strandHalt (s : State) (hi : Bool) (v : Word) : State :=
  let t := if hi then s.put R.DBG_SHALT1_S (getBits v 0 16) else s.put R.DBG_SHALT0_S v.toNat
  ((List.finRange 64).filter (fun i => decide (48 ≤ i.val) == hi)).foldl
    (fun t i => if t.shalted i then (if t.runnable i then t else t.haltStrand i) else t.releaseStrand i) t

/-- STEP lets a strand in HALTED issue one instruction (R792). -/
def State.stepOne (s : State) (i : StrandId) : State :=
  if (s.strand i).state = .halted then s.modStrand i (fun x => { x with stepping := true }) else s

/-- A write of DBG_CTL (R790, R792). -/
def State.writeDbgCtl (s : State) (v : Word) : State :=
  let t := s.when (getBits v 0 1 == 1) State.mhalt
  let t := t.when (getBits v 1 1 == 1) State.dbgResume
  t.when (getBits v 2 1 == 1) (·.stepOne (strandOf (Word.ofN (getBits v 8 6))))

/-- MHALT (R787, R790): a write of DBG_CTL.MHALT. -/
def execMhalt (m : Master) (s : State) : Host.Outcome State Fault Refusal := done (if s.dbgOpen m then s.mhalt else s)
/-- DBG_RESUME (R787, R790): a write of DBG_CTL.RESUME. -/
def execDbgResume (m : Master) (s : State) : Host.Outcome State Fault Refusal := done (if s.dbgOpen m then s.dbgResume else s)
/-- STEP (R787, R792): a write of DBG_CTL.STEP. -/
def execStepStrand (m : Master) (i : StrandId) (s : State) : Host.Outcome State Fault Refusal := done (if s.dbgOpen m then s.stepOne i else s)
/-- STRAND_HALT (R787, R789): a write of DBG_SHALT0, or of DBG_SHALT1. -/
def execStrandHalt (m : Master) (hi : Bool) (v : Word) (s : State) : Host.Outcome State Fault Refusal :=
  done (if s.dbgOpen m then s.strandHalt hi v else s)

/-! ## Registers of a strand -/

/-- The strand that DBG_RSEL selects. -/
def State.selStrand (s : State) : StrandId := strandOf (Word.ofN (s.get R.DBG_RSEL_STRAND))

/-- A register of a strand by its index (R793). -/
def Strand.dbgReg (x : Strand) (k : Nat) : Word :=
  if k < 32 then x.rd (BitVec.ofNat 5 k)
  else match k with
    | 32 => (x.a0 >>> 48).setWidth 48
    | 33 => x.a0.setWidth 48
    | 34 => (x.a1 >>> 48).setWidth 48
    | 35 => x.a1.setWidth 48
    | 36 => x.pc.zeroExtend 48
    | _ => x.st.word

/-- Write a register of a strand by its index (R793). -/
def Strand.setDbgReg (x : Strand) (k : Nat) (v : Word) : Strand :=
  let hi (a : Acc) : Acc := (v.zeroExtend 96 <<< 48) ||| (a.setWidth 48).zeroExtend 96
  let lo (a : Acc) : Acc := ((a >>> 48) <<< 48) ||| v.zeroExtend 96
  if k < 32 then x.wr (BitVec.ofNat 5 k) v
  else match k with
    | 32 => { x with a0 := hi x.a0 }
    | 33 => { x with a0 := lo x.a0 }
    | 34 => { x with a1 := hi x.a1 }
    | 35 => { x with a1 := lo x.a1 }
    | 36 => { x with pc := v.setWidth 24 }
    | _ => { x with st := Status.ofWord v }

/-- What DBG_RDATA reads: the selected register of a strand in HALTED (R793), and no stated value of another (log entry 5, DESIGN CHOICE). -/
def State.dbgRdata (s : State) : Word × State :=
  let x := s.strand s.selStrand
  if x.state = .halted then (x.dbgReg (s.get R.DBG_RSEL_INDEX), s) else (s.freeWord, s.useFree)
/-- A write of DBG_RDATA (R793). -/
def State.writeRdata (s : State) (v : Word) : State :=
  if (s.strand s.selStrand).state = .halted then s.modStrand s.selStrand (fun x => x.setDbgReg (s.get R.DBG_RSEL_INDEX) v) else s

/-- DBG_RDATA_WRITE (R787, R793). -/
def execDbgRdataWrite (m : Master) (v : Word) (s : State) : Host.Outcome State Fault Refusal :=
  done (if s.dbgOpen m then s.writeRdata v else s)

/-- A read of DBG_TRPOP (R795). -/
def State.trpop (s : State) : Word × State :=
  match s.dbg.trace with
  | [] => (0xFFFFFFFFFFFF#48, s)
  | e :: rest => (e, s.modDbg (fun d => { d with trace := rest }))

/-- TRACE_POP (R787, R795). -/
def execTracePop (m : Master) (s : State) : Host.Outcome State Fault Refusal := done (if s.dbgOpen m then s.trpop.2 else s)

/-! ## The test access port -/

/-- Load an instruction: the pins follow the boundary register, or are off, only while EXTEST, CLAMP or HIGHZ is current (R785). -/
def State.tapLoad (s : State) (ir : BitVec 5) (held : Bool := false) (off : Bool := false) : State :=
  (s.modDbg (fun d => { d with ir := ir, pinsHeld := held, pinsOff := off, gatesOff := false })).refreshAll
/-- The port works in every power state except OFF (R782). -/
def State.tapOn (s : State) : Bool := s.pwr.mode != .off

/-- TAP_RESET (R782): IEEE 1149.1 makes IDCODE current. Log entry 10, PRESUMED. -/
def execTapReset (s : State) : Host.Outcome State Fault Refusal := done (if s.tapOn then s.tapLoad 0b00010 else s)

/-- EXTEST (R783, R785); it acts as BYPASS while debug access is closed. -/
def execTapExtest (s : State) : Host.Outcome State Fault Refusal :=
  if !s.tapOn then done s
  else if s.on R.RST_KEYST_OPEN then done ((s.haltMachine 4).tapLoad 0b00000 true)
  else done (s.tapLoad 0b11111)

/-- SAMPLE_PRELOAD (R783, R784): the boundary register holds the cells given once the pins are sampled and the cells loaded. -/
def execTapSamplePreload (pins : BitVec 450) (s : State) : Host.Outcome State Fault Refusal :=
  if !s.tapOn then done s
  else if s.on R.RST_KEYST_OPEN then done ((s.tapLoad 0b00001).modDbg (fun d => { d with boundary := pins }))
  else done (s.tapLoad 0b11111)

/-- IDCODE (R783): the port shifts out the identification code. -/
def execTapIdcode (s : State) : Host.Outcome State Fault Refusal :=
  if s.tapOn then done ((s.tapLoad 0b00010).out .debug .debugData [0x1482456B]) else done s

/-- CLAMP (R783, R785). -/
def execTapClamp (s : State) : Host.Outcome State Fault Refusal :=
  if !s.tapOn then done s
  else if s.on R.RST_KEYST_OPEN then done ((s.haltMachine 4).tapLoad 0b00011 true)
  else done (s.tapLoad 0b11111)

/-- HIGHZ (R783, R785). -/
def execTapHighz (s : State) : Host.Outcome State Fault Refusal :=
  if !s.tapOn then done s
  else if s.on R.RST_KEYST_OPEN then done ((s.haltMachine 4).tapLoad 0b00100 false true)
  else done (s.tapLoad 0b11111)

/-- BYPASS (R783). -/
def execTapBypass (s : State) : Host.Outcome State Fault Refusal := done (if s.tapOn then s.tapLoad 0b11111 else s)

/-- UNLOCK (R155, R783, R788): a part without an unlock code matches none. Log entry 37, DEDUCED. -/
def execTapUnlock (code : BitVec 64) (s : State) : Host.Outcome State Fault Refusal :=
  if !s.tapOn then done s
  else
    let t := s.tapLoad 0b10001
    if 3 ≤ s.get R.DBG_STAT_UFAIL then done t
    else if s.mem.unlockCode = some code then done (t.put R.RST_KEYST_OPEN 1)
    else done (t.bump R.DBG_STAT_UFAIL)

end Sys2Proof.Machine
end

