-- ==== Sys2Proof/Machine/Cascade.lean ====
section
/-!
DEFINITION. Machine/Cascade.lean: the cascade start and its alignment, the link's frames, loss of a follower and remote supervisor
calls (spec/28 R763 to R778, R781), with their commands.
-/
namespace Sys2Proof.Machine

def State.modLink (s : State) (f : Link → Link) : State := { s with link := f s.link }
/-- The lead of a cascade. -/
def State.lead (s : State) : Bool := s.cascade && s.chipPos == 0
/-- A follower of a cascade. -/
def State.follower (s : State) : Bool := s.cascade && s.chipPos != 0
/-- A port that the chip's role uses, while ports work (R111): the lead disables port A (R763, R812). -/
def State.portUsed (s : State) (portB : Bool) : Bool := s.cascade && s.watching && (portB || s.chipPos != 0)

/-! ## Start and alignment -/

/-- The census of C3 on the lead (R765). -/
def State.census (s : State) (pres aligned : BitVec 4) : State :=
  let t := ((s.put R.PEER_CSSTAT_PRES pres.toNat).put R.PEER_CSSTAT_ALIGNED aligned.toNat).assertEv 125
  (t.when (pres.toNat / 2 != 0) (·.put R.PEER_CSSTAT_LINKB 1)).modLink (fun l => { l with
    realign := false, served := Vector.replicate 4 none })

/-- C1 to C3 on a follower (R765, R777, R778): its link is up, its alignment shows, an aligned chip holds the trim and delay that it has
measured, which are free, it knows the positions present, and an all-off for the loss of its chain ends. Log entry 46, DESIGN CHOICE. -/
def State.joined (s : State) (pres : BitVec 4) (aligned : Bool) : State :=
  let s := s.modLink (fun l => { l with chain := pres, served := Vector.replicate 4 none })
  let t := (s.put R.PEER_CSSTAT_LINKA 1).put R.PEER_CSSTAT_ALIGNED (if aligned then 2 ^ s.chipPos else 0)
  let t := if aligned then
      ((t.useFree).put R.TIME_SYNC_REFTRIM (getBits s.freeWord 0 5)).put R.TIME_SYNC_SYNCDLY (getBits s.freeWord 8 8)
    else t
  (({ t with stage := { t.stage with lossOff := false } }).refreshAll).linkOut false .census [Word.ofN s.chipPos, if aligned then 1 else 0]

/-- CASCADE_START (R765, R778, R781): C1 to C3 have ended on this chip, before its user starts or in a later alignment; pres and
aligned are what the census gives. -/
def execCascadeStart (pres aligned : BitVec 4) (s : State) : Host.Outcome State Fault Refusal :=
  let booting := s.pwr.boot = .accepted
  if s.lead && (decide booting || s.link.realign) then
    let t := s.census pres aligned
    done (if booting then t.startUser else t)
  else if s.follower && (decide booting || (s.pwr.boot == .user && s.on R.PEER_CSSTAT_LINKA)) then
    let t := s.joined pres (aligned.getLsbD s.chipPos)
    done (if booting then t.startUser else t)
  else done s

/-- CHAINTO milliseconds have passed since a beat (R766, R781). -/
def State.chainPast (s : State) (t : Word) : Bool := reached s.time.dtime (t + Word.ofN (s.get R.PEER_CSCFG_CHAINTO * 240000))

/-- The start has not ended within CHAINTO of acceptance, and the chip starts anyway; after a wake the lead aligns without waiting further
(R766, R781). -/
def State.chainEnd (s : State) : State :=
  if s.cascade && s.pwr.boot == .accepted && s.chainPast s.pwr.stepAt then s.startUser
  else if s.lead && s.link.wakeAlign && s.chainPast s.link.alignAt then s.modLink (fun l => { l with realign := true, wakeAlign := false })
  else s

/-- CHAIN_TIMEOUT (R766, R781). -/
def execChainTimeout (s : State) : Host.Outcome State Fault Refusal := done s.chainEnd

/-- REALIGN (R778): the lead runs C1 to C3 again; with an alignment in progress, or on a follower, the write has no effect. -/
def State.realign (s : State) : State :=
  if s.lead && s.pwr.boot == .user && !s.link.realign then s.modLink (fun l => { l with realign := true }) else s
/-- REALIGN (R778): a write of PEER_CSCMD.REALIGN. -/
def execCascadeRealign (_m : Master) (s : State) : Host.Outcome State Fault Refusal := done s.realign

/-- PORT_TRAINED (R765, R781). -/
def execPortTrained (portB : Bool) (s : State) : Host.Outcome State Fault Refusal :=
  if s.portUsed portB then
    let t := s.put (if portB then R.PEER_CSSTAT_LINKB else R.PEER_CSSTAT_LINKA) 1
    done (t.when (s.lead && s.link.wakeAlign) (·.modLink (fun l => { l with realign := true, wakeAlign := false })))
  else done s

/-! ## Frames -/

/-- LINK_FRAME_CRC_ERROR (R768). -/
def execLinkFrameCrcError (portB : Bool) (s : State) : Host.Outcome State Fault Refusal :=
  if s.portUsed portB then done ((s.bump R.PEER_CSCNT_CRCERR).out (if portB then .peerB else .peerA) .nak []) else done s

/-- CASCADE_NAK (R768): the last frame of the port is retransmitted, once. -/
def execCascadeNak (portB : Bool) (s : State) : Host.Outcome State Fault Refusal :=
  match s.portUsed portB, (if portB then s.link.lastB else s.link.lastA) with
  | true, some (m, false) =>
    done (({ s with sent := m :: s.sent }.bump R.PEER_CSCNT_RETX).modLink
      (fun l => if portB then { l with lastB := some (m, true) } else { l with lastA := some (m, true) }))
  | _, _ => done s

/-! ## Loss -/

/-- The lead marks position n and those behind it lost (R776). -/
def State.markLost (s : State) (n : Nat) : State :=
  let m := 16 - 2 ^ n
  let keep (v : Nat) : Nat := v &&& (2 ^ n - 1)
  let pres := s.get R.PEER_CSSTAT_PRES
  if keep pres = pres ∧ s.get R.PEER_CSSTAT_LOST &&& m = m then s
  else
    (((s.put R.PEER_CSSTAT_PRES (keep pres)).put R.PEER_CSSTAT_ALIGNED (keep (s.get R.PEER_CSSTAT_ALIGNED))).orF R.PEER_CSSTAT_LOST m).assertEv 125

/-- An operation is a remote access that has been sent through a port. -/
def State.sentThrough (s : State) (portB : Bool) (o : Op) : Bool :=
  match o.body, o.stage with
  | .remote _ p _ _, .begun => decide (s.chipPos < p.val) == portB
  | _, _ => false

/-- PORT_DOWN (R305, R333, R775 to R777): accesses sent through the port complete LINKDOWN, which does not tell whether they were performed. -/
def execPortDown (portB : Bool) (s : State) : Host.Outcome State Fault Refusal :=
  if !s.portUsed portB then done s
  else
    let t := (s.put (if portB then R.PEER_CSSTAT_LINKB else R.PEER_CSSTAT_LINKA) 0).modLink (fun l => { l with served := Vector.replicate 4 none })
    let t := (s.core.ops.filter (s.sentThrough portB)).foldl (fun t o => t.finishOp o.id 0 4 0 3) t
    if !portB then done t.lossReaction
    else if s.chipPos = 0 then done (t.markLost 1)
    else done (t.linkOut false .loss [Word.ofN (s.chipPos + 1)])

/-- LOSS_REPORT (R767, R776): the lead acts on it, a follower forwards it. -/
def execLossReport (p : Chip) (s : State) : Host.Outcome State Fault Refusal :=
  if p.val = 0 ∨ !s.portUsed true then done s
  else if s.chipPos = 0 then done (s.markLost p.val)
  else done (s.linkOut false .loss [Word.ofN p.val])

/-! ## Remote supervisor calls -/

/-- The token of the last accepted GO, none before the first (R773). Log entry 46, DESIGN CHOICE. -/
def State.rsvcTok (s : State) : Option Nat :=
  match s.sup.rsvc with
  | some (t, _) => some t.toNat
  | none => if s.on R.PEER_RSVCST_DONE || s.on R.PEER_RSVCST_TOK then some (s.get R.PEER_RSVCST_TOK) else none

/-- A call that has ended answers in one beat (R774). -/
def State.remoteAnswer (s : State) : State :=
  match s.on R.PEER_RSVCST_BUSY, s.sup.rsvc with
  | true, some (tok, some w) =>
    ((((s.setReg RW.PEER_RSVCRES w).put R.PEER_RSVCST_TOK tok.toNat).put R.PEER_RSVCST_DONE 1).put R.PEER_RSVCST_BUSY 0).assertEv 125
  | _, _ => s

/-- A write of PEER_RSVCGO (R773), after a completion of its beat (spec/28 At the edges): from position 0 on a follower; no other master's
write passes a call. Without a user program no policy is loaded and the call is refused; the strand of its record, and the conditions present
at a CLEAR, are free. Log entry 46, DESIGN CHOICE. -/
def State.writeRsvcgo (s : State) (m : Master) (v : Word) : State :=
  let s := s.remoteAnswer
  let tok := getBits v 12 4
  if m ≠ .remote 0 ∨ !s.follower ∨ s.rsvcTok = some tok then s
  else if s.on R.PEER_RSVCST_BUSY then s.put R.PEER_CSSTAT_RSVCREJ 1
  else
    let t := s.put R.PEER_RSVCST_BUSY 1
    let r (x : Option Word) (t : State) : State := t.modSup (fun y => { y with rsvc := some (BitVec.ofNat 4 tok, x) })
    if s.pwr.boot ≠ .user then r (some 1) t
    else if 16 ≤ s.svcPending then r (some 2) t
    else
      ((r none t).useFree).svcCall .remote (getBits s.freeWord 0 6) (getBits v 0 12) (s.reg RW.PEER_RSVCA) (s.reg RW.PEER_RSVCB)
        (getBits s.freeWord 8 13)

/-- RSVCGO (R770, R773). -/
def execRsvcgo (m : Master) (v : Word) (s : State) : Host.Outcome State Fault Refusal := done (s.writeRsvcgo m v)

/-- REMOTE_CALL_COMPLETE (R774). -/
def execRemoteCallComplete (s : State) : Host.Outcome State Fault Refusal := done s.remoteAnswer

/-- What falls due of a cascade in a beat comes about by its end (R766, R774, R781). -/
def State.chainDue (s : State) : State := s.chainEnd.remoteAnswer

end Sys2Proof.Machine
end

