-- ==== Sys2Proof/Machine/Periph.lean ====
section
/-!
DEFINITION. Machine/Periph.lean: what a write and a read of a register word do, block by block (R16, R20, R258, R814, R815): the access
codes field by field, and the effects and refusals that the chapters give single registers.
-/
namespace Sys2Proof.Machine

/-- The state after a command's meaning. -/
def State.via (s : State) (f : State → Host.Outcome State Fault Refusal) : State :=
  match f s with
  | .next t => t
  | _ => s

/-- Bit k of a written word. -/
def bitOf (v : Word) (k : Nat) : Bool := v.getLsbD k

/-- A bit of a WO field starts an action. -/
def State.act (s : State) (v : Word) (k : Nat) (f : State → Host.Outcome State Fault Refusal) : State := s.when (bitOf v k) (·.via f)

/-! ## Writes, block by block -/

/-- SYS: COUNT of SYS_CONFLICT clears with VALID; the refusals of this beat are recorded after it (R17, R58). -/
def State.writeSys (s : State) (a : Nat) (v : Word) : State :=
  let t := s.writePlain a v
  if a = RW.SYS_CONFLICT ∧ bitOf v 0 then
    match s.now.refusal with
    | some r => t.showRefusal r.1 r.2.1 r.2.2.1 r.2.2.2
    | none => t.put R.SYS_CONFLICT_COUNT 0
  else t

/-- TIME: a boundary that NTIME has reached in the beat in which TP_EN is set produces no pulse (R98). -/
def State.writeTimeReg (s : State) (a : Nat) (v : Word) : State :=
  let t := s.writePlain a v
  t.when (!s.on R.TIME_NTCTL_TP_EN && t.on R.TIME_NTCTL_TP_EN && !s.time.tpHigh) (·.modTime (fun x => { x with tpDue := false }))

/-- Whether the Hall settings leave every LPINTd greater than HON + 2 (R132). -/
def hallTimes (halllp hsup : Word) : Bool := [0, 12, 24, 36].all (fun lo => decide (getBits hsup 8 5 + 2 < getBits halllp lo 12))

/-- PWR: requests, the vote, and the Hall settings of R132. -/
def State.writePwr (s : State) (a : Nat) (v : Word) : State :=
  let new := writeFields ((regRow a).elim [] (·.fields)) (s.reg a) v
  if a = RW.PWR_CTL then s.request (getBits v 0 3)
  else if a = RW.PWR_HALLLP then (if hallTimes new (s.reg RW.PWR_HSUP) then s.writePlain a v else s)
  else if a = RW.PWR_HSUP then (if hallTimes (s.reg RW.PWR_HALLLP) new then s.writePlain a v else s)
  else if a = RW.PWR_RVCMD then (s.act v 0 (execQueryRest .debug (bitOf v 1))).act v 2 (execAbortRest .debug)
  else (s.writePlain a v).voteCheck

/-- RST: SWR and FAULTOUT, and HOSTGO. -/
def State.writeRst (s : State) (m : Master) (a : Nat) (v : Word) : State :=
  if a = RW.RST_CTL then s.via (execSoftwareReset m v)
  else if a = RW.RST_HOSTGO then s.when (bitOf v 0) (·.hostGo)
  else s.writePlain a v

/-- The enable of a fence's owner (R818). -/
def State.fenceInUse (s : State) (owner : Nat) : Bool :=
  engines.any (fun n => (owner == 0x10 + n.val && s.on (R.AQ_CFG_EN n)) || (owner == 0x20 + n.val && s.on (R.FE_CFG_EN n)))

/-- A write of MEM_FENCEn (R20, R193, R194). -/
def State.writeFence (s : State) (n : Nat) (v : Word) : State :=
  let a := RW.MEM_FENCE n
  let o := getBits v 40 8
  let known := o = 0 || o = 1 || engines.any (fun e => o == 0x10 + e.val || o == 0x20 + e.val)
  let v := if known then v else setBits v 40 8 (s.get (R.MEM_FENCE_OWNER n))
  let t := s.writePlain a v
  let f := t.fence n
  let meets (k : Nat) : Bool :=
    let g := s.fence k
    k != n && t.fenceOn n && s.fenceOn k && decide (f.1 < g.1 + g.2.1 ∧ g.1 < f.1 + f.2.1)
  let past := f.2.1 != 0 && decide (0x200000 < f.1 + f.2.1)
  if (List.range 8).any meets || past || (s.fence n != f && s.fenceInUse (s.get (R.MEM_FENCE_OWNER n))) then s.conflict 4 n f.2.2 else t

/-- MEM: fences, the journal request, and the write-once region. -/
def State.writeMemReg (s : State) (a : Nat) (v : Word) : State :=
  let o := a - RW.MEM_ERRCNT
  if 0x10 ≤ o then s.writeFence (o - 0x10) v
  else match o with
    | 5 => (s.writePlain a v).when (bitOf v 16) (·.journal 2)
    | 7 => if getBits v 0 2 = 0 then s else s.writeOnce (BitVec.ofNat 2 (getBits v 0 2))
    | 8 => s.modMem (fun m => { m with woData := m.woData.set 0 v })
    | 9 => s.modMem (fun m => { m with woData := m.woData.set 1 v })
    | 10 => s.modMem (fun m => { m with woData := m.woData.set 2 v })
    | 11 => s.act v 0 (execClrcnt .debug)
    | 1 => (s.writePlain a v).rerecord R.MEM_ERRADDR_VALID
    | _ => s.writePlain a v

/-- Word k of a set of 256 lines (R209). -/
def lineWord (b : BitVec 256) (k : Nat) : Word := (b >>> (48 * k)).setWidth 48
/-- The set with word k replaced. -/
def setLineWord (b : BitVec 256) (k : Nat) (v : Word) : BitVec 256 :=
  (b &&& ~~~(((2 ^ 48 - 1 : Nat) : BitVec 256) <<< (48 * k))) ||| (v.setWidth 256 <<< (48 * k))

/-- The strand and the word of one of its registers: the wait mask and status, the pending set, the fault record. -/
def strandAt (a base stride : Nat) : StrandId × Nat := (⟨(a - base) / stride % 64, Nat.mod_lt _ (by decide)⟩, (a - base) % stride)

/-- A write of a strand's registers (R195, R209, R214, R322): clearing a mask bit clears its pending bit. -/
def State.writeStrandReg (s : State) (m : Master) (a : Nat) (v : Word) : State :=
  let user := masterIsUser m
  if a < 0x405300 then
    let (i, k) := strandAt a 0x405100 8
    if user && isSup i then s
    else if k = 0 then s.when (bitOf v 9) (·.modStrand i (fun x => { x with evMerge := false }))
    else s.modStrand i (fun x => { x with mask := setLineWord x.mask (k - 1) v, pend := x.pend &&& setLineWord (BitVec.allOnes 256) (k - 1) v })
  else if a < 0x405500 then
    let (i, k) := strandAt a 0x405300 8
    if user && isSup i then s
    else s.modStrand i (fun x => { x with pend := setLineWord x.pend k (lineWord x.pend k &&& ~~~v) })
  else
    let (i, k) := strandAt a 0x405500 2
    if (user && isSup i) || (s.strand i).state != .faulted || m = .strand i then s
    else if k = 0 then s.modStrand i (fun x => { x with flt := { x.flt with resv := bitOf v 7 } })
    else s.modStrand i (fun x => { x with flt := { x.flt with respc := BitVec.ofNat 24 (getBits v 24 24) } })

/-- SCH. -/
def State.writeSch (s : State) (m : Master) (a : Nat) (v : Word) : State :=
  if 0x405100 ≤ a ∧ a < 0x405600 then s.writeStrandReg m a v
  else if a = RW.SCH_EVSET then s.assertLines (v.setWidth 256)
  else if a = RW.SCH_WDCFG then s.writeWdcfg v
  else if a = RW.SCH_WDKICK then s.wdKick m v
  else s.writePlain a v

/-- The course of an address in a block with one stride for each course. -/
def courseAt (a base stride : Nat) : Course := ⟨(a - base) / stride % 8, Nat.mod_lt _ (by decide)⟩

/-- PWMc (R360, R571, R574): what the arrangement does not give a user strand has no effect and sets WREJ, the status words, which the table of
R571 does not name, in every arrangement but USER among them (log entry 51, DEDUCED). -/
def State.writePwm (s : State) (m : Master) (a : Nat) (v : Word) : State :=
  let c := courseAt a 0x408000 0x200
  let o := (a - 0x408000) % 0x200
  let split := (decide (2 ≤ o) && decide (o ≤ 5)) || o == 0x12 || (decide (0x14 ≤ o) && decide (o ≤ 0x1B))
  if o = 0x12 then s.writeMcmd m c v
  else if s.barred m c split then s.put (R.PWM_STAT_WREJ c) 1
  else if o = 0xA ∨ o = 0xB ∨ o = 0xC ∨ o = 0x13 ∨ o = 0x1D then s.writePlain a v
  else match o with
    | 6 => s.writeAuxown c v
    | 9 => s.writeSync c v
    | 0x10 => s.writeOut c v
    | 0x1C => s.writeSshunt c v
    | _ => (s.writePlain a v).refresh c

/-- PWM_GSTART and PWM_GAT (R348 to R350, R360): a PWM_GAT refused for courses under the supervisor alone shows at each of them. -/
def State.writePwmG (s : State) (m : Master) (a : Nat) (v : Word) : State :=
  if a = RW.PWM_GSTART then s.writeGstart m v
  else
    let sup := allCourses.filter (fun c => s.arr c == 0)
    if masterIsUser m && !sup.isEmpty then sup.foldl (fun t (c : Course) => t.put (R.PWM_STAT_WREJ c) 1) s else s.writePlain a v

/-- GDRV (R389, R394, R404 to R406). -/
def State.writeGdrv (s : State) (m : Master) (a : Nat) (v : Word) : State :=
  let o := a - 0x40A000
  if o < 4 then s.writeDomCtl ⟨o % 4, Nat.mod_lt _ (by decide)⟩ v
  else if a = RW.GDRV_SRC then s.writeSrc m v
  else if 0x10 ≤ o ∧ o < 0x28 then
    let h : HB := ⟨(o - 0x10) % 24, Nat.mod_lt _ (by decide)⟩
    if s.barred m (courseOf h) false && s.changes a v 0 then s.put R.GDRV_STAT_WREJ 1 else s.writePlain a v
  else if 0x30 ≤ o ∧ o < 0x38 then s.writeSgc m (courseAt a 0x40A030 1) v
  else if a = RW.GDRV_GFLT ∧ bitOf v 0 then ((s.writePlain a v).put R.GDRV_GFLT_COUNT 0).rerecord R.GDRV_GFLT_VALID
  else s.writePlain a v

/-- PROT (R418, R419, R432, R435): which conditions a clear finds present is free (log entry 52, DESIGN CHOICE). -/
def State.writeProt (s : State) (m : Master) (a : Nat) (v : Word) : State :=
  let o := a - 0x40B000
  if o < 0x80 then
    let c := courseAt a 0x40B000 0x10
    let k := o % 0x10
    if 5 ≤ k then s
    else if s.barred m c false then s.put R.PROT_STAT_WREJ 1
    else match k with
      | 3 => s.writeBlk c v
      | 4 => s.when (bitOf v 0) (fun t => (t.useFree).clearProt c (getBits t.freeWord 0 13))
      | _ => s.writePlain a v
  else if a = RW.PROT_FREC ∧ bitOf v 0 then ((s.writePlain a v).put R.PROT_FREC_COUNT 0).rerecord R.PROT_FREC_VALID
  else s.writePlain a v

/-- FADC. -/
def State.writeFadc (s : State) (m : Master) (a : Nat) (v : Word) : State :=
  if a = RW.FADC_CTL then (s.writeFadcCtl v).act v 1 (execQdclr m)
  else if a = RW.FADC_SCTL then (s.writePlain a v).act v 5 (execScanGo m)
  else if a = RW.FADC_DACOWN then s.writeDacOwn v
  else if a = RW.FADC_DAC then s.writeDac v
  else s.writePlain a v

/-- ICONV. -/
def State.writeIconv (s : State) (m : Master) (a : Nat) (v : Word) : State :=
  match a - RW.ICONV_IC0CFG with
  | 0 => s.writeIc0 v
  | 1 => (s.writeIc1 v).act v 2 (execIc1PassGo m)
  | 2 => s.writeIc1Mask v
  | 6 => s.via (execCounterLoad m false v)
  | 7 => s.via (execCounterLoad m true v)
  | 10 => s.writeTst v
  | _ => s.writePlain a v

/-- FILT (R504, R505, R509, R512, R569): a held engine takes no store of a user strand. -/
def State.writeFe (s : State) (m : Master) (a : Nat) (v : Word) : State :=
  let n : Engine := ⟨(a - 0x40E000) / 0x20 % 4, Nat.mod_lt _ (by decide)⟩
  if masterIsUser m && s.feHeld n then s.put R.SYS_SVGLB_FEREJ 1
  else match (a - 0x40E000) % 0x20 with
    | 0 => s.writeFeCfg n v
    | 1 => s.writeFeIo n a v
    | 2 => ((s.writePlain a v).act v 2 (execBankLoad m n)).act v 1 (execBankSwap m n)
    | 3 => s.writeFeIo n a v
    | 5 => s.writeFeDcfg n v
    | _ => s.writePlain a v

/-- ACQ; several bits of one AQn_CMD write act in the order STOP, ARM, FORCE (log entry 53, DESIGN CHOICE). -/
def State.writeAcq (s : State) (m : Master) (a : Nat) (v : Word) : State :=
  if a = RW.AQ_GARM then s.act v 0 (execGlobalArmGo m)
  else if 0x40F080 ≤ a then s.writePlain a v
  else
    let n : Engine := ⟨(a - 0x40F000) / 0x20 % 4, Nat.mod_lt _ (by decide)⟩
    let o := (a - 0x40F000) % 0x20
    match o with
    | 0 => s.writeAqCfg n v
    | 3 => ((s.act v 1 (execAqStop m n)).act v 0 (execAqArm m n)).act v 2 (execAqForce m n)
    | 4 => s.writePlain a v
    | 10 => s.writePlain a v
    | _ => s.writeAq n o v

/-- POS and TC (R522, R523). -/
def State.writePosReg (s : State) (m : Master) (a : Nat) (v : Word) : State :=
  if 0x410100 ≤ a then
    (if (a - 0x410100) % 0x10 = 0 then s.writeTcCfg ⟨(a - 0x410100) / 0x10 % 16, Nat.mod_lt _ (by decide)⟩ v else s)
  else
    let c := courseAt a 0x410000 0x10
    match (a - 0x410000) % 0x10 with
    | 0 => s.writePosCfg m c v
    | 2 => s.writePosSet m c v
    | 3 => s.writePosAdd m c v
    | _ => s.writePlain a v

/-- RSV. -/
def State.writeRsv (s : State) (m : Master) (a : Nat) (v : Word) : State :=
  if a = RW.RSV_OWCFG then (s.writePlain a v).act v 0 (execSenseWireCheckGo m)
  else if a = RW.RSV_SDCTL then s.writeSdctl v
  else s.writePlain a v

/-- XSP. -/
def State.writeXsp (s : State) (m : Master) (a : Nat) (v : Word) : State :=
  if a = RW.XSP_CTL then s.writeXspCtl v
  else if a = RW.XSP_XTPL then s.writeXtpl v
  else if a = RW.XSP_LOCK then s.writeXspLock v
  else if a = RW.XSP_SFCTL then s.act v 0 (execSoftwareFrameGo m)
  else s.writePlain a v

/-- CAN (R663, R668, R674, R678): the bit timings are accepted in CONFIG only. -/
def State.writeCan (s : State) (m : Master) (a : Nat) (v : Word) : State :=
  if a = RW.CAN_CTL then ((s.writeCanCtl v).act v 4 (execCanRecover m)).tryWakeTx
  else if a = RW.CAN_NBT ∨ a = RW.CAN_DBT then s.when (s.get R.CAN_CTL_MODE == 1) (·.writePlain a v)
  else if a = RW.CAN_TXABORT then s.via (execCanTxAbort m (v.setWidth 8))
  else if a = RW.CAN_WAKETX then (s.writePlain a v).act v 0 (execCanWakeTransmit m)
  else s.writePlain a v

/-- LIN (R20, R682). -/
def State.writeLin (s : State) (m : Master) (a : Nat) (v : Word) : State :=
  if a = RW.LIN_CTL then
    (s.writePlain a (if getBits v 0 2 = 3 then setBits v 0 2 (s.get R.LIN_CTL_MODE) else v)).act v 25 (execLinWake m)
  else s.writePlain a v

/-- LEDG. -/
def State.writeLedg (s : State) (a : Nat) (v : Word) : State :=
  if a = RW.LEDG_STEP then s.writeLedgStep v else if a = RW.LEDG_END then s.writeLedgEnd v else s.writePlain a v

/-- A write of PEER_TWCMD.HANDOVER on a primary in ACTIVE (R751). -/
def State.handoverGo (s : State) : State :=
  if s.active && s.twin.handover.isNone then s.modTwin (fun x => { x with handover := some (s.time.dtime + 2) }) else s

/-- PEER (R751, R772, R773, R778): a remote store of the issuer's own mailbox asserts the PEER line. -/
def State.writePeer (s : State) (m : Master) (a : Nat) (v : Word) : State :=
  if a = RW.PEER_TWCMD then s.when (bitOf v 0) (·.handoverGo)
  else if a = RW.PEER_CSCMD then s.when (bitOf v 0) (·.realign)
  else if a = RW.PEER_RSVCGO then s.writeRsvcgo m v
  else
    let t := s.writePlain a v
    match m with
    | .remote p => t.when (a == RW.PEER_CSMB p.val) (·.assertEv 125)
    | _ => t

/-- The present owner of a GPIO ball is enabled (R806). Log entry 26, DEDUCED. -/
def State.ballInUse (s : State) (n : Nat) : Bool :=
  let o := s.get (R.GPIO_FUNC_FUNC n)
  (o == 0 && s.on (R.GPIO_FUNC_OE n))
    || (o == 1 && s.get (R.SRC (n % 24)) == 1)
    || (o == 2 && s.on R.XSP_STAT_SFBUSY && s.get R.XSP_SFCFG_SEL == 0x40 + n)

/-- A write of GPIO_FUNCn (R20, R53, R405, R653, R805, R806). Log entry 26, DEDUCED. -/
def State.writeGpio (s : State) (n : Nat) (v : Word) : State :=
  let a := RW.GPIO_FUNC n
  let oe := bitOf v 8
  let s := if oe then s else s.put (R.GPIO_FUNC_OE n) 0
  let old := s.get (R.GPIO_FUNC_FUNC n)
  let f := if getBits v 0 8 ≤ 2 then getBits v 0 8 else old
  if f ≠ old ∧ s.ballInUse n then s.conflict 1 n f
  else
    let t := s.writePlain a (setBits (setBits v 0 8 f) 8 1 0)
    if !oe then t
    else if f = 0 then t.put (R.GPIO_FUNC_OE n) 1
    else t.conflict 1 n 0

/-- DBG: only the debug port reaches this block (R787). -/
def State.writeDbg (s : State) (a : Nat) (v : Word) : State :=
  if a = RW.DBG_CTL then s.writeDbgCtl v
  else if a = RW.DBG_SHALT0 then s.strandHalt false v
  else if a = RW.DBG_SHALT1 then s.strandHalt true v
  else if a = RW.DBG_RDATA then s.writeRdata v
  else s.writePlain a v

/-- A write of the register at address a by a master (R258, R814); no register, no effect. -/
def State.writeReg (s : State) (m : Master) (a : Nat) (v : Word) : State :=
  if (regRow a).isNone then s
  else match a / 0x1000 with
    | 0x400 => s.writeSys a v
    | 0x401 => s.writeTimeReg a v
    | 0x402 => s.writePwr a v
    | 0x403 => s.writeRst m a v
    | 0x404 => s.writeMemReg a v
    | 0x405 => s.writeSch m a v
    | 0x408 => s.writePwm m a v
    | 0x409 => s.writePwmG m a v
    | 0x40A => s.writeGdrv m a v
    | 0x40B => s.writeProt m a v
    | 0x40C => s.writeFadc m a v
    | 0x40D => s.writeIconv m a v
    | 0x40E => s.writeFe m a v
    | 0x40F => s.writeAcq m a v
    | 0x410 => s.writePosReg m a v
    | 0x411 => s.writeRsv m a v
    | 0x413 => s.writeXsp m a v
    | 0x414 => s.writeCan m a v
    | 0x415 => s.writeLin m a v
    | 0x416 => s.writeLedg a v
    | 0x417 => s.writePeer m a v
    | 0x418 => if a < RW.GPIO_IN then s.writeGpio (a - 0x418000) v else s
    | 0x41F => s.writeDbg a v
    | _ => s.writePlain a v

/-! ## Reads -/

/-- The code of a strand's state (R197). -/
def StrandState.code : StrandState → Nat
  | .free => 0
  | .runnable => 1
  | .waiting => 2
  | .parked => 3
  | .faulted => 4
  | .halted => 5
  | .draining => 6

/-- SCH_Ss_STAT (R195, R197, R207, R210). -/
def State.strandStat (s : State) (i : StrandId) : Word :=
  let x := s.strand i
  packWord [(x.state.code, 0), (x.cls.toNat, 4), ((s.opsOf i).length, 6), ((isSup i).toNat, 8), (x.evMerge.toNat, 9), (x.pc.toNat, 24)]

/-- SCH_Ss_FLT0 and SCH_Ss_FLT1 (R320 to R322). -/
def FaultRec.word0 (f : FaultRec) : Word :=
  packWord [(f.cause.toNat, 0), (f.defer.toNat, 4), (f.fetch.toNat, 5), (f.more.toNat, 6), (f.resv.toNat, 7), (f.ipc.toNat, 24)]
def FaultRec.word1 (f : FaultRec) : Word := packWord [(f.ea.toNat, 0), (f.respc.toNat, 24)]

/-- A strand's registers as they read. -/
def State.readStrandReg (s : State) (a : Nat) : Word :=
  if a < 0x405300 then
    let (i, k) := strandAt a 0x405100 8
    if k = 0 then s.strandStat i else lineWord (s.strand i).mask (k - 1)
  else if a < 0x405500 then
    let (i, k) := strandAt a 0x405300 8
    lineWord (s.strand i).pend k
  else
    let (i, k) := strandAt a 0x405500 2
    if k = 0 then (s.strand i).flt.word0 else (s.strand i).flt.word1

/-- The reader's copy of the latch of R96: after POR the uncertainty is unknown (R87). -/
def State.ntCopy (s : State) (m : Master) : Word × Word := ((s.time.ntLatch.find? (fun p => p.1 == readerOf m)).map (·.2)).getD
  (0, 0xFFFFFFFF#48)

/-- The mirrors of SYS_GSTAT (R529, and the flags of chapters 15, 16 and 25). -/
def State.gstat (s : State) : Word :=
  let w := setBits (s.reg RW.SYS_GSTAT) 0 8 s.uncBits
  let w := setBits w 8 1 (s.get R.ICONV_STAT_CHG_GAP)
  let w := setBits w 9 1 (s.get R.LEDG_STAT_LOST)
  setBits w 10 1 (if s.reg RW.FADC_QDROP = 0 then 0 else 1)

/-- Words whose value is the state of a part, without an effect of the read; other words read as they are held. -/
def State.peekReg (s : State) (m : Master) (a : Nat) : Word :=
  let w := s.reg a
  if 0x405100 ≤ a ∧ a < 0x405600 then s.readStrandReg a
  else match a with
    | 0x400010 => s.gstat
    | 0x400021 => setBits w 32 5 (min s.svcPending 31)
    | 0x401002 => s.time.dtime
    | 0x401003 => Word.ofN s.ntMicro
    | 0x401004 => (s.ntCopy m).1
    | 0x401005 => (s.ntCopy m).2
    | 0x401009 => Word.ofN s.aoK
    | 0x404003 => packWord [(s.mem.slots.length, 0), ((s.mem.persists.any (fun p => match p.owner with | .shadow _ => true | _ => false)).toNat, 10)]
    | 0x405000 => packWord [(s.core.ops.length, 0), (s.core.prevC0, 8), (s.core.prevRun, 16)]
    | 0x40500A => setBits w 0 16 s.wdMs
    | 0x40C001 => setBits w 1 1 s.calHold.toNat
    | 0x40C013 => s.qPeek
    | 0x411006 => setBits (setBits w 0 2 s.chgst) 11 4 s.balon
    | 0x413008 => setBits w 8 8 s.xipValid
    | 0x414000 => if s.follower then setBits w 0 3 0 else if s.shadowing then setBits w 0 3 3 else w
    | 0x415000 => if s.follower then setBits w 0 2 0 else w
    | 0x416009 => s.qdata 0
    | 0x41600A => s.qdata 1
    | 0x41600B => s.qdata 2
    | 0x41600C => s.qdata 3
    | 0x41600D => s.crcnt
    | 0x417004 => if s.isTwin then s.phys else w
    | 0x417006 => setBits w 0 12 (min s.twinFill 4095)
    | 0x418030 => s.gpioIn
    | _ => w

/-- A read of TCn_POP or TCn_AUX by a master (R537). -/
def State.readTc (s : State) (m : Master) (a : Nat) : Word × State :=
  let n : Fin 16 := ⟨(a - 0x410100) / 0x10 % 16, Nat.mod_lt _ (by decide)⟩
  match (a - 0x410100) % 0x10 with
  | 1 => (s.tcPeek n, s.via (execCapturePop m n))
  | 2 => ((((s.cap n).aux.find? (fun p => p.1 == readerOf m)).map (·.2)).getD 0, s)
  | _ => (s.reg a, s)

/-- A load of the register word at address a by a master (R16, R258, R814): its value and the state after the read. A read of a charge counter
sees what has been counted (R484, R486). -/
def State.readReg (s : State) (m : Master) (a : Nat) : Word × State :=
  if a = RW.TIME_NTIME then (Word.ofN s.ntMicro, s.latchNt m)
  else if a = RW.FADC_QPOP then s.qpop m
  else if a = RW.ICONV_QRSV then ((s.icPart false).reg a, s.icPart false)
  else if a = RW.ICONV_QBAT then ((s.icPart true).reg a, s.icPart true)
  else if 0x410100 ≤ a ∧ a < 0x410200 then s.readTc m a
  else if a = RW.DBG_RDATA then s.dbgRdata
  else if a = RW.DBG_TRPOP then s.trpop
  else if 0x418000 ≤ a ∧ a < RW.GPIO_IN then (setBits (s.reg a) 11 1 (s.gpioIn.getLsbD (a - 0x418000)).toNat, s)
  else (s.peekReg m a, s)

end Sys2Proof.Machine
end

