-- ==== Sys2Proof/Machine/Access.lean ====
section
/-!
DEFINITION. Machine/Access.lean: accesses that masters make: the order of peripheral transactions (spec/06 R224, spec/09 R303), the host
serial port (spec/22), remote accesses to this chip (spec/28 R769, R770), the debug port (spec/29 R786, R787), and GPIO inputs.
-/
namespace Sys2Proof.Machine

/-- From the start of a reset until the boot flow begins the ports are not served (R637); a cold boot's RAM clear is part of the flow. -/
def State.flowBegun (s : State) : Bool :=
  match s.pwr.boot with
  | .regs | .beat | .handoff => false
  | .flow => s.pwr.kind = 1 || s.pwr.kind = 2 || s.pwr.kind = 7
  | _ => true
/-- The ports of the chip are served (R637, R638). -/
def State.portServed (s : State) : Bool := s.watching && s.flowBegun
/-- The boot ROM's RAM clear has not ended (R633). -/
def State.clearing (s : State) : Bool := match s.pwr.boot with | .flow => true | _ => false
/-- An address of the debug block. -/
def inDbg (a : Nat) : Bool := decide (0x41F000 ≤ a ∧ a < 0x420000)
/-- A register whose read takes an entry of a queue or of a capture channel (R640). -/
def popReg (a : Nat) : Bool := a == RW.FADC_QPOP || decide (0x410100 ≤ a ∧ a < 0x410200 ∧ a % 16 = 1)

def State.modHost (s : State) (f : HostPort → HostPort) : State := { s with host := f s.host }

/-! ## Writes of registers -/

/-- A master's store of a register takes effect (R160, R162, R629, R640, R770, R787). -/
def State.mayWrite (s : State) (m : Master) (a : Nat) : Bool :=
  (regRow a).isSome && s.portServed && (match m with
    | .strand i => (accessFault (isSup i) .store a).isNone
    | .host => !inDbg a && !s.shadowing
    | .remote p => !inDbg a && (p.val == 0 || !(a == RW.PEER_RSVCA || a == RW.PEER_RSVCB || a == RW.PEER_RSVCGO))
    | .debug => s.on R.RST_KEYST_OPEN)

/-- REGISTER_WRITE (R16, R258, R814). -/
def execRegisterWrite (m : Master) (a : BitVec 24) (v : Word) (s : State) : Host.Outcome State Fault Refusal :=
  if s.mayWrite m a.toNat then done (s.writeReg m a.toNat v) else done s

/-! ## The host port: frames -/

/-- Whether no operation of an earlier frame is pending (R625). -/
def State.hostFree (s : State) : Bool := s.host.op.isNone && s.host.stream.isNone

/-- The bytes of a word, most significant first (R621). -/
def wordBytes (w : Word) : List (BitVec 8) := unpackBytes 6 [w]
/-- The number that the first n bytes form (R621). -/
def bytesNat (n : Nat) (bs : List (BitVec 8)) : Nat := (bs.take n).foldl (fun v b => v * 256 + b.toNat) 0

/-- The operation of an accepted frame ends with its result and reply (R624, R628). -/
def State.hostDone (s : State) (res : Nat) (reply : List (BitVec 8)) : State :=
  ((s.modHost (fun h => { h with op := none, stream := none, reply := reply })).put R.HSP_STAT_RES res).when (s.on R.HSP_CTL_EVEN) (·.assertEv 116)

/-- A frame is accepted at its select release (R625). -/
def State.hostAccept (s : State) (op : Nat) : State :=
  ((s.put R.HSP_STAT_FCNT (s.get R.HSP_STAT_FCNT + 1)).put R.HSP_STAT_FRAMES (s.get R.HSP_STAT_FRAMES + 1)).put R.HSP_STAT_LASTOP op

/-- The operation of a frame enters the order of peripheral transactions (R627). -/
def State.hostEnter (s : State) (o : HostOp) : State :=
  ({ s with
    core := { s.core with nextOp := s.core.nextOp + 1 }
    host := { s.host with op := some o, reply := [], ord := s.core.nextOp, late := s.pwr.entry.isSome } }).put R.HSP_STAT_RES 1

/-- A register-channel frame whose select release has come (R625, R626): it is accepted or not by what was pending at its falling edge,
and run does what its command asks. Log entry 39, DEDUCED. -/
def State.hostFrame (s : State) (op : Nat) (run : State → State) : State :=
  if !s.portServed || (s.host.stream.any (fun x => x.disc.isNone)) then s
  else
    let ok := s.host.sel.getD s.hostFree
    let t := s.modHost (fun h => { h with sel := none })
    if ok then run (t.hostAccept op) else t.bump R.HSP_STAT_POLLS

/-- HOST_SELECT (R115, R622, R623, R625, R638): the falling edge of HSCS_N fixes the status byte; the bytes sent are it and the reply of the
last accepted frame, if that has ended. Log entry 39, DEDUCED. -/
def execHostSelect (s : State) : Host.Outcome State Fault Refusal :=
  let t := s.wake 9
  if !t.portServed || (t.host.stream.any (fun x => x.disc.isNone)) then done t
  else
    let status := (t.faultLow || t.on R.HSP_CTL_ATTN).toNat * 128 + t.get R.HSP_STAT_RES * 16 + t.get R.HSP_STAT_FCNT
    let u := t.out .host .hostData (Word.ofN status :: (if t.hostFree then t.host.reply.map (·.zeroExtend 48) else []))
    done (u.modHost (fun h => { h with sel := some t.hostFree }))

/-- NOP (R624 to R628). -/
def execHostNop (tok : BitVec 4) (_bs : List (BitVec 8)) (s : State) : Host.Outcome State Fault Refusal :=
  done (s.hostFrame 0 (fun t => t.hostDone (if tok = 0 then 0 else 3) []))

/-- RD (R626 to R628). -/
def execHostRd (tok : BitVec 4) (bs : List (BitVec 8)) (s : State) : Host.Outcome State Fault Refusal :=
  done (s.hostFrame 1 (fun t =>
    if tok ≠ 0 ∨ bs.length < 3 then t.hostDone 3 [] else t.hostEnter (.rd (BitVec.ofNat 24 (bytesNat 3 bs)))))

/-- WR (R626, R627, R630). -/
def execHostWr (tok : BitVec 4) (bs : List (BitVec 8)) (s : State) : Host.Outcome State Fault Refusal :=
  done (s.hostFrame 2 (fun t =>
    if tok ≠ 0 ∨ bs.length < 9 then t.hostDone 3 []
    else t.hostEnter (.wr (BitVec.ofNat 24 (bytesNat 3 bs)) (Word.ofN (bytesNat 6 (bs.drop 3))) none)))

/-- WRT (R626, R627, R631). -/
def execHostWrt (tok : BitVec 4) (bs : List (BitVec 8)) (s : State) : Host.Outcome State Fault Refusal :=
  done (s.hostFrame 3 (fun t =>
    if bs.length < 9 then t.hostDone 3 []
    else if t.on R.HSP_TOKEN_VALID && t.get R.HSP_TOKEN_TOK == tok.toNat then (t.bump R.HSP_TOKEN_DUP).hostDone 4 []
    else t.hostEnter (.wr (BitVec.ofNat 24 (bytesNat 3 bs)) (Word.ofN (bytesNat 6 (bs.drop 3))) (some tok))))

/-- RDM (R626 to R628): a count byte above 15 is wrong. Log entry 39, DEDUCED. -/
def execHostRdm (tok : BitVec 4) (bs : List (BitVec 8)) (s : State) : Host.Outcome State Fault Refusal :=
  let n := bytesNat 1 (bs.drop 3)
  done (s.hostFrame 4 (fun t =>
    if tok ≠ 0 ∨ bs.length < 4 ∨ 16 ≤ n then t.hostDone 3 [] else t.hostEnter (.rdm (BitVec.ofNat 24 (bytesNat 3 bs)) (n + 1))))

/-! ## The host port: the stream -/

/-- The words of the buffer are written, unless an entry into a low-power state holds the port off RAM (R632, R634, R635, R638). -/
def State.streamDrain (s : State) : State :=
  match s.host.stream with
  | none => s
  | some x =>
    if !s.portServed || s.pwr.entry.isSome then s
    else
      let base := s.get R.HSP_STW_NEXT - x.buf.length
      let t := (x.buf.zipIdx).foldl (fun t p => (t.ramSet (base + p.2) p.1).jot 9 [5, Word.ofN (base + p.2), p.1]) s
      t.modHost (fun h => { h with stream := some { x with words := x.words + x.buf.length, buf := [] } })

/-- A released stream whose buffer is empty ends (R624, R628). -/
def State.streamEnd (s : State) : State :=
  match s.host.stream with
  | some { words := n, buf := [], res := r, disc := some d } =>
    let m := min n 0xFFFFFF
    let t := s.when (r == some 5) (·.bump R.HSP_STW_OVR)
    t.hostDone (r.getD 0) ([m / 65536, m / 256, m, d].map (BitVec.ofNat 8))
  | _ => s

/-- What has been held back is written, and a released stream ends. -/
def State.streamRun (s : State) : State := s.streamDrain.streamEnd

/-- A stream word is complete (R629, R632, R633, R635, R640). -/
def State.streamWord (s : State) (v : Word) : State :=
  match s.host.stream with
  | none => s
  | some x =>
    let a := s.get R.HSP_STW_NEXT
    let ends (r : Nat) : State := s.modHost (fun h => { h with stream := some { x with res := some r } })
    if x.res.isSome || x.disc.isSome then s
    else if region a != .ram || s.fenceBars a || s.clearing || s.shadowing then ends 2
    else if 8 ≤ x.buf.length then ends 5
    else ((s.modHost (fun h => { h with stream := some { x with buf := x.buf ++ [v] } })).put R.HSP_STW_NEXT (a + 1)).streamDrain

/-- The select release of a stream frame: d bytes of an unfinished word are discarded (R632). -/
def State.streamRelease (s : State) (d : Nat) : State :=
  match s.host.stream with
  | none => s
  | some x =>
    if x.disc.isSome then s
    else
      let t := (s.hostAccept 5).bump R.HSP_STW_DISC d
      ((t.modHost (fun h => { h with sel := none, reply := [], stream := some { x with disc := some d } })).put R.HSP_STAT_RES 1).streamRun

/-- The words that follow the address bytes of a stream frame. -/
def streamWords (bs : List (BitVec 8)) : List Word := packBytes ((bs.length - 3) / 6) (bs.drop 3)

/-- STW (R626, R632, R633): bs holds the address bytes and whole words; fin, at its select release, the bytes of an unfinished word. -/
def execHostStw (tok : BitVec 4) (bs : List (BitVec 8)) (fin : Option (Fin 6)) (s : State) : Host.Outcome State Fault Refusal :=
  if !s.portServed || (s.host.stream.any (fun x => x.disc.isNone)) then done s
  else if !s.host.sel.getD s.hostFree then done ((s.modHost (fun h => { h with sel := none })).bump R.HSP_STAT_POLLS)
  else if tok ≠ 0 ∨ bs.length < 3 then done (((s.modHost (fun h => { h with sel := none })).hostAccept 5).hostDone 3 [])
  else
    let t := (s.modHost (fun h => { h with stream := some {} })).put R.HSP_STW_NEXT (bytesNat 3 bs)
    let t := (streamWords bs).foldl State.streamWord t
    done (match fin with | some d => t.streamRelease d.val | none => t)

/-- HOST_STREAM_WORD (R632, R633): the sixth byte of a word of the stream arrives, and perhaps the select release after it. Log entry 39, DEDUCED. -/
def execHostStreamWord (v : Word) (fin : Option (Fin 6)) (s : State) : Host.Outcome State Fault Refusal :=
  let t := s.streamWord v
  done (match fin with | some d => t.streamRelease d.val | none => t)

/-! ## The host port: operations -/

/-- A read of the host: its word, or the reason of its refusal (R629, R633, R640). -/
def State.hostRead (s : State) (a : Nat) : Except Nat Word × State :=
  let word (r : Option Word × State) : Except Nat Word × State := (match r.1 with | some w => .ok w | none => .error 4, r.2)
  match region a with
  | .ram => word (s.ramRead a 5 0)
  | .mramUser => word (s.mramRead a 5 0)
  | .mramSys => if sysLoadable a then word (s.mramRead a 5 0) else (.error 2, s)
  | .periph =>
    if (regRow a).isNone then (.error 1, s)
    else if inDbg a || (s.shadowing && popReg a) then (.error 2, s)
    else
      let r := s.readReg .host a
      (.ok r.1, r.2)
  | .reserved => (.error 1, s)
  | _ => (.error 2, s)

/-- A write of the host: the reason of its refusal, none where it is performed (R629, R630, R633, R640). -/
def State.hostWrite (s : State) (a : Nat) (v : Word) : Option Nat × State :=
  if s.shadowing then (some 2, s)
  else match region a with
    | .ram => if s.clearing then (some 3, s) else if s.fenceBars a then (some 2, s) else (none, s.ramSet a v)
    | .periph => if (regRow a).isNone then (some 1, s) else if inDbg a then (some 2, s) else (none, s.writeReg .host a v)
    | .reserved => (some 1, s)
    | _ => (some 2, s)

/-- The operation that waits is performed (R627 to R633); a twin primary journals it (R737). -/
def State.hostServe (s : State) : State :=
  match s.host.op with
  | none => s
  | some (.rd a) =>
    match (s.jot 9 [1, a.zeroExtend 48, 0]).hostRead a.toNat with
    | (.ok w, t) => t.hostDone 0 (wordBytes w)
    | (.error e, t) => t.hostDone 2 [BitVec.ofNat 8 e]
  | some (.rdm a n) =>
    match (s.jot 9 [4, a.zeroExtend 48, 0]).hostRead a.toNat with
    | (.ok w, t) =>
      let r := t.host.reply ++ wordBytes w
      if n ≤ 1 then t.hostDone 0 r
      else { t with
        core := { t.core with nextOp := t.core.nextOp + 1 }
        host := { t.host with op := some (.rdm (a + 1) (n - 1)), reply := r, ord := t.core.nextOp } }
    | (.error e, t) => t.hostDone 2 [BitVec.ofNat 8 e]
  | some (.wr a v tok) =>
    match s.hostWrite a.toNat v with
    | (some e, t) => t.hostDone 2 [BitVec.ofNat 8 e]
    | (none, t) =>
      let u := match tok with
        | some k => (t.put R.HSP_TOKEN_TOK k.toNat).put R.HSP_TOKEN_VALID 1
        | none => t
      (u.jot 9 [2, a.zeroExtend 48, v]).hostDone 0 []

/-! ## The debug port -/

/-- Start a debug access (R786, R787): while debug access is closed it reads LOCKED; with one pending it is ignored. Log entry 28, DEDUCED. -/
def State.debugStart (s : State) (a : BitVec 24) (v : Option Word) : State :=
  if !s.tapOn || s.dbg.acc.isSome then s
  else if !s.on R.RST_KEYST_OPEN then (s.tapLoad 0b10000).modDbg (fun d => { d with accStat := 3 })
  else
    let t := (s.tapLoad 0b10000).modDbg (fun d => { d with accStat := 1, accAddr := a, acc := some (s.core.nextOp, v) })
    { t with core := { t.core with nextOp := t.core.nextOp + 1 } }

/-- DEBUG_READ (R786, R787). -/
def execDebugRead (a : BitVec 24) (s : State) : Host.Outcome State Fault Refusal := done (s.debugStart a none)
/-- DEBUG_WRITE (R786, R787). -/
def execDebugWrite (a : BitVec 24) (v : Word) (s : State) : Host.Outcome State Fault Refusal := done (s.debugStart a (some v))

/-- DEBUG_POLL (R783, R786): the result of the last access is shifted out. Log entry 28, DEDUCED. -/
def execDebugPoll (s : State) : Host.Outcome State Fault Refusal :=
  if s.tapOn && s.on R.RST_KEYST_OPEN then
    done ((s.tapLoad 0b10000).out .debug .debugData [s.dbg.accStat.zeroExtend 48, s.dbg.accAddr.zeroExtend 48, s.dbg.accData])
  else done s

/-- The debug access ends with its status, and for a read its word. -/
def State.debugDone (s : State) (st : BitVec 2) (w : Option Word) : State :=
  s.modDbg (fun d => { d with acc := none, accStat := st, accData := w.getD d.accData })

/-- The debug access that waits is performed (R787); a word that reads uncorrectable is REFUSED. -/
def State.debugServe (s : State) (v : Option Word) : State :=
  let a := s.dbg.accAddr.toNat
  let word (r : Option Word × State) : State := match r.1 with
    | some w => r.2.debugDone 0 (some w)
    | none => r.2.debugDone 2 none
  match region a, v with
  | .ram, none => word (s.ramRead a 6 0)
  | .ram, some v => (s.ramSet a v).debugDone 0 none
  | .rom, none => s.debugDone 0 (some (Config.romWord a))
  | .mramUser, none => word (s.mramRead a 6 0)
  | .mramSys, none => if a < 0x7FF00 then word (s.mramRead a 6 0) else s.debugDone 2 none
  | .periph, none =>
    if (regRow a).isNone then s.debugDone 2 none
    else
      let r := s.readReg .debug a
      r.2.debugDone 0 (some r.1)
  | .periph, some v => if (regRow a).isNone then s.debugDone 2 none else (s.writeReg .debug a v).debugDone 0 none
  | _, _ => s.debugDone 2 none

/-! ## The order of peripheral transactions -/

/-- A strand's peripheral transaction that waits, the oldest first; none begins during an escalation (R224, R303, R327). -/
def State.strandTrans (s : State) : Option Op :=
  if s.core.esc.isSome then none
  else s.core.ops.find? (fun o => o.stage == .waiting && (match o.body with | .load .. => true | .store .. => true | _ => false))

/-- The number of the host's operation that waits and may be served (R627, R638). -/
def State.hostTrans (s : State) : Option Nat :=
  if s.host.op.isSome && s.portServed && !(s.host.late && s.pwr.entry.isSome) then some s.host.ord else none
/-- The number of the debug access that waits and may be served. -/
def State.debugTrans (s : State) : Option Nat := if s.portServed then s.dbg.acc.map (·.1) else none

/-- Whether a number comes before another that may be absent. -/
def before (a : Nat) : Option Nat → Bool
  | none => true
  | some b => decide (a < b)

/-- The strand's transaction is served (R16, R303, R734). -/
def State.strandServe (s : State) (o : Op) : State :=
  let t := s.modOp o.id (fun p => { p with stage := .begun })
  match o.body with
  | .load _ ea =>
    let r := t.readReg (.strand o.str) ea.toNat
    let q := r.2.liveLoad ea.toNat r.1
    q.2.endOp o.id q.1 0 0
  | .store ea v => ((t.writeReg (.strand o.str) ea.toNat v).noteStore ea.toNat [v]).endOp o.id 0 0 0
  | _ => s

/-- PERIPHERAL_SERVICE (R224, R303, R627, R786): the oldest transaction that waits is served. -/
def execPeripheralService (s : State) : Host.Outcome State Fault Refusal :=
  if !s.watching then done s
  else match s.strandTrans, s.hostTrans, s.debugTrans with
    | some o, h, d =>
      if before o.id h && before o.id d then done (s.strandServe o)
      else match h, d, s.dbg.acc with
        | some n, d, acc => if before n d then done s.hostServe else done (s.debugServe (acc.elim none (·.2)))
        | none, _, acc => done (s.debugServe (acc.elim none (·.2)))
    | none, some n, d => if before n d then done s.hostServe else done (s.debugServe (s.dbg.acc.elim none (·.2)))
    | none, none, some _ => done (s.debugServe (s.dbg.acc.elim none (·.2)))
    | none, none, none => done s

/-! ## Remote accesses -/

/-- The answer to a remote access: 0 performed with its word, 1 ADDR, 2 PROT (R305, R769, R770). -/
def State.remoteServe (s : State) (p : Chip) (a : Nat) (w : Option Word) : (Nat × Word) × State :=
  if region a != .periph || (regRow a).isNone then ((1, 0), s)
  else if inDbg a then ((2, 0), s)
  else match w with
    | none =>
      let r := s.readReg (.remote p) a
      ((0, r.1), r.2)
    | some v =>
      if p.val ≠ 0 ∧ (a = RW.PEER_RSVCA ∨ a = RW.PEER_RSVCB ∨ a = RW.PEER_RSVCGO) then ((2, 0), s)
      else ((0, 0), s.writeReg (.remote p) a v)

/-- A request is a repeat of one that was performed, or comes after a later one (R306, R768). Log entry 46, DESIGN CHOICE. -/
def State.repeated (s : State) (p : Chip) (n : Nat) : Bool := s.link.served[p].any (fun k => decide (n ≤ k))

/-- REMOTE_ACCESS_SERVE (R305, R306, R768 to R770): request n of position p; the reply returns through the port that leads to the issuer. -/
def execRemoteAccessServe (req : RemoteReq) (a : BitVec 24) (w : Option Word) (s : State) : Host.Outcome State Fault Refusal :=
  let p := req.chip
  let n := req.seq
  if s.cascade && s.chipPos != p.val && s.portUp p.val && s.portServed && !s.repeated p n then
    let r := (s.modLink (fun l => { l with served := l.served.set p (some n) })).remoteServe p a.toNat w
    done (r.2.linkOut (decide (s.chipPos < p.val)) .remoteReply [Word.ofN p.val, Word.ofN r.1.1, r.1.2])
  else done s

/-! ## GPIO inputs -/

/-- GPIO_INPUT_CHANGE (R733, R738, R807): on a twin shadow the journal brings the level. -/
def execGpioInputChange (n : Fin 48) (level : Bool) (s : State) : Host.Outcome State Fault Refusal :=
  if s.shadowing then done s
  else
    let m : BitVec 48 := 1#48 <<< n.val
    done ({ s with gpioIn := if level then s.gpioIn ||| m else s.gpioIn &&& ~~~m }.jotCond 0x30 (n.val + level.toNat * 128))

/-- The level that a GPIO ball is driven to by its owner, none for high-impedance (R803, R807, R809, R811). -/
def State.gpioPin (s : State) (n : Fin 48) : Option Bool :=
  if s.pwr.mode = .off || s.pwr.mode = .standby || s.pwr.mode = .rest || s.inReset || !s.twinDrives then none
  else match s.get (R.GPIO_FUNC_FUNC n.val) with
    | 0 =>
      if !s.on (R.GPIO_FUNC_OE n.val) || (s.on (R.GPIO_FUNC_OD n.val) && s.on (R.GPIO_FUNC_OUT n.val)) then none
      else some (s.on (R.GPIO_FUNC_OUT n.val))
    | 2 => some !(s.on R.XSP_STAT_SFBUSY && s.sfBall == some n.val)
    | _ => none

end Sys2Proof.Machine
end

