-- ==== Sys2Proof/Machine/Twin.lean ====
section
/-!
DEFINITION. Machine/Twin.lean: the journal's frames and their replay, divergence, takeover and the pair start of a twin pair (spec/27), with
their commands.
-/
namespace Sys2Proof.Machine

/-! ## States of the pair -/

/-- Enter a state of the pair (R729): the gates follow, and UNSYNC issues no instruction. -/
def State.twinEnter (s : State) (n : Nat) : State :=
  let t := s.put R.PEER_TWSTAT_STATE n
  ({ t with core := { t.core with issueOn := t.core.issueOn && n != 4 } }).refreshAll

/-- Ledger frames that wait go to their transmit buffer (R687, R744). -/
def State.releaseLedg (s : State) (go : BitVec 16 → Bool) : State :=
  let t := s.modTwin (fun x => { x with outbox := x.outbox.filter (fun p => !go p.1) })
  (s.twin.outbox.filter (fun p => go p.1)).foldl (fun t p => t.engAdd p.2) t

/-- The primary has no shadow in sync: SOLO (R729, R741, R742, R747). -/
def State.toSolo (s : State) : State :=
  ((s.twinEnter 2).releaseLedg (fun _ => true)).modTwin (fun x => { x with items := [], held := [], handover := none })

/-- The shadow leaves its replay: UNSYNC (R741, R747, R749). -/
def State.twinUnsync (s : State) : State := (s.twinEnter 4).modTwin (fun x => { x with claim := none, handover := none, outbox := [], rxq := [] })

/-! ## The journal of the primary -/

/-- The window in progress has ended (R736). -/
def State.windowOver (s : State) : Bool := s.active && !s.halted && reached s.time.dtime (s.twin.start + Word.ofN (960 * (s.twin.win + 1)))

/-- The frame of a window that has ended leaves (R739, R796). -/
def State.windowEnd (s : State) : State := s.when s.windowOver (·.sendJournal)

/-- JOURNAL_WINDOW_END (R739, R741, R796): late says that a frame cannot leave its buffer in time. -/
def execJournalWindowEnd (late : Bool) (s : State) : Host.Outcome State Fault Refusal :=
  if !s.active || s.halted then done s
  else if late then done (((s.jotEnd 0x10).toSolo).put R.PEER_TWSTAT_JOVF 1)
  else done s.windowEnd

/-- Sequence number a is at or before b (R739). -/
def seqLe (a b : BitVec 16) : Bool := decide (0 ≤ (b - a).toInt)

/-- NAK (R739): the frames from the one named on are sent again. -/
def execTwinNak (n : BitVec 16) (s : State) : Host.Outcome State Fault Refusal :=
  if !s.active then done s
  else
    let l := s.twin.held.filter (fun f => seqLe n f.seq)
    done ((l.foldl (fun t f => t.out .peerA .journal (frameWords f)) s).bump R.PEER_TWCNT_RETX l.length)

/-- A divergence shows (R747). -/
def State.diverged (s : State) : State := ((s.put R.PEER_TWSTAT_DIV 1).assertEv 124).bump R.PEER_TWSTAT_DIVCNT

/-- STATUS_FRAME (R739, R744, R747): frames that aseq covers are acknowledged; a divergence ends the pair, with RESTART by an SWR. -/
def execStatusFrame (aseq : BitVec 16) (div : Bool) (s : State) : Host.Outcome State Fault Refusal :=
  if !s.active then done s
  else
    let t := (s.modTwin (fun x => { x with held := x.held.filter (fun f => !seqLe f.seq aseq), statAt := s.time.dtime })).releaseLedg
      (fun q => seqLe q aseq)
    if !div then done t
    else
      let u := t.diverged.toSolo
      done (if u.get R.PEER_TWCFG_DIVPOL = 1 then u.escalate 3 5 0 else u)

/-- No status frame has come during three windows (R742). -/
def State.statusLost (s : State) : Bool := s.active && reached s.time.dtime (s.twin.statAt + 2880)

/-- The primary has lost its shadow (R742). -/
def State.statusLoss (s : State) : State := s.when s.statusLost (fun s => s.toSolo.put R.PEER_TWSTAT_SHLOST 1)

/-- STATUS_LOSS (R742). -/
def execStatusLoss (s : State) : Host.Outcome State Fault Refusal := done s.statusLoss

/-! ## Replay -/

/-- The device time of a received record. -/
def rxStamp : RxEvent → Word
  | .can f => f.sof
  | .lin f => f.brk
  | .rcp q => q.t
  | .credit d _ _ => d
  | .resync d _ _ => d
  | .sync d _ => d
  | .follow d _ _ => d
  | .control d _ _ => d

/-- What a controller of the primary received takes effect (R737, R755). -/
def State.replayRx (s : State) (e : RxEvent) : State :=
  match e with
  | .can f => let t := s.canTake f; if s.pnAccepts f then t.netWake (f.id.toNat / 16 % 16) 0xD else t
  | .lin f => s.linReceive f
  | .rcp q => s.rcpTake q
  | .credit _ src n => s.creditReturn src n
  | .resync _ src n => s.creditResync src n
  | .sync _ bn => s.beaconSync bn
  | .follow _ bn tm => s.beaconFollow bn tm
  | .control d src bytes => s.controlIn d src.toNat bytes

/-- The oldest nsend of a bus that waits for the journal's report (R309). -/
def State.waitingSend (s : State) (lin : Bool) : Option (Op × BitVec 24) :=
  s.core.ops.findSome? (fun o => match o.body, o.stage with
    | .nsend _ d l, .begun => if l = lin then some (o, d) else none
    | _, _ => none)

/-- The primary has released the oldest reply or credit frame that waits to its transmit buffer (R744). -/
def State.replayRelease (s : State) (k : Nat) : State :=
  match s.twin.outbox with
  | (_, x) :: rest => (s.modTwin (fun t => { t with outbox := rest })).setCan ⟨k % 8, Nat.mod_lt _ (by decide)⟩
      (some { desc := x.desc, kind := x.kind, wake := x.seven })
  | [] => s

/-- A TXEV item (R309, R683, R744): a release places the frame of the nsend that waits, or else a frame of the ledger; an end writes the buffer's
result, and a reply so reported SENT is no longer owed (R712). Log entry 45, DEDUCED. -/
def State.replayTx (s : State) (lin : Bool) (k result ts : Nat) : State :=
  if result = 0 then
    match s.waitingSend lin with
    | some (o, d) =>
      let r := s.descWords o.str lin d.toNat
      (r.2.placeFrame lin k r.1).finishOp o.id 0 0 (BitVec.ofNat 8 k) 1
    | none => if lin then s else s.replayRelease k
  else if lin then
    let b : Fin 4 := ⟨k % 4, Nat.mod_lt _ (by decide)⟩
    if (s.net.lin[b]).isSome then s.linEnd b result ts else s
  else
    let b : Fin 8 := ⟨k % 8, Nat.mod_lt _ (by decide)⟩
    match s.net.can[b] with
    | some x => (s.canEnd b result ts).when (result == 1) (·.markReplied x)
    | none => s

/-- A lock-out of a domain begins on the primary (R392, R738): which supply fell is not journaled, and is free. Log entry 44, DESIGN CHOICE. -/
def State.replayLock (s : State) (d : Dom) : State :=
  let vgl := s.freeWord.getLsbD 0
  let t := (s.useFree).modDom d (fun x =>
    { (if vgl then { x with vglLow := true } else { x with vcpLow := true }) with latched := true })
  let t := (t.put (if vgl then R.GDRV_DOM_STAT_VGLUV d else R.GDRV_DOM_STAT_VCPUV d) 1).bump (R.GDRV_DOM_STAT_UVCNT d)
  ((t.put (R.GDRV_DOM_STAT_RDY d) 0).assertEv 104).refreshDom d

/-- A lock-out of a domain ends on the primary (R394, R738). -/
def State.replayUnlock (s : State) (d : Dom) : State :=
  ((s.modDom d (fun x => { x with vglLow := false, vcpLow := false })).put (R.GDRV_DOM_STAT_RDY d) 1).endLock d

/-- A trip of the primary (R424, R738): the side of a gate fault is not journaled, and is free. NTC trips and CBCX follow from what else
is replayed. Log entry 44, DESIGN CHOICE. -/
def State.replayTrip (s : State) (n i : Nat) : State :=
  let h : HB := ⟨i % 24, Nat.mod_lt _ (by decide)⟩
  let c : Course := ⟨i % 8, Nat.mod_lt _ (by decide)⟩
  match n with
  | 1 => s.trip 1 false [courseOf h] h.val
  | 2 => s.trip 2 true [courseOf h] h.val
  | 3 => s.trip 3 false [c] 0
  | 4 => ((s.useFree).assertEv 104).trip 4 (s.freeWord.getLsbD 0) [courseOf h] h.val
  | 5 => s.trip 5 false (domCourses (domOf c)) 0
  | 10 => s
  | 12 => s
  | _ => s.tripAll n

/-- A COND item (R738). -/
def State.replayCond (s : State) (code i : Nat) (ws : List Word) : State :=
  if code ≤ 12 then s.replayTrip code i
  else if code = 0x10 then (if i = 0 then s.vbatGood else s.vbatLow)
  else if 0x11 ≤ code ∧ code ≤ 0x14 then
    let d : Dom := ⟨(code - 0x11) % 4, Nat.mod_lt _ (by decide)⟩
    if i = 0 then s.replayUnlock d else s.replayLock d
  else if code = 0x20 then
    let h : HB := ⟨i % 128 % 24, Nat.mod_lt _ (by decide)⟩
    let k : Fin 3 := ⟨h.val % 3, Nat.mod_lt _ (by decide)⟩
    (s.armBemf (courseOf h) k).crossReq h (decide (128 ≤ i))
  else if code = 0x30 then
    let m : BitVec 48 := 1#48 <<< (i % 128)
    { s with gpioIn := if 128 ≤ i then s.gpioIn ||| m else s.gpioIn &&& ~~~m }
  else if code = 0x31 then
    match s.flash.frame with
    | some (_, _, len) => s.sfEnd (unpackBytes len ws)
    | none => s
  else s

/-- A host operation of the primary (R733, R737). -/
def State.replayHost (s : State) (op a : Nat) (v : Word) : State :=
  if op = 2 ∨ op = 5 then (if region a = .ram then s.ramSet a v else s.writeReg .host a v)
  else if region a = .periph then (s.readReg .host a).2 else s

/-- An integrating result of the primary (R492, R737), of the code of the queue entry before it. -/
def State.replayRes (s : State) (code : Nat) (r : Word) : State :=
  let res : BitVec 20 := r.setWidth 20
  let t := s.setReg (RW.ICONV_RES code) r
  if code ≤ 1 then t.icCount (code == 1) res.toInt (s.icCounts (code == 1))
  else if s.iconv.pass.isEmpty then t
  else
    t.passNext.icTake code res (icBad r) s.owTag (s.iconv.pass.length == 1)

/-- Replace the low-power delta and the last transition of a course by those of a RESUME item (R762). -/
def State.resumeCourse (s : State) (c : Course) (d last : Word) : State :=
  let own := (BitVec.ofNat 24 (s.reg (RW.POS_LPD c)).toNat).toInt
  let new := (BitVec.ofNat 24 d.toNat).toInt
  (((s.posAdd c (new - own)).setReg (RW.POS_LPD c) d).setReg (RW.POS_LAST c) last)

/-- The hand-off values of the primary replace the own ones (R762): DTIME, the deltas and last transition times of courses 0 to 7, LPQR,
LPQB, PWR_WLHDR.COUNT and the words of the new wake-log entries. Log entry 48, DEDUCED. -/
def State.replayResume (s : State) (ws : List Word) : State :=
  let w (k : Nat) : Word := ws.getD k 0
  let t := s.modTime (fun x => { x with dtime := w 0 })
  let t := allCourses.foldl (fun t (c : Course) => t.resumeCourse c (w (1 + c.val)) (w (9 + c.val))) t
  let t := t.setReg RW.ICONV_QRSV (t.reg RW.ICONV_QRSV + w 17 - t.reg RW.ICONV_LPQR)
  let t := t.setReg RW.ICONV_QBAT (t.reg RW.ICONV_QBAT + w 18 - t.reg RW.ICONV_LPQB)
  let t := (t.setReg RW.ICONV_LPQR (w 17)).setReg RW.ICONV_LPQB (w 18)
  let n := (ws.length - 20) / 2
  let t := t.forN n (fun k t =>
    let j := ((w 19).toNat - n + k) % 7
    (t.setReg (RW.PWR_WLE0 j) (w (20 + 2 * k))).setReg (RW.PWR_WLE1 j) (w (21 + 2 * k)))
  (t.put R.PWR_WLHDR_COUNT (w 19).toNat).modTwin (fun x => { x with handed := none })

/-- The causes of END whose reset the shadow reaches by itself (R749). -/
def replayedEnd (cause : Nat) : Bool := cause = 1 || cause = 3 || cause = 4 || cause = 5

/-- The third of three windows after that of the newest good frame is due (R740): the worked case of spec/27 reads R749's three windows so
(log entry 80, DEDUCED). -/
def State.heartEnd (s : State) : Word := s.twin.bEnd + Word.ofN (1 + 1920 + s.get R.PEER_TWCFG_LAG)

/-- An END item at a beat (R741, R749): a claim where its reset is not one the shadow reaches by itself, once TWFAIL is high. -/
def State.replayEnd (s : State) (cause : Nat) (beat : Word) : State :=
  let t := s.modTwin (fun x => { x with ended := some (cause, beat), claim := none })
  if cause = 0x10 then t.twinUnsync
  else if replayedEnd cause then t
  else if t.twin.twfail.isSome then t.modTwin (fun x => { x with claim := some (1, beat, s.phys) })
  else t

/-- One item takes effect in its beat (R732, R733, R737). Log entry 43, DESIGN CHOICE. -/
def State.replayItem (s : State) (i : TwinItem) (beat : Word) : State :=
  let w (k : Nat) : Word := i.data.getD k 0
  match i.kind.toNat with
  | 1 => (s.replayQ (w 0)).modTwin (fun x => { x with rcode := if getBits (w 0) 22 2 = 3 then getBits (w 0) 16 4 else 16 })
  | 2 => if s.twin.rcode < 16 then s.replayRes s.twin.rcode (w 0) else s
  | 3 => s.hallReg ⟨getBits (w 0) 13 3 % 8, Nat.mod_lt _ (by decide)⟩ (BitVec.ofNat 3 (getBits (w 0) 10 3)) (getBits (w 0) 0 8)
  | 4 => s.tcEnter ⟨(w 0).toNat % 16, Nat.mod_lt _ (by decide)⟩ (w 1) (w 2)
  | 5 => s.modTwin (fun x => { x with live := x.live ++ [w 0] })
  | 6 => match i.rx with
    | some e => (s.replayRx e).modTwin (fun x => { x with stamp := if 0 < (rxStamp e - x.stamp).toInt then rxStamp e else x.stamp })
    | none => s
  | 7 => s.replayTx (w 0 == 1) (w 1).toNat (w 2).toNat (w 3).toNat
  | 8 => (s.replayCond (w 0).toNat (w 1).toNat s.twin.rwords).modTwin (fun x => { x with
      rwords := if (w 0).toNat = 0x31 then [] else x.rwords })
  | 9 => s.replayHost (w 0).toNat (w 1).toNat (w 2)
  | 0xA => match s.flash.frame with
    | some (false, _, _) => s.modTwin (fun x => { x with rwords := x.rwords ++ [w 0] })
    | _ => s.xipDeliver (w 0)
  | 0xB => s.replayResume i.data
  | 0xC => s.modTwin (fun x => { x with digest := some (w 0) })
  | 0xD => s.replayEnd (w 0).toNat beat
  | 0xE => s.modTwin (fun x => { x with ended := some (0, beat), claim := some (2, beat, s.phys) })
  | _ => s

/-- Items take effect in order, up to an END or HANDOVER (R737, R749). Log entry 43, DESIGN CHOICE. -/
def State.replay : List (Word × TwinItem) → State → State
  | [], s => s
  | (b, i) :: rest, s => if s.twin.ended.isSome then s else State.replay rest (s.replayItem i b)

/-- The items of the beats that the shadow has reached take effect (R732). Log entry 43, DESIGN CHOICE. -/
def State.replayBeat (s : State) : State :=
  if s.twin.rxq.isEmpty then s
  else State.replay (s.twin.rxq.filter (fun p => reached s.time.dtime p.1))
    (s.modTwin (fun x => { x with rxq := x.rxq.filter (fun p => !reached s.time.dtime p.1) }))

/-- The beat of an item of window k (R736, R737). -/
def State.itemBeat (s : State) (k : Nat) (i : TwinItem) : Word := s.twin.start + Word.ofN (960 * k + i.ofs.toNat)

/-- A good frame is taken (R739, R740): its items wait for their beats, but for the RESUME that a waking shadow waits for (R762). -/
def State.takeFrame (s : State) (f : TwinFrame) : State :=
  let k := f.win.toNat
  let t := f.items.foldl (fun t i =>
    if t.twin.handed.isSome && i.kind.toNat == 0xB then t.replayItem i (s.itemBeat k i)
    else t.modTwin (fun x => { x with rxq := x.rxq ++ [(s.itemBeat k i, i)] })) s
  t.modTwin (fun x => { x with seq := s.twin.seq + 1, win := k + 1, miss := 0, bEnd := s.twin.start + Word.ofN (960 * k + 959) })

/-- The status frame of the shadow (R739, R796): ASEQ, STATE, DIV. -/
def State.sendStatus (s : State) : State :=
  if s.halted then s else s.out .peerA .status [(s.twin.seq - 1).zeroExtend 48, Word.ofN (s.get R.PEER_TWSTAT_STATE), Word.ofN (s.get R.PEER_TWSTAT_DIV)]

/-- JOURNAL_FRAME (R732 to R740): a frame that fails its CRC, or a gap, is answered with NAK; a frame received before is dropped. -/
def execJournalFrame (f : TwinFrame) (s : State) : Host.Outcome State Fault Refusal :=
  if !s.shadowing || s.twin.ended.isSome then done s
  else if !f.good then done (s.out .peerA .nak [s.twin.seq.zeroExtend 48])
  else if f.seq = s.twin.seq then done (s.takeFrame f).sendStatus
  else if 0 < (f.seq - s.twin.seq).toInt then done (s.out .peerA .nak [s.twin.seq.zeroExtend 48])
  else done s

/-- The next frame has not been received good by its time (R740). -/
def State.frameLate (s : State) : Bool :=
  s.shadowing && s.twin.ended.isNone
    && reached s.phys (s.twin.start + Word.ofN (960 * (s.twin.win + s.twin.miss) + s.get R.PEER_TWCFG_LAG))

/-- A frame is missing; three in a row are a heartbeat loss (R740, R749). -/
def State.frameMiss (s : State) : State :=
  if !s.frameLate then s
  else
    let n := s.twin.miss + 1
    let t := (s.bump R.PEER_TWCNT_MISS).modTwin (fun x => { x with miss := n })
    if n < 3 then t
    else
      let u := t.put R.PEER_TWSTAT_HBLOSS 1
      if s.twin.claim.isSome then u
      else if s.twin.twfail.isSome || s.on R.TIME_STAT_REFLOST then u.modTwin (fun x => { x with claim := some (4, x.bEnd + 1, s.phys) })
      else u.twinUnsync

/-- FRAME_MISSING (R740, R749). -/
def execFrameMissing (s : State) : Host.Outcome State Fault Refusal := done s.frameMiss

/-! ## The digest -/

/-- A bit enters the CRC-48 of generator x^48 + x^41 + x^9 + x^3 + 1 (R745). -/
def crcBit (c : BitVec 48) (b : Bool) : BitVec 48 := (c <<< 1) ^^^ (if c.msb != b then 0x020000000209#48 else 0)
/-- A word enters the digest, most significant bit first (R745). -/
def crcWord (c : BitVec 48) (w : Word) : BitVec 48 := (List.range 48).foldl (fun c k => crcBit c (w.getLsbD (47 - k))) c
/-- The value the digest begins with (R745). -/
def crcInit : BitVec 48 := 0xFFFFFFFFFFFF
/-- The digest of a list of words (R745), as the pair start compares blocks of 1,024 words by it (R760). -/
def digestOf (ws : List Word) : Word := ws.foldl crcWord crcInit

/-- The addresses of a family of registers (R815). -/
def idxOffs : List (Nat × Nat) → List Nat
  | [] => [0]
  | (stride, count) :: t => (List.range count).flatMap (fun k => (idxOffs t).map (· + k * stride))

/-- The register addresses whose changes the digest takes: every register but those of R734 (R745). -/
def digestRegs : List Nat :=
  ((List.range 0x20).flatMap (fun b => (regBlock (0x400000 + 0x1000 * b)).flatMap (fun r => (idxOffs r.idx).map (r.base + ·)))).filter
    (fun a => !chipLocal a)

/-- Put a changed register word in its place by address. -/
def insertAddr (p : Nat × Word) : List (Nat × Word) → List (Nat × Word)
  | [] => [p]
  | q :: l => if p.1 < q.1 then p :: q :: l else q :: insertAddr p l

/-- The register words as they read now. -/
def State.regWords (s : State) : List Word := digestRegs.map (s.peekReg .debug)

/-- The words that the digest takes in this beat, in the order of R745. What counts as a store or a change of a register word: log entry 69,
DESIGN CHOICE. -/
def State.digestWords (s : State) : List Word :=
  let changed := ((digestRegs.zip (s.twin.seen.zip s.regWords)).filter (fun p => p.2.1 != p.2.2)).foldl
    (fun l p => insertAddr (p.1, p.2.2) l) []
  let gates := allHB.foldl (fun n (h : HB) =>
    let c := s.want h
    n + c.1.toNat * 2 ^ (2 * h.val + 1) + c.2.toNat * 2 ^ (2 * h.val)) 0
  s.now.issues ++ s.core.strands.toList.flatMap (·.wrote) ++ s.now.stores ++ changed.flatMap (fun p => [Word.ofN p.1, p.2]) ++ [Word.ofN gates]

/-- The digest takes this beat, once (R745). -/
def State.digestFeed (s : State) : State :=
  if s.twin.fedAt == some s.time.dtime then s
  else s.modTwin (fun x => { x with crc := s.digestWords.foldl crcWord x.crc, seen := s.regWords, fedAt := some s.time.dtime })

/-- A checkpoint falls in this beat (R746): a period boundary of course 0 while it runs, 24,000 beats after the last one while it does not, and
with CKSRC every CKPER x 240 beats. -/
def State.checkDue (s : State) : Bool :=
  s.paired && s.twin.ckAt != s.time.dtime &&
    (if s.on R.PEER_TWCFG_CKSRC then reached s.time.dtime (s.twin.ckAt + Word.ofN (s.get R.PEER_TWCFG_CKPER * 240))
     else if s.on (R.PWM_STAT_RUN 0) then (s.pwm 0).bndAt == some s.time.dtime
     else reached s.time.dtime (s.twin.ckAt + 24000))

/-- A checkpoint (R746, R747, R754): the primary journals its digest, the shadow compares its own with the journal's. -/
def State.checkpoint (s : State) : State :=
  let t := s.digestFeed
  let d := t.twin.crc
  let u := t.modTwin (fun x => { x with crc := crcInit, ckAt := s.time.dtime })
  if s.active then u.jot 0xC [d]
  else
    let v := u.modTwin (fun x => { x with digest := none, own := (0, 0) })
    match s.twin.digest, s.twin.ended with
    | some w, none => if w = d then v else (v.diverged.sendStatus).twinUnsync
    | _, _ => v

/-- CHECKPOINT (R746, R747): the checkpoint of beat b; the digest takes the beat as it stands, so that the command comes last in its beat.
Log entry 43, DESIGN CHOICE. -/
def execTwinCheckpoint (b : Word) (s : State) : Host.Outcome State Fault Refusal :=
  done (s.when (s.checkDue && b == s.time.dtime) (·.replayBeat.checkpoint))

/-! ## Takeover -/

/-- TWFAIL_RISE (R749): TWFAIL has read high for 48 beats; in SHADOW, when no END or HANDOVER arrives within three windows, the claim follows
the newest good frame. -/
def execTwfailRise (s : State) : Host.Outcome State Fault Refusal :=
  if !s.isTwin || s.get R.PEER_TWSTAT_STATE = 1 || s.get R.PEER_TWSTAT_STATE = 2 || s.twin.twfail.isSome then done s
  else
    let t := s.modTwin (fun x => { x with twfail := some s.phys })
    if !s.shadowing || s.twin.claim.isSome then done t
    else match s.twin.ended with
      | some (c, b) => done (if replayedEnd c || c == 0 then t else t.modTwin (fun x => { x with claim := some (1, b, s.phys) }))
      | none =>
        let d := if 0 ≤ (s.heartEnd - s.phys).toInt then s.heartEnd else s.phys
        done (t.modTwin (fun x => { x with claim := some (3, x.bEnd + 1, d) }))

/-- HANDOVER (R751): a write of PEER_TWCMD.HANDOVER. -/
def execTwinHandover (_m : Master) (s : State) : Host.Outcome State Fault Refusal := done s.handoverGo

/-- This beat is beat H of a pending HANDOVER (R751): a period boundary of course 0, or a window start while that is stopped. -/
def State.handoverDue (s : State) : Bool :=
  s.active && s.twin.handover.any (fun t => reached s.time.dtime t)
    && (if s.on (R.PWM_STAT_RUN 0) then (s.pwm 0).bndAt == some s.time.dtime else s.twinOfs == 0)

/-- The release at H (R748, R750, R751): the frame with the HANDOVER item leaves. -/
def State.release (s : State) : State :=
  let t := ((s.modTwin (fun x => { x with tail := s.twTail })).jot 0xE []).sendJournal.twinUnsync
  (t.modTime (fun x => { x with tpHigh := false, tpDue := false })).modAcq (fun a => { a with firing := false })

/-- HANDOVER_RELEASE (R748, R750, R751). -/
def execHandoverRelease (s : State) : Host.Outcome State Fault Refusal := done (s.when s.handoverDue (·.release))

/-- A half-bridge acts as if its source had been written (R404, R752). -/
def State.claimGuards (s : State) : State :=
  allHB.foldl (fun t (h : HB) => (t.modHb h (fun x => { x with guard := true })).refreshHb h) s

/-- The Hall states that the own inputs registered from physical beat C − 65 on, oldest first (R754); p is beat P. -/
def State.claimHalls (s : State) (halls : List (Course × BitVec 3 × Word)) (c p : Word) : State :=
  (halls.reverse.filter (fun x => decide (0 ≤ (x.2.2 - (c - 65)).toInt))).foldl
    (fun t x => t.hallReg x.1 x.2.1 ((p - x.2.2).toNat + t.get (R.POS_CFG_HFILT x.1))) s

/-- Frames that the own controllers heard after the newest journaled stamp (R755). -/
def State.claimHeard (s : State) (l : List RxEvent) (stamp : Word) : State :=
  (l.filter (fun e => decide (0 < (rxStamp e - stamp).toInt))).foldl (fun t e => t.replayRx e) s

/-- The physical beat P of a claim (R752). -/
def State.claimBeat (s : State) (c at' : Word) : Word :=
  let due := c + Word.ofN (s.get R.PEER_TWCFG_LAG)
  if 0 ≤ (due - at').toInt then due else at'

/-- The shadow claims in physical beat P (R752 to R755, R712). -/
def State.takeOver (s : State) (trig : Nat) (c p : Word) : State :=
  let x := s.twin
  let t := ((s.put R.PEER_TWTAKE_OFS (p - c).toNat).put R.PEER_TWTAKE_TRIG trig).put R.PEER_TWSTAT_TAKEN 1
  let t := (t.modTime (fun y => { y with dtime := c })).modTwin (fun y => { y with
    pdt := p - c, twfail := none, claim := none, ended := none, handed := none, halls := [], heard := [], outbox := [], rxq := [], own := (0, 0) })
  let t := ((t.put R.PEER_TWSTAT_STATE 2).claimGuards).claimHalls x.halls c p
  let t := (t.icCount false x.own.1 (t.icCounts false)).icCount true x.own.2 (t.icCounts true)
  (t.claimHeard x.heard x.stamp).ledgTakeover

/-- A claim whose physical beat P has come is made (R749, R752). -/
def State.claimRun (s : State) : State :=
  match s.shadowing, s.twin.claim with
  | true, some (trig, c, at') => if reached s.phys (s.claimBeat c at') then s.takeOver trig c (s.claimBeat c at') else s
  | _, _ => s

/-- CLAIM (R749, R752). -/
def execTwinClaim (s : State) : Host.Outcome State Fault Refusal := done s.claimRun

/-- RESUME has not arrived within PAIRTO, and TWFAIL reads high: the shadow claims, with C the beat of its own hand-off (R762). -/
def State.resumeRunOut (s : State) : State :=
  match s.shadowing && s.twin.twfail.isSome, s.twin.handed with
  | true, some c =>
    let d := c + Word.ofN (s.get R.PEER_TWCFG_PAIRTO * 240000)
    if reached s.time.dtime d then s.takeOver 5 c (s.claimBeat c s.phys) else s
  | _, _ => s

/-- RESUME_TIMEOUT (R762). -/
def execResumeTimeout (s : State) : Host.Outcome State Fault Refusal := done s.resumeRunOut

/-! ## The pair start -/

/-- The fields of keep classes N, A and W of a register word (R757). -/
def pairFields (r : RegRow) (w v : Word) : Word :=
  r.fields.foldl (fun u f => if f.keep == .n || f.keep == .a || f.keep == .w then setBits u f.lo f.len (getBits v f.lo f.len) else u) w

/-- P4: a register word of the primary (R734, R757). -/
def State.pairReg (s : State) (a : Nat) (v : Word) : State :=
  match regRow a with
  | none => s
  | some r =>
    if chipLocal a then s
    else
      let t := s.setReg a (pairFields r (s.reg a) v)
      if r.fields.any (fun f => f.keep == .n && getBits (t.reg a) f.lo f.len != getBits (s.reg a) f.lo f.len) then t.persistShadow a else t

/-- MRAM that P3 compares (R760). -/
def pairMram (a : Nat) : Bool := decide (a < 0x80000) && !decide (0x78000 ≤ a ∧ a < 0x7A400) && !decide (0x7F800 ≤ a)

/-- Words of MRAM from an address up are persisted in persists of up to 16 words, which have committed and been applied when the pair start ends
(R168, R170, R760); n bounds their number. -/
def State.pairPersist (s : State) : Nat → Nat → List Word → State
  | _, _, [] => s
  | 0, _, _ => s
  | n + 1, a, ws =>
    let t := s.commitSlot { owner := .pair, target := BitVec.ofNat 24 a, data := ws.take 16 }
    let t := match t.mem.slots.getLast? with
      | some x => (t.applySlot x).modMem (fun m => { m with slots := m.slots.dropLast })
      | none => t
    t.pairPersist n (a + 16) (ws.drop 16)

/-- P2 to P4 on the shadow (R757, R759, R760). -/
def State.pairCopy (s : State) (x : PairData) : State :=
  let t := (s.put R.TIME_SYNC_REFTRIM (getBits x.trim 0 5)).put R.TIME_SYNC_SYNCDLY (getBits x.trim 8 8)
  let t := (x.ram.filter (fun p => region p.1.toNat = .ram)).foldl (fun t p => t.ramSet p.1.toNat p.2) t
  let t := x.mram.foldl (fun t p => if (List.range p.2.length).all (fun k => pairMram (p.1.toNat + k)) then t.pairPersist p.2.length p.1.toNat p.2 else t) t
  x.regs.foldl (fun t p => t.pairReg p.1.toNat p.2) t

/-- Begin at M with window 0 (R736, R757). Log entry 49, DEDUCED. -/
def State.pairBegin (s : State) (m : Word) (state : Nat) (pdt : Word) : State :=
  let t := s.modTwin (fun y => { y with
    start := m, win := 0, seq := 0, pdt := pdt, bEnd := m - 1, statAt := m, ckAt := m, crc := crcInit })
  let t := (((t.modTime (fun y => { y with dtime := m })).put R.PEER_TWSTAT_LINK 1).put R.PEER_TWSTAT_STATE state).startUser
  t.modTwin (fun y => { y with seen := t.regWords })

/-- PAIR_START (R757): the pair start has ended, with what it brought this chip. -/
def execPairStart (x : PairData) (s : State) : Host.Outcome State Fault Refusal :=
  if s.pwr.boot ≠ .accepted ∨ s.get R.PEER_TWSTAT_STATE ≠ 0 then done s
  else if s.get R.RST_STRAP_ROLE = 1 then done (s.pairBegin x.start 1 0)
  else if s.get R.RST_STRAP_ROLE = 2 then done ((s.pairCopy x).pairBegin x.start 3 (Word.ofN (s.get R.PEER_TWCFG_LAG)))
  else done s

/-- PAIRTO milliseconds have passed since acceptance with no pair start (R758). -/
def State.pairLate (s : State) : Bool :=
  s.pwr.boot = .accepted && s.isTwin && s.get R.PEER_TWSTAT_STATE = 0
    && reached s.time.dtime (s.pwr.stepAt + Word.ofN (s.get R.PEER_TWCFG_PAIRTO * 240000))

/-- The pair start has failed (R758): the primary, and a shadow for which TWFAIL has read high throughout, go on alone. -/
def State.pairFail (s : State) : State :=
  if !s.pairLate then s
  else if s.get R.RST_STRAP_ROLE = 1 ∨ s.twin.twfail.any (fun t => reached (s.pwr.stepAt + 48) t) then (s.put R.PEER_TWSTAT_STATE 2).startUser
  else s.twinEnter 4

/-- PAIR_START_TIMEOUT (R758). -/
def execPairStartTimeout (s : State) : Host.Outcome State Fault Refusal := done s.pairFail

/-- What falls due of the pair in a beat comes about by its end: the items of the beat (R732), losses and claims (R740, R742, R749, R752, R758,
R762). -/
def State.twinDue (s : State) : State :=
  if s.isTwin then s.replayBeat.statusLoss.frameMiss.claimRun.resumeRunOut.pairFail else s

/-- The digest takes the beat, and a checkpoint that falls in it is made (R745, R746). -/
def State.twinClose (s : State) : State := (s.when s.checkDue (·.checkpoint)).when s.paired (·.digestFeed)

end Sys2Proof.Machine
end

