-- ==== Sys2Proof/Machine/LowPower.lean ====
section
/-!
DEFINITION. Machine/LowPower.lean: entries into STANDBY and REST, the wakes that end them and the release of the beat (spec/03 R115 to R129,
spec/02 R62, R77 to R81), and the pin RESET_N (spec/04 R136, R137), with their commands.
-/
namespace Sys2Proof.Machine

/-! ## Entering -/

/-- Nothing is in flight: operations, persists, and transactions of the host and debug ports that may be served (R121). -/
def State.entryDrained (s : State) : Bool :=
  s.core.ops.isEmpty && s.mem.persists.isEmpty && s.hostTrans.isNone && s.debugTrans.isNone

/-- A step of an entry is in progress. -/
def State.inEntry (s : State) (e : EntryStep) : Bool := s.pwr.mode = .doze && s.pwr.entry == some e

/-- E1 ends once nothing is in flight, and E2 begins in the next beat (R115, R121, R489, R668, R685): frames of the ledger and the rest engine
that have not begun are discarded with those of the program. -/
def State.entryDrainEnd (s : State) : State :=
  if s.inEntry .e1 && s.entryDrained then
    let t := (((s.modNet (fun m => { m with engine := [] })).canDiscard).linDiscard).icLpClose
    let t := allCourses.foldl (fun t (c : Course) => t.modPos c (fun p => { p with e2 := some 0 })) t
    t.modPwr (fun p => { p with entry := some .e2, stepAt := s.time.dtime + 1 })
  else s

/-- ENTRY_DRAIN_END (R121). -/
def execEntryDrainEnd (s : State) : Host.Outcome State Fault Refusal := done s.entryDrainEnd

/-- E1 has lasted its 240,000 beats (R122). -/
def State.entryOver (s : State) : Bool := s.inEntry .e1 && reached (s.time.dtime + 1) (s.pwr.stepAt + 240000)

/-- The device is in DOZE again once E1 has reached its limit, with what was held for it (R122). -/
def State.entryLimit (s : State) : State :=
  if s.entryOver then
    let t := s.abandonEntry 3
    (t.when (s.phaseRv == pEntry) (·.setPhase pIdle)).streamRun
  else s

/-- DRAIN_LIMIT_EXPIRY (R122). -/
def execDrainLimitExpiry (s : State) : Host.Outcome State Fault Refusal := done s.entryLimit

/-- The reference keeps running through the stop (R111, R126, R761, R779); that of a chip on REFIN is another chip's. -/
def State.refKept (s : State) : Bool :=
  !s.pwr.toRest && (s.on R.TIME_STAT_REF_SRC || s.on R.PWR_LPCTL_XTAL_KEEP || s.on R.PWR_LPCTL_CAN_PN || s.active
    || (s.cascade && s.on R.PEER_CSSTAT_LINKB))

/-- E2 has lasted its 2,400 beats (R121). -/
def State.armOver (s : State) : Bool := s.inEntry .e2 && reached s.time.dtime (s.pwr.stepAt + 2400)

/-- P0 (R78, R121, R362, R488, R490, R524, R539, R658): the beat stops, and with it every course. -/
def State.p0 (s : State) : State :=
  if s.armOver then
    let t := allCourses.foldl (fun t (c : Course) => (t.modPos c (fun p => { p with e2 := none })).haltCourse c) s
    let t := ((t.tcClear.flashStop).icStop s.pwr.toRest).lpBegin
    let t := t.stopBeat.modTime (fun x => { x with refValid := x.refValid && s.refKept })
    t.modPwr (fun p => { p with entry := some .e3 })
  else s

/-- POINT_OF_NO_RETURN (R121): the always-on edge after E2. -/
def execPointOfNoReturn (s : State) : Host.Outcome State Fault Refusal := done s.p0

/-- The state of REST (R102, R111, R139, R467): classes W, S and V and the RAM are lost. -/
def State.enterRest (s : State) : State :=
  let gap := s.fadc.gap || !s.fadc.queue.isEmpty
  let t := (((s.beforeReset 7).resetParts 7).loseClasses (resetLoses 7)).modFadc (fun f => { f with gap := gap })
  let t := t.modTime (fun x => { x with refValid := false })
  ((t.put R.RSV_SDSTAT_STEP 0).showStatus s true).modPwr (fun p => { p with
    mode := .rest, entry := none, wake := none, heldReq := none, image := none, toRest := true })

/-- What STANDBY loses (R139): fields of class V, and with them the halts of debug, the trace, the latch of TC_AUX, the rotation of the
slices and a start that waits; the state of a twin pair goes on (R761, R762), and VSRC and LOCK show what holds. Log entry 27, DEDUCED. Log
entry 65, DEDUCED. -/
def State.enterStandby (s : State) : State :=
  let t := ((s.loseClasses (fun k => k == .v)).put R.PEER_TWSTAT_STATE (s.get R.PEER_TWSTAT_STATE)).putB R.PWR_STAT_VSRC s.pwr.vsrc
  let t := (List.finRange 64).foldl (fun t i => t.modStrand i (fun x =>
    if x.state = .halted then { x with state := x.heldFrom, stepping := false } else x)) t
  let t := (t.modDbg (fun d => { d with trace := [], accStat := 0, accAddr := 0, accData := 0, acc := none })).modFadc
    (fun f => { f with active := #v[1, 2, 3, 4], changes := 0 })
  let t := { t with tc := t.tc.map (fun (x : Tc) => { x with aux := [] }), stage := { t.stage with timed := none, begin := 0 } }
  (t.closeDebug.modPwr (fun p => { p with mode := .standby, entry := none })).refreshAll

/-- P10 (R121, R124, R716): 10 always-on periods after P0; a wake latched in E3, or a PIN reset that waits, starts the wake sequence. -/
def State.p10 (s : State) : State :=
  if s.inEntry .e3 && decide (10 ≤ s.time.aoCount) then
    let t := (s.put R.PWR_STAT_ENTRY 1).when (s.phaseRv == pEntry) (·.put R.PWR_RVSTAT_OUTCOME 1)
    let t := t.when (!s.pwr.lpWakes.isEmpty) (·.put R.PWR_STAT_LATCHED 1)
    let t := if s.pwr.toRest then t.enterRest else t.enterStandby
    if s.pwr.lpWakes.isEmpty && !s.pwr.pinPend then t else t.startWake
  else s

/-- ENTRY_COMPLETE (R121). -/
def execEntryComplete (s : State) : Host.Outcome State Fault Refusal := done s.p10

/-- The device time of the always-on edge at hand while the beat is stopped, by R80, and DTIME while it runs. -/
def State.aoTime (s : State) : Word :=
  if s.time.beatOn && !s.time.handoff then s.time.dtime else s.time.dStop + Word.ofN (aoBeats s.time.aoCount s.aoK)

/-- STANDBY has lasted DEEPEN minutes from P10 on (R125). Log entry 60, DESIGN CHOICE. -/
def State.deepenOver (s : State) : Bool :=
  s.pwr.mode = .standby && s.pwr.wake.isNone && s.on R.PWR_LPCTL_DEEPEN
    && decide (s.get R.PWR_LPCTL_DEEPEN * 14400000000 ≤ aoBeats (s.time.aoCount - 10) s.aoK)

/-- STANDBY_DEEPEN (R111, R125): the deepening takes place at the end of this always-on period, unless a wake arrives in it. -/
def execStandbyDeepen (s : State) : Host.Outcome State Fault Refusal :=
  done (s.when s.deepenOver (fun t => { t with now := { t.now with deepen := true } }))

/-- The deepening of this always-on period, where no wake has arrived in it (R125, R488, R490). -/
def State.deepen (s : State) : State :=
  if (s.now.deepen || s.deepenOver) && s.pwr.mode = .standby && s.pwr.wake.isNone then
    (s.when (s.on R.PWR_LPCTL_IC0_KEEP) (·.icStop true)).enterRest
  else s

/-! ## Wake sources -/

/-- WAKE_PIN_EDGE (R115): the edge of the selected polarity, held for the filter time. -/
def execWakePinEdge (k : Fin 4) (s : State) : Host.Outcome State Fault Refusal := done (s.wake (k.val + 1))

/-- The wake timer has counted its milliseconds (R117), of device time. Log entry 60, DESIGN CHOICE. -/
def State.wtimerOver (s : State) : Bool :=
  s.pwr.wtimer && s.on R.PWR_WTIMER_PERIOD && decide (s.get R.PWR_WTIMER_PERIOD * 240000 ≤ (s.aoTime - s.pwr.wtAt).toNat)

/-- The timer expires once (R115, R117); a period of 0 never does. -/
def State.wtimerEnd (s : State) : State :=
  if s.wtimerOver then (s.modPwr (fun p => { p with wtimer := false })).wake 10 else s

/-- WAKE_TIMER_EXPIRY (R115, R117). -/
def execWakeTimerExpiry (s : State) : Host.Outcome State Fault Refusal := done s.wtimerEnd

/-- PEER_ACTIVITY_WAKE (R115). -/
def execPeerActivityWake (s : State) : Host.Outcome State Fault Refusal := done (s.wake 11)

/-! ## The beat returns -/

/-- BEAT_RELEASE (R62, R79, R126, R128): the PLL has locked to a valid reference; after a stop the hand-off of device time follows. -/
def execBeatRelease (s : State) : Host.Outcome State Fault Refusal :=
  let starts := s.pwr.mode = .start && s.pwr.boot == .beat
  let wakes := s.pwr.mode = .standby && s.pwr.wake == some .beat
  if (starts || wakes) && s.time.refValid && s.core.esc.isNone then
    let t := (s.modTime (fun x => { x with beatOn := true, pllLocked := true, handoff := s.pwr.kind != 1 })).put R.TIME_STAT_PLL_LOCK 1
    done (t.modPwr (fun p =>
      if wakes then { p with wake := some .handoff }
      else if p.kind = 1 then { p with mode := .run, boot := .flow }
      else { p with boot := .handoff }))
  else done s

/-- The wakes detected with the beat stopped enter the log with their times, and WSRC shows the last of them (R80, R115, R118, R727). -/
def State.logStopped (s : State) (dStop : Word) : State :=
  let k := s.aoK
  let t := s.pwr.lpWakes.foldl (fun t w =>
    (t.logRing (dStop + Word.ofN (aoBeats w.n k)) 1 w.code w.from' true w.latched 0).put R.PWR_STAT_WSRC w.code) s
  t.modPwr (fun p => { p with lpWakes := [] })

/-- What X4 does in one beat (R79 to R81, R489, R526, R724): time, Hall counts, charge and the wake log. -/
def State.handOver (s : State) (k : Nat) (qr qb : Word) : State :=
  let t := ((s.handOff k).lpHandoff true).icLpEnd qr qb
  let u := t.logStopped s.time.dStop
  u.when (s.pwr.lpWakes.any (fun w => s.wakeLocal w.code)) (·.startWakeTx)

/-- The RESUME item of a primary (R762): DTIME, deltas and last transition times of courses 0 to 7, LPQR, LPQB, COUNT and the words of
the log entries written since it read n. Log entry 48, DEDUCED. -/
def State.jotResume (s : State) (n : Nat) : State :=
  let c := s.get R.PWR_WLHDR_COUNT
  let new := (List.range (min (c - n) 7)).map (fun i => (c - min (c - n) 7 + i) % 7)
  s.jot 0xB ([s.time.dtime] ++ allCourses.map (fun (c : Course) => s.reg (RW.POS_LPD c)) ++ allCourses.map (fun (c : Course) => s.reg (RW.POS_LAST c))
    ++ [s.reg RW.ICONV_LPQR, s.reg RW.ICONV_LPQB, Word.ofN c] ++ new.flatMap (fun i => [s.reg (RW.PWR_WLE0 i), s.reg (RW.PWR_WLE1 i)]))

/-- The twin pair after a hand-off (R736, R762): the primary journals it in the window of its new time, the shadow waits for that. -/
def State.twinResume (s : State) (n : Nat) : State :=
  if s.active then
    (s.modTwin (fun x => { x with win := (s.time.dtime - x.start).toNat / 960 })).jotResume n
  else if s.shadowing then s.modTwin (fun x => { x with handed := some s.time.dtime })
  else s

/-- X5 (R126, R220, R638, R702, R716, R781): issue resumes and the device is in RUN. -/
def State.resumeRun (s : State) : State :=
  let t := (s.put R.PWR_STAT_LAST 2).modPwr (fun p => { p with wake := none, mode := .run })
  let t := { t with core := { t.core with issueOn := true, wdBeats := 0, wdOpen := false } }
  let t := (t.toRun.assertEv 49).unseal
  ((t.streamRun).sdCheck).when s.lead (·.modLink (fun l => { l with wakeAlign := true, alignAt := s.time.dtime }))

/-- A PIN reset that the wake sequence led to begins (spec/04 At the edges). -/
def State.pinAfterWake (s : State) : State := if s.pwr.pinPend then (s.modPwr (fun p => { p with pinPend := false })).resetCause 3 else s

/-- DTIME_HANDOFF (R77, R79, R126, R128, R489, R526, R527): k always-on periods have passed up to its edge beyond those that idle steps have
counted (log entry 1, DESIGN CHOICE), and qr and qb are what the modulators of IC0 counted since E2. -/
def execDtimeHandoff (k : Nat) (qr qb : Word) (s : State) : Host.Outcome State Fault Refusal :=
  if !s.time.handoff then done s
  else if s.pwr.mode = .start && s.pwr.boot == .handoff then
    let t := (s.handOver k qr qb).modPwr (fun p => { p with mode := .run, boot := .flow })
    done (t.when (s.pwr.kind == 7) (·.put R.PWR_STAT_LAST 3)).pinAfterWake
  else if s.pwr.mode = .standby && s.pwr.wake == some .handoff then
    done (((s.handOver k qr qb).resumeRun).twinResume (s.get R.PWR_WLHDR_COUNT)).pinAfterWake
  else done s

/-! ## RESET_N -/

/-- RESET_PIN_ASSERT (R136, R137, R749, spec/04 At the edges): RESET_N has been low for two always-on periods; the chip's own low level is
none. From STANDBY, REST and E3 the wake sequence runs first. Log entry 19, DEDUCED. -/
def execResetPinAssert (s : State) : Host.Outcome State Fault Refusal :=
  let p := s.pwr
  if p.mode = .off || p.rstDrive then done s
  else
    let t := s.modPwr (fun p => { p with pinLow := true })
    match p.mode with
    | .standby =>
      let u := t.modPwr (fun p => { p with pinPend := true })
      done (if p.wake.isNone then u.startWake else u)
    | .rest => done (t.modPwr (fun p => { p with pinPend := true })).startWake
    | .srrHold => done ((t.lpHandoff false).resetCause 3)
    | .start => done (if p.kind = 7 then t.modPwr (fun p => { p with pinPend := true }) else t.resetCause 3)
    | _ =>
      if p.entry = some .e3 then done (t.modPwr (fun p => { p with pinPend := true }))
      else done ((t.when (!s.outranks 3) (·.jotEnd 8)).resetCause 3)

/-- RESET_PIN_RELEASE (R136): RESET_N has been high for one always-on period. -/
def execResetPinRelease (s : State) : Host.Outcome State Fault Refusal := done (s.modPwr (fun p => { p with pinLow := false }))

end Sys2Proof.Machine
end

