-- ==== Sys2Proof/Machine/Commit.lean ====
section
/-!
DEFINITION. Machine/Commit.lean: the completion of long operations (spec/09), and the commit of a persist and what each asker of one does at it (spec/05 R171 to R176, R184, R187, spec/10 R327,
R339, spec/25 R699, spec/20).
-/
namespace Sys2Proof.Machine

/-- The sequence number in word 0 of a journal record or a fault-log entry (R183, R337). -/
def Persist.seq (p : Persist) : Nat := getBits (p.data.getD 0 0) 0 40

/-- The position record has committed (R183 to R185, R612). -/
def State.journalCommitted (s : State) (p : Persist) (reason : BitVec 8) : State :=
  let t := (s.put R.MEM_JSEQ_SEQ p.seq).modMem (fun m => { m with jSlot := (p.target.toNat - 0x70000) / 16 })
  if reason = 4 then t.shutdownCommit else t

/-- The fault-log entry has committed (R339); that of an escalation lets its reset begin (R327). Log entry 18, DEDUCED. -/
def State.flogCommitted (s : State) (p : Persist) (esc : Bool) : State :=
  let t := (s.put R.SCH_FLOGSEQ_SEQ p.seq).modMem (fun m => { m with flogSlot := (p.target.toNat - 0x7E000) / 8 })
  if esc then t.escReset false else t

/-- PERSIST_COMMIT (R170, R171, R173): the commit marker of the persist being staged is written. -/
def execPersistCommit (s : State) : Host.Outcome State Fault Refusal :=
  match s.persistEngine, s.mem.persists.find? (·.staging) with
  | true, some p =>
    let t := s.commitSlot p
    match p.owner with
    | .op id => done (t.finishOp id 0 0 0 1)
    | .journal r => done (t.journalCommitted p r)
    | .faultLog e => done (t.flogCommitted p e)
    | .shadow _ | .pair => done t
    | .writeOnce op => done (t.woCommit op)
    | .ledger tag => done (t.ledgCommitted tag)
    | .supervisor c prof => done (t.supCommitted c prof)
  | _, _ => done s

/-- Complete an operation: an nsend ends here, and the call that follows a completed one is taken (R307 to R309, R316). Log entry 73, DESIGN
CHOICE. -/
def State.completeOp (s : State) (o : Op) : State :=
  match o.body with
  | .nsend _ d lin => s.nsendEnd o d lin
  | .svc .. => (s.complete o).svcNext s.freeWord.toNat
  | _ => s.complete o

/-- LONG_OP_COMPLETE (R286, R288 to R290, R329): the strand's operation k, counted from its oldest, completes. -/
def execLongOpComplete (i : StrandId) (k : Fin 2) (s : State) : Host.Outcome State Fault Refusal :=
  match (s.opsOf i)[k.val]? with
  | some o => done (s.completeOp o)
  | none => done s

end Sys2Proof.Machine
end

