-- ==== Sys2Proof/Machine/Dispatch.lean ====
section
/-!
DEFINITION. Machine/Dispatch.lean: the meaning of each command, one arm per row of spec/opcode_table.json.
-/
namespace Sys2Proof.Machine

def exec (i : Instr) (st : State) : Host.Outcome State Fault Refusal :=
  match i with
  | .registerWrite m a v => Sys2Proof.Machine.execRegisterWrite m a v st
  | .powerOn => Sys2Proof.Machine.execPowerOn st
  | .brownout src => Sys2Proof.Machine.execBrownout src st
  | .supplyLossOff => Sys2Proof.Machine.execSupplyLossOff st
  | .offLatchRelease => Sys2Proof.Machine.execOffLatchRelease st
  | .vsupSourceSwitch toVrsv => Sys2Proof.Machine.execVsupSourceSwitch toVrsv st
  | .vbatuvSet => Sys2Proof.Machine.execVbatuvSet st
  | .vbatuvClear => Sys2Proof.Machine.execVbatuvClear st
  | .srrHoldEnd => Sys2Proof.Machine.execSrrHoldEnd st
  | .resetPinAssert => Sys2Proof.Machine.execResetPinAssert st
  | .resetPinRelease => Sys2Proof.Machine.execResetPinRelease st
  | .softwareReset m v => Sys2Proof.Machine.execSoftwareReset m v st
  | .bootFlow s1 s2 s3 => Sys2Proof.Machine.execBootFlow s1 s2 s3 st
  | .imageTryEnd t => Sys2Proof.Machine.execImageTryEnd t st
  | .hostGo m => Sys2Proof.Machine.execHostGo m st
  | .hostTryTimeout => Sys2Proof.Machine.execHostTryTimeout st
  | .referenceValid => Sys2Proof.Machine.execReferenceValid st
  | .referenceLost => Sys2Proof.Machine.execReferenceLost st
  | .beatRelease => Sys2Proof.Machine.execBeatRelease st
  | .dllCorrection line drift => Sys2Proof.Machine.execDllCorrection line drift st
  | .dtimeHandoff k qr qb => Sys2Proof.Machine.execDtimeHandoff k qr qb st
  | .syncEdge announced => Sys2Proof.Machine.execSyncEdge announced st
  | .beaconSample fwd => Sys2Proof.Machine.execBeaconSample fwd st
  | .beaconTimeout => Sys2Proof.Machine.execBeaconTimeout st
  | .holdoverExpiry => Sys2Proof.Machine.execHoldoverExpiry st
  | .tpulseBoundary => Sys2Proof.Machine.execTpulseBoundary st
  | .tpulseEnd => Sys2Proof.Machine.execTpulseEnd st
  | .reqRun m => Sys2Proof.Machine.execReqRun m st
  | .reqDoze m => Sys2Proof.Machine.execReqDoze m st
  | .reqStandby m => Sys2Proof.Machine.execReqStandby m st
  | .reqRest m => Sys2Proof.Machine.execReqRest m st
  | .entryDrainEnd => Sys2Proof.Machine.execEntryDrainEnd st
  | .drainLimitExpiry => Sys2Proof.Machine.execDrainLimitExpiry st
  | .pointOfNoReturn => Sys2Proof.Machine.execPointOfNoReturn st
  | .entryComplete => Sys2Proof.Machine.execEntryComplete st
  | .standbyDeepen => Sys2Proof.Machine.execStandbyDeepen st
  | .wakePinEdge k => Sys2Proof.Machine.execWakePinEdge k st
  | .wakeTimerExpiry => Sys2Proof.Machine.execWakeTimerExpiry st
  | .peerActivityWake => Sys2Proof.Machine.execPeerActivityWake st
  | .lpHallSample d levels => Sys2Proof.Machine.execLpHallSample d levels st
  | .ramWriteback a => Sys2Proof.Machine.execRamWriteback a st
  | .mramWriteback a => Sys2Proof.Machine.execMramWriteback a st
  | .ramScrub bits => Sys2Proof.Machine.execRamScrub bits st
  | .mramScrub bits => Sys2Proof.Machine.execMramScrub bits st
  | .persistPhase1Start => Sys2Proof.Machine.execPersistPhase1Start st
  | .persistCommit => Sys2Proof.Machine.execPersistCommit st
  | .persistRetire => Sys2Proof.Machine.execPersistRetire st
  | .journalPeriod => Sys2Proof.Machine.execJournalPeriod st
  | .journalRequest m => Sys2Proof.Machine.execJournalRequest m st
  | .programBootKey m => Sys2Proof.Machine.execProgramBootKey m st
  | .programUnlockCode m => Sys2Proof.Machine.execProgramUnlockCode m st
  | .setLockWord m => Sys2Proof.Machine.execSetLockWord m st
  | .clrcnt m => Sys2Proof.Machine.execClrcnt m st
  | .strandRunnable s => Sys2Proof.Machine.execStrandRunnable s st
  | .deadlineReached s => Sys2Proof.Machine.execDeadlineReached s st
  | .strandDrainEnd s => Sys2Proof.Machine.execStrandDrainEnd s st
  | .evset m v => Sys2Proof.Machine.execEvset m v st
  | .wdkick m v => Sys2Proof.Machine.execWdkick m v st
  | .watchdogWindowOpen => Sys2Proof.Machine.execWatchdogWindowOpen st
  | .watchdogExpiry => Sys2Proof.Machine.execWatchdogExpiry st
  | .escalationDrainEnd => Sys2Proof.Machine.execEscalationDrainEnd st
  | .escalationLogTimeout => Sys2Proof.Machine.execEscalationLogTimeout st
  | .registerFileParityError s => Sys2Proof.Machine.execRegisterFileParityError s st
  | .add s x => Sys2Proof.Machine.execAdd s x st
  | .sub s x => Sys2Proof.Machine.execSub s x st
  | .adc s x => Sys2Proof.Machine.execAdc s x st
  | .sbc s x => Sys2Proof.Machine.execSbc s x st
  | .neg s x => Sys2Proof.Machine.execNeg s x st
  | .abs s x => Sys2Proof.Machine.execAbs s x st
  | .min s x => Sys2Proof.Machine.execMin s x st
  | .max s x => Sys2Proof.Machine.execMax s x st
  | .and s x => Sys2Proof.Machine.execAnd s x st
  | .or s x => Sys2Proof.Machine.execOr s x st
  | .xor s x => Sys2Proof.Machine.execXor s x st
  | .andn s x => Sys2Proof.Machine.execAndn s x st
  | .orn s x => Sys2Proof.Machine.execOrn s x st
  | .xnor s x => Sys2Proof.Machine.execXnor s x st
  | .shl s x => Sys2Proof.Machine.execShl s x st
  | .shr s x => Sys2Proof.Machine.execShr s x st
  | .asr s x => Sys2Proof.Machine.execAsr s x st
  | .ror s x => Sys2Proof.Machine.execRor s x st
  | .asrr s x => Sys2Proof.Machine.execAsrr s x st
  | .extu s len x => Sys2Proof.Machine.execExtu s len x st
  | .exts s len x => Sys2Proof.Machine.execExts s len x st
  | .ins s len x => Sys2Proof.Machine.execIns s len x st
  | .clz s len x => Sys2Proof.Machine.execClz s len x st
  | .ctz s len x => Sys2Proof.Machine.execCtz s len x st
  | .popc s len x => Sys2Proof.Machine.execPopc s len x st
  | .brev s len x => Sys2Proof.Machine.execBrev s len x st
  | .addi s x => Sys2Proof.Machine.execAddi s x st
  | .subi s x => Sys2Proof.Machine.execSubi s x st
  | .andi s x => Sys2Proof.Machine.execAndi s x st
  | .ori s x => Sys2Proof.Machine.execOri s x st
  | .xori s x => Sys2Proof.Machine.execXori s x st
  | .shi s x => Sys2Proof.Machine.execShi s x st
  | .rsbi s x => Sys2Proof.Machine.execRsbi s x st
  | .mul s x => Sys2Proof.Machine.execMul s x st
  | .mulh s x => Sys2Proof.Machine.execMulh s x st
  | .mula s x => Sys2Proof.Machine.execMula s x st
  | .mac s x => Sys2Proof.Machine.execMac s x st
  | .msu s x => Sys2Proof.Machine.execMsu s x st
  | .clra s x => Sys2Proof.Machine.execClra s x st
  | .narw s x => Sys2Proof.Machine.execNarw s x st
  | .mfah s x => Sys2Proof.Machine.execMfah s x st
  | .mfal s x => Sys2Proof.Machine.execMfal s x st
  | .mta s x => Sys2Proof.Machine.execMta s x st
  | .cvq24 s x => Sys2Proof.Machine.execCvq24 s x st
  | .cvq47 s x => Sys2Proof.Machine.execCvq47 s x st
  | .cvi24 s x => Sys2Proof.Machine.execCvi24 s x st
  | .cv24i s x => Sys2Proof.Machine.execCv24i s x st
  | .li s x => Sys2Proof.Machine.execLi s x st
  | .lipc s x => Sys2Proof.Machine.execLipc s x st
  | .ld s x => Sys2Proof.Machine.execLd s x st
  | .st s x => Sys2Proof.Machine.execSt s x st
  | .lea s x => Sys2Proof.Machine.execLea s x st
  | .b s x => Sys2Proof.Machine.execB s x st
  | .br s x => Sys2Proof.Machine.execBr s x st
  | .cmp s x => Sys2Proof.Machine.execCmp s x st
  | .cmn s x => Sys2Proof.Machine.execCmn s x st
  | .tst s x => Sys2Proof.Machine.execTst s x st
  | .sel s x => Sys2Proof.Machine.execSel s x st
  | .setc s x => Sys2Proof.Machine.execSetc s x st
  | .mfst s x => Sys2Proof.Machine.execMfst s x st
  | .mtst s x => Sys2Proof.Machine.execMtst s x st
  | .stclr s x => Sys2Proof.Machine.execStclr s x st
  | .stset s x => Sys2Proof.Machine.execStset s x st
  | .divs s x => Sys2Proof.Machine.execDivs s x st
  | .divu s x => Sys2Proof.Machine.execDivu s x st
  | .rems s x => Sys2Proof.Machine.execRems s x st
  | .remu s x => Sys2Proof.Machine.execRemu s x st
  | .divq24 s x => Sys2Proof.Machine.execDivq24 s x st
  | .divq47 s x => Sys2Proof.Machine.execDivq47 s x st
  | .isqrt s x => Sys2Proof.Machine.execIsqrt s x st
  | .sqrtq24 s x => Sys2Proof.Machine.execSqrtq24 s x st
  | .sqrtq47 s x => Sys2Proof.Machine.execSqrtq47 s x st
  | .sincos s x => Sys2Proof.Machine.execSincos s x st
  | .polar s x => Sys2Proof.Machine.execPolar s x st
  | .rotv s x => Sys2Proof.Machine.execRotv s x st
  | .amswap s x => Sys2Proof.Machine.execAmswap s x st
  | .amadd s x => Sys2Proof.Machine.execAmadd s x st
  | .amand s x => Sys2Proof.Machine.execAmand s x st
  | .amor s x => Sys2Proof.Machine.execAmor s x st
  | .amxor s x => Sys2Proof.Machine.execAmxor s x st
  | .amcas s x => Sys2Proof.Machine.execAmcas s x st
  | .persist s x => Sys2Proof.Machine.execPersist s x st
  | .rld s x => Sys2Proof.Machine.execRld s x st
  | .rst s x => Sys2Proof.Machine.execRst s x st
  | .nsend s x => Sys2Proof.Machine.execNsend s x st
  | .sig s x => Sys2Proof.Machine.execSig s x st
  | .wait s x => Sys2Proof.Machine.execWait s x st
  | .wmon s x => Sys2Proof.Machine.execWmon s x st
  | .wmoff s x => Sys2Proof.Machine.execWmoff s x st
  | .sync s x => Sys2Proof.Machine.execSync s x st
  | .spawn s x => Sys2Proof.Machine.execSpawn s x st
  | .endStrand s x => Sys2Proof.Machine.execEndStrand s x st
  | .park s x => Sys2Proof.Machine.execPark s x st
  | .resume s x => Sys2Proof.Machine.execResume s x st
  | .free s x => Sys2Proof.Machine.execFree s x st
  | .setcls s x => Sys2Proof.Machine.execSetcls s x st
  | .self s x => Sys2Proof.Machine.execSelf s x st
  | .rdt s x => Sys2Proof.Machine.execRdt s x st
  | .takeCourse s x => Sys2Proof.Machine.execTakeCourse s x st
  | .giveCourse s x => Sys2Proof.Machine.execGiveCourse s x st
  | .queryState s x => Sys2Proof.Machine.execQueryState s x st
  | .tuneMotor s x => Sys2Proof.Machine.execTuneMotor s x st
  | .moveTo s x => Sys2Proof.Machine.execMoveTo s x st
  | .moveVel s x => Sys2Proof.Machine.execMoveVel s x st
  | .stopMotion s x => Sys2Proof.Machine.execStopMotion s x st
  | .holdCapo s x => Sys2Proof.Machine.execHoldCapo s x st
  | .releaseHold s x => Sys2Proof.Machine.execReleaseHold s x st
  | .profclr s x => Sys2Proof.Machine.execProfclr s x st
  | .limitCurrent s x => Sys2Proof.Machine.execLimitCurrent s x st
  | .clearFault s x present => Sys2Proof.Machine.execClearFault s x present st
  | .parget s x => Sys2Proof.Machine.execParget s x st
  | .parset s x => Sys2Proof.Machine.execParset s x st
  | .mrecget s x => Sys2Proof.Machine.execMrecget s x st
  | .polreload s x => Sys2Proof.Machine.execPolreload s x st
  | .longOpComplete s k => Sys2Proof.Machine.execLongOpComplete s k st
  | .peripheralService => Sys2Proof.Machine.execPeripheralService st
  | .remoteAccessReply s k r => Sys2Proof.Machine.execRemoteAccessReply s k r st
  | .remoteAccessTimeout s k => Sys2Proof.Machine.execRemoteAccessTimeout s k st
  | .periodBoundary c => Sys2Proof.Machine.execPeriodBoundary c st
  | .counterPerMatch c => Sys2Proof.Machine.execCounterPerMatch c st
  | .compareEdge c k => Sys2Proof.Machine.execCompareEdge c k st
  | .auxMatch c => Sys2Proof.Machine.execAuxMatch c st
  | .deadTimeRise h high held => Sys2Proof.Machine.execDeadTimeRise h high held st
  | .courseStart m c => Sys2Proof.Machine.execCourseStart m c st
  | .courseStop m c => Sys2Proof.Machine.execCourseStop m c st
  | .timedStart m v => Sys2Proof.Machine.execTimedStart m v st
  | .timedStartReached => Sys2Proof.Machine.execTimedStartReached st
  | .maskSet m c idx => Sys2Proof.Machine.execMaskSet m c idx st
  | .maskAdvance m c => Sys2Proof.Machine.execMaskAdvance m c st
  | .maskRetreat m c => Sys2Proof.Machine.execMaskRetreat m c st
  | .commutationTakeEffect c => Sys2Proof.Machine.execCommutationTakeEffect c st
  | .bemfCrossing c k rising => Sys2Proof.Machine.execBemfCrossing c k rising st
  | .bemfDelayExpiry c => Sys2Proof.Machine.execBemfDelayExpiry c st
  | .singleShuntSample c second => Sys2Proof.Machine.execSingleShuntSample c second st
  | .gateSupplyReady d => Sys2Proof.Machine.execGateSupplyReady d st
  | .gateSupplyLockout d vgl => Sys2Proof.Machine.execGateSupplyLockout d vgl st
  | .gateSupplyRecovery d vgl => Sys2Proof.Machine.execGateSupplyRecovery d vgl st
  | .uvclr m d => Sys2Proof.Machine.execUvclr m d st
  | .interlockRise h high => Sys2Proof.Machine.execInterlockRise h high st
  | .externalPinLevel h enable level => Sys2Proof.Machine.execExternalPinLevel h enable level st
  | .serialGateCommand m c v => Sys2Proof.Machine.execSerialGateCommand m c v st
  | .serialGateTimeout c => Sys2Proof.Machine.execSerialGateTimeout c st
  | .sourceGuardEnd h => Sys2Proof.Machine.execSourceGuardEnd h st
  | .gateFault h high kind => Sys2Proof.Machine.execGateFault h high kind st
  | .vdsTrip h high => Sys2Proof.Machine.execVdsTrip h high st
  | .ocTrip c => Sys2Proof.Machine.execOcTrip c st
  | .ovTrip => Sys2Proof.Machine.execOvTrip st
  | .uvTrip => Sys2Proof.Machine.execUvTrip st
  | .thermTrip k => Sys2Proof.Machine.execThermTrip k st
  | .tsdTrip k => Sys2Proof.Machine.execTsdTrip k st
  | .ntcStale k => Sys2Proof.Machine.execNtcStale k st
  | .blankingWindowEnd c => Sys2Proof.Machine.execBlankingWindowEnd c st
  | .protectionClear m c present => Sys2Proof.Machine.execProtectionClear m c present st
  | .slotAssignment => Sys2Proof.Machine.execSlotAssignment st
  | .conversionResult raw => Sys2Proof.Machine.execConversionResult raw st
  | .spareRotation ofs gain skew => Sys2Proof.Machine.execSpareRotation ofs gain skew st
  | .scanGo m => Sys2Proof.Machine.execScanGo m st
  | .qpop m => Sys2Proof.Machine.execQpop m st
  | .qdclr m => Sys2Proof.Machine.execQdclr m st
  | .icWindowClose unit cnt n short => Sys2Proof.Machine.execIcWindowClose unit cnt n short st
  | .icOverRange qb => Sys2Proof.Machine.execIcOverRange qb st
  | .counterLoad m qb v => Sys2Proof.Machine.execCounterLoad m qb v st
  | .ic1PassGo m => Sys2Proof.Machine.execIc1PassGo m st
  | .engineTakeEntry n => Sys2Proof.Machine.execEngineTakeEntry n st
  | .engineOutput n => Sys2Proof.Machine.execEngineOutput n st
  | .engineOutputWrite n => Sys2Proof.Machine.execEngineOutputWrite n st
  | .bankLoad m n => Sys2Proof.Machine.execBankLoad m n st
  | .bankCopyEnd n => Sys2Proof.Machine.execBankCopyEnd n st
  | .bankSwap m n => Sys2Proof.Machine.execBankSwap m n st
  | .hallRegistration c levels => Sys2Proof.Machine.execHallRegistration c levels st
  | .posSet m c v => Sys2Proof.Machine.execPosSet m c v st
  | .posAdd m c v => Sys2Proof.Machine.execPosAdd m c v st
  | .captureEdge n partner rising tap => Sys2Proof.Machine.execCaptureEdge n partner rising tap st
  | .capturePop m n => Sys2Proof.Machine.execCapturePop m n st
  | .ntimeRead m => Sys2Proof.Machine.execNtimeRead m st
  | .aqTakeSample n => Sys2Proof.Machine.execAqTakeSample n st
  | .aqCaptureDone n => Sys2Proof.Machine.execAqCaptureDone n st
  | .aqArm m n => Sys2Proof.Machine.execAqArm m n st
  | .aqStop m n => Sys2Proof.Machine.execAqStop m n st
  | .aqForce m n => Sys2Proof.Machine.execAqForce m n st
  | .globalArmGo m => Sys2Proof.Machine.execGlobalArmGo m st
  | .globalArmReceived t => Sys2Proof.Machine.execGlobalArmReceived t st
  | .globalArmTime => Sys2Proof.Machine.execGlobalArmTime st
  | .firePulseEnd => Sys2Proof.Machine.execFirePulseEnd st
  | .fireMessage p dt => Sys2Proof.Machine.execFireMessage p dt st
  | .fireEdge => Sys2Proof.Machine.execFireEdge st
  | .arrangementChange c => Sys2Proof.Machine.execArrangementChange c st
  | .tuningStepEnd c ok v v2 => Sys2Proof.Machine.execTuningStepEnd c ok v v2 st
  | .motionEnd c cause => Sys2Proof.Machine.execMotionEnd c cause st
  | .pinchJudgment c ma ia => Sys2Proof.Machine.execPinchJudgment c ma ia st
  | .stallDecision c => Sys2Proof.Machine.execStallDecision c st
  | .stallRetry c => Sys2Proof.Machine.execStallRetry c st
  | .deratingUpdate c => Sys2Proof.Machine.execDeratingUpdate c st
  | .senseWireCheckGo m => Sys2Proof.Machine.execSenseWireCheckGo m st
  | .senseWireSettleEnd => Sys2Proof.Machine.execSenseWireSettleEnd st
  | .shutdownParkEnd => Sys2Proof.Machine.execShutdownParkEnd st
  | .shutdownParkLimit => Sys2Proof.Machine.execShutdownParkLimit st
  | .reserveTimeExpiry => Sys2Proof.Machine.execReserveTimeExpiry st
  | .stackBelowVend => Sys2Proof.Machine.execStackBelowVend st
  | .reserveConnect m => Sys2Proof.Machine.execReserveConnect m st
  | .connectRelease => Sys2Proof.Machine.execConnectRelease st
  | .hostSelect => Sys2Proof.Machine.execHostSelect st
  | .hostNop tok bs => Sys2Proof.Machine.execHostNop tok bs st
  | .hostRd tok bs => Sys2Proof.Machine.execHostRd tok bs st
  | .hostWr tok bs => Sys2Proof.Machine.execHostWr tok bs st
  | .hostWrt tok bs => Sys2Proof.Machine.execHostWrt tok bs st
  | .hostRdm tok bs => Sys2Proof.Machine.execHostRdm tok bs st
  | .hostStw tok bs fin => Sys2Proof.Machine.execHostStw tok bs fin st
  | .hostStreamWord v fin => Sys2Proof.Machine.execHostStreamWord v fin st
  | .xipWordDelivered w => Sys2Proof.Machine.execXipWordDelivered w st
  | .xipMissTimeout s => Sys2Proof.Machine.execXipMissTimeout s st
  | .xspInv m => Sys2Proof.Machine.execXspInv m st
  | .softwareFrameGo m => Sys2Proof.Machine.execSoftwareFrameGo m st
  | .softwareFrameEnd data => Sys2Proof.Machine.execSoftwareFrameEnd data st
  | .lockRequest m => Sys2Proof.Machine.execLockRequest m st
  | .lockGrant => Sys2Proof.Machine.execLockGrant st
  | .lockRelease m => Sys2Proof.Machine.execLockRelease m st
  | .canFrameValid f => Sys2Proof.Machine.execCanFrameValid f st
  | .canProtocolException => Sys2Proof.Machine.execCanProtocolException st
  | .canTxEnd k ok => Sys2Proof.Machine.execCanTxEnd k ok st
  | .canTxAbort m mask => Sys2Proof.Machine.execCanTxAbort m mask st
  | .canBusError lec tx => Sys2Proof.Machine.execCanBusError lec tx st
  | .canRecover m => Sys2Proof.Machine.execCanRecover m st
  | .busOffRecoveryEnd => Sys2Proof.Machine.execBusOffRecoveryEnd st
  | .canWakeupPattern => Sys2Proof.Machine.execCanWakeupPattern st
  | .canSelectiveWakeFrame f => Sys2Proof.Machine.execCanSelectiveWakeFrame f st
  | .canWakeTransmit m => Sys2Proof.Machine.execCanWakeTransmit m st
  | .linFrameReceived f => Sys2Proof.Machine.execLinFrameReceived f st
  | .linBusWake => Sys2Proof.Machine.execLinBusWake st
  | .linWake m => Sys2Proof.Machine.execLinWake m st
  | .rcpRequest q => Sys2Proof.Machine.execRcpRequest q st
  | .timeBeaconSync bn => Sys2Proof.Machine.execTimeBeaconSync bn st
  | .timeBeaconFollow bn tm => Sys2Proof.Machine.execTimeBeaconFollow bn tm st
  | .beaconSend => Sys2Proof.Machine.execBeaconSend st
  | .creditReturn src n1 n2 n3 => Sys2Proof.Machine.execCreditReturn src n1 n2 n3 st
  | .creditResync src n => Sys2Proof.Machine.execCreditResync src n st
  | .creditGrant dst => Sys2Proof.Machine.execCreditGrant dst st
  | .ledgStep m v => Sys2Proof.Machine.execLedgStep m v st
  | .ledgEnd m v => Sys2Proof.Machine.execLedgEnd m v st
  | .queryRest m tgt => Sys2Proof.Machine.execQueryRest m tgt st
  | .abortRest m => Sys2Proof.Machine.execAbortRest m st
  | .restQuery src vn tgt => Sys2Proof.Machine.execRestQuery src vn tgt st
  | .readyMsg src vn => Sys2Proof.Machine.execReadyMsg src vn st
  | .busyMsg src vn => Sys2Proof.Machine.execBusyMsg src vn st
  | .restCommit src vn tgt ci sof => Sys2Proof.Machine.execRestCommit src vn tgt ci sof st
  | .restCancel src vn => Sys2Proof.Machine.execRestCancel src vn st
  | .wakeAbort src vn cause => Sys2Proof.Machine.execWakeAbort src vn cause st
  | .wakeFrame src code => Sys2Proof.Machine.execWakeFrame src code st
  | .voteTimeout => Sys2Proof.Machine.execVoteTimeout st
  | .answerTimeout => Sys2Proof.Machine.execAnswerTimeout st
  | .commitIntervalEnd => Sys2Proof.Machine.execCommitIntervalEnd st
  | .holdEnd => Sys2Proof.Machine.execHoldEnd st
  | .lateWakeRepeat => Sys2Proof.Machine.execLateWakeRepeat st
  | .journalWindowEnd late => Sys2Proof.Machine.execJournalWindowEnd late st
  | .journalFrame f => Sys2Proof.Machine.execJournalFrame f st
  | .twinNak n => Sys2Proof.Machine.execTwinNak n st
  | .statusFrame aseq div => Sys2Proof.Machine.execStatusFrame aseq div st
  | .frameMissing => Sys2Proof.Machine.execFrameMissing st
  | .statusLoss => Sys2Proof.Machine.execStatusLoss st
  | .twinCheckpoint b => Sys2Proof.Machine.execTwinCheckpoint b st
  | .twfailRise => Sys2Proof.Machine.execTwfailRise st
  | .twinHandover m => Sys2Proof.Machine.execTwinHandover m st
  | .handoverRelease => Sys2Proof.Machine.execHandoverRelease st
  | .twinClaim => Sys2Proof.Machine.execTwinClaim st
  | .pairStart x => Sys2Proof.Machine.execPairStart x st
  | .pairStartTimeout => Sys2Proof.Machine.execPairStartTimeout st
  | .resumeTimeout => Sys2Proof.Machine.execResumeTimeout st
  | .cascadeStart pres aligned => Sys2Proof.Machine.execCascadeStart pres aligned st
  | .chainTimeout => Sys2Proof.Machine.execChainTimeout st
  | .remoteAccessServe p a w => Sys2Proof.Machine.execRemoteAccessServe p a w st
  | .linkFrameCrcError portB => Sys2Proof.Machine.execLinkFrameCrcError portB st
  | .portDown portB => Sys2Proof.Machine.execPortDown portB st
  | .lossReport p => Sys2Proof.Machine.execLossReport p st
  | .cascadeRealign m => Sys2Proof.Machine.execCascadeRealign m st
  | .rsvcgo m v => Sys2Proof.Machine.execRsvcgo m v st
  | .remoteCallComplete => Sys2Proof.Machine.execRemoteCallComplete st
  | .tapReset => Sys2Proof.Machine.execTapReset st
  | .tapExtest => Sys2Proof.Machine.execTapExtest st
  | .tapSamplePreload pins => Sys2Proof.Machine.execTapSamplePreload pins st
  | .tapIdcode => Sys2Proof.Machine.execTapIdcode st
  | .tapClamp => Sys2Proof.Machine.execTapClamp st
  | .tapHighz => Sys2Proof.Machine.execTapHighz st
  | .tapBypass => Sys2Proof.Machine.execTapBypass st
  | .tapUnlock code => Sys2Proof.Machine.execTapUnlock code st
  | .debugPoll => Sys2Proof.Machine.execDebugPoll st
  | .debugRead a => Sys2Proof.Machine.execDebugRead a st
  | .debugWrite a v => Sys2Proof.Machine.execDebugWrite a v st
  | .mhalt m => Sys2Proof.Machine.execMhalt m st
  | .dbgResume m => Sys2Proof.Machine.execDbgResume m st
  | .stepStrand m s => Sys2Proof.Machine.execStepStrand m s st
  | .strandHalt m hi v => Sys2Proof.Machine.execStrandHalt m hi v st
  | .dbgRdataWrite m v => Sys2Proof.Machine.execDbgRdataWrite m v st
  | .tracePop m => Sys2Proof.Machine.execTracePop m st
  | .regulatorsValid s1 s2 s3 => Sys2Proof.Machine.execRegulatorsValid s1 s2 s3 st
  | .pllLockRegained => Sys2Proof.Machine.execPllLockRegained st
  | .connectDelayExpiry => Sys2Proof.Machine.execConnectDelayExpiry st
  | .canTransmissionStart k => Sys2Proof.Machine.execCanTransmissionStart k st
  | .linHeaderReceived id => Sys2Proof.Machine.execLinHeaderReceived id st
  | .portTrained portB => Sys2Proof.Machine.execPortTrained portB st
  | .cascadeNak portB => Sys2Proof.Machine.execCascadeNak portB st
  | .aqRecordWrite n => Sys2Proof.Machine.execAqRecordWrite n st
  | .gpioInputChange n level => Sys2Proof.Machine.execGpioInputChange n level st
  | .cbcConditionAbsent c => Sys2Proof.Machine.execCbcConditionAbsent c st
  | .illegalInstruction s w => Sys2Proof.Machine.execIllegalInstruction s w st
  | .fetchFault s cause => Sys2Proof.Machine.execFetchFault s cause st

end Sys2Proof.Machine
end

