-- ==== Sys2Proof/Machine/Tick.lean ====
section
/-!
DEFINITION. Machine/Tick.lean: what passes when nothing is commanded: the rest of the present beat of the running clock, in which what
is due comes about and the fret wheel gives one strand its issue, and the start of the next; or, with the beat stopped, one always-on
period (log entry 1, DESIGN CHOICE).
-/
namespace Sys2Proof.Machine

/-! ## Fetch -/

/-- Read the instruction word at a strand's PC, none where it reads uncorrectable (R165, R177, R178, R230); the state holds what the read
counts. -/
def State.fetchWord (s : State) (i : StrandId) : Option Word × State :=
  let a := (s.strand i).pc.toNat
  match region a with
  | .ram => s.ramRead a 1 i.val
  | .mramUser | .mramSys => s.mramRead a 1 i.val
  | .rom => (some (Config.romWord a), s)
  | .xip => (s.flash.hit a, s)
  | _ => (none, s)

/-- The word that a strand would issue, none while its fetch faults, misses or reads uncorrectable. -/
def State.nextWord (s : State) (i : StrandId) : Option Word :=
  if (s.fetchFault i).isSome || s.fetchMiss i then none else (s.fetchWord i).1

/-- The fetch of a strand that could issue misses, and no miss of it runs (R650). -/
def State.fetchWaits (s : State) (i : StrandId) : Bool := s.canIssue i && (s.fetchFault i).isNone && s.fetchMiss i && !s.shalted i

/-- The fetches that miss begin, by strand (R647, R650). -/
def State.fetchMisses (s : State) : State := (List.finRange 64).foldl (fun t i => t.when (t.fetchWaits i) (·.missFetch i)) s

/-! ## Eligibility -/

/-- Whether the word of a strand is a long operation (R284): OP 0x28 to 0x2D and 0x30, and loads and stores of the peripheral region
(R259). -/
def State.longWord (s : State) (i : StrandId) (w : Word) : Bool :=
  let op := opOf w
  (0x28 ≤ op && op < 0x2E) || op = 0x30
    || ((op = 0x18 || op = 0x19) && region ((FmtM.ofWord w).ea (s.strand i)).toNat = .periph)

/-- Whether a strand is eligible but for the in-flight limits (R202, R231, R312, R650): it is RUNNABLE, its fetch has returned, and its
operands are ready; a sync waits for everything of its strand. A fetch that faults or reads uncorrectable issues its fault. -/
def State.operandsReady (s : State) (i : StrandId) : Bool :=
  s.canIssue i &&
    (match s.nextWord i with
    | some w => !(wordRegs w).any (s.pendingReg i) && !(opOf w = 0x2E && xfnOf w = 4 && !(s.opsOf i).isEmpty)
    | none => (s.fetchFault i).isSome || !s.fetchMiss i)

/-- Whether R207 blocks the strand's next instruction. -/
def State.barred207 (s : State) (i : StrandId) : Bool :=
  match s.nextWord i with
  | some w => s.longWord i w && s.limited i
  | none => false

/-! ## The fret -/

/-- The state that a command leaves. -/
def State.run (s : State) (f : State → Host.Outcome State Fault Refusal) : State :=
  match f s with
  | .next t => t
  | _ => s

/-- A strand issues the word at its PC (R197, R230, R250, R251): the conditions that a CLEAR finds present are a free value here. Log entry 3,
DESIGN CHOICE. Log entry 52, DESIGN CHOICE. -/
def State.issueNext (s : State) (i : StrandId) : State :=
  if (s.fetchFault i).isSome || s.fetchMiss i then s.issue i [] true id
  else match s.fetchWord i with
    | (none, t) => ({ s with free := t.free } : State).run (execFetchFault i 4)
    | (some w, t) => match decodeIbben i (t.freeWord.setWidth 13) w with
      | some c => t.run (exec c)
      | none => t.run (execIllegalInstruction i w)

/-- The fret of a beat goes to a strand, or is counted idle; a strand that R207 blocks loses its fret (R203, R204, R207). Log entry 1, DESIGN
CHOICE. Log entry 24, DEDUCED. -/
def State.fretBeat (s : State) : State :=
  let first := s.fretWinner s.operandsReady
  let t := s.when (first.any s.barred207) (·.bump R.SCH_CNT_LIMSTALL)
  match s.fretWinner (fun i => s.operandsReady i && !s.barred207 i) with
  | some i => t.issueNext i
  | none => t.bump R.SCH_CNT_IDLE

/-! ## What falls due in a beat -/

/-- The fast converter: a sequence that starts again, the slot of two beats on, the spare, and the result of this beat (R438 to R458). What
nobody commanded has free coefficients and a free raw code. Log entry 71, DESIGN CHOICE. -/
def State.fadcDue (s : State) : State :=
  let t := s.scanAgain.run execSlotAssignment
  let w := t.freeWord
  let t := if t.spareDue then t.useFree.run (execSpareRotation (w.setWidth 10) ((w >>> 10).setWidth 16) ((w >>> 26).setWidth 7)) else t
  let v := t.freeWord
  if t.convDue.isSome && !t.shadowing then t.useFree.run (execConversionResult (v.setWidth 12)) else t

/-- The integrating converter: windows that close, and results that arrive after those of the fast one (R56, R476, R480). -/
def State.icDues (s : State) : State := (((s.icDue 0).icDue 1).icDue 2).icArrivals

/-- The carriers: timed starts, boundaries, and what the counter values bring about (R341 to R368, R380). -/
def State.carrierDue (s : State) : State :=
  let t := s.run execTimedStartReached
  let t := t.eachCourse (fun c t => t.run (execPeriodBoundary c))
  t.eachCourse (fun c t =>
    let t := ((t.run (execCounterPerMatch c)).run (execCompareEdge c 0)).run (execCompareEdge c 1)
    let t := ((t.run (execCompareEdge c 2)).run (execAuxMatch c)).run (execSingleShuntSample c false)
    ((t.run (execSingleShuntSample c true)).run (execBemfDelayExpiry c)).takeDue c)

/-- The supervisor's courses: a hand-over, the end of STOPPING after STOPT milliseconds, a retry and a derating that are due (R572, R573, R579,
R587, R591). -/
def State.supDue (s : State) : State :=
  s.eachCourse (fun c t =>
    let t := (t.run (execArrangementChange c)).run (execStallRetry c)
    (t.when (t.stopDue c) (·.run (execMotionEnd c 0))).run (execDeratingUpdate c))

/-- The half-bridges: source guards, serial timeouts, blanking windows, and rises whose dead time is over, which no held interlock delays
(R356, R403, R404, R418; log entry 71, DESIGN CHOICE). -/
def State.gateDue (s : State) : State :=
  let t := allHB.foldl (fun t (h : HB) => t.run (execSourceGuardEnd h)) s
  let t := t.eachCourse (fun c t => (t.run (execSerialGateTimeout c)).run (execBlankingWindowEnd c))
  allHB.foldl (fun t (h : HB) => (t.run (execDeadTimeRise h true false)).run (execDeadTimeRise h false false)) t

/-- Remote accesses that no reply has ended (R305). -/
def State.remoteDue (s : State) : State :=
  (List.finRange 64).foldl (fun t i => (t.run (execRemoteAccessTimeout i 1)).run (execRemoteAccessTimeout i 0)) s

/-- What falls due of the system: NTC results that stay away, network time, remote accesses, the cascade, the vote, the ledger, the reserve and
the shutdown, the boot, the timer and an entry (R86, R98, R122, R157, R305, R423, R612, R716). -/
def State.systemDue (s : State) : State :=
  let t := ((([0, 1, 2, 3] : List (Fin 4)).foldl (fun t k => t.run (execNtcStale k)) s).ntDue).remoteDue
  let t := t.jPeriod.chainDue.voteDue.ledgDue.reserveDue
  (t.hostTryEnd.wtimerEnd).entryDrainEnd.entryLimit

/-- Everything that is due in this beat and that no command has brought about (log entry 1, DESIGN CHOICE): a condition that a beat of device
time meets comes about by the end of that beat. -/
def State.flush (s : State) : State :=
  let t := (((s.twinDue.run execLockGrant).xipDue).wdWindow).wdTimeout
  let t := ((t.fadcDue.icDues).carrierDue.gateDue).urgentSlot
  let t := t.systemDue.supDue.tcBeat
  (t.run execGlobalArmTime).fireEnd.when t.handoverDue (·.release)

/-! ## One beat -/

/-- FADC, AQ, FE and the supervisor follow what the beat has brought: the supervisor sees latched protection sources (R579) and the state of its
engines in its courses, S4 its end (R612), a stream the port that is free again (R632). -/
def State.follow (s : State) : State :=
  let t := s.eachCourse (fun c t => (t.supFault c).supFe c)
  t.vendCheck.streamRun

/-- The counts of SCH_STAT that the next beat shows (spec/06). -/
def State.countRun (s : State) : State :=
  { s with core := { s.core with
    prevC0 := s.c0Run, prevRun := (s.core.strands.toList.filter (fun x => x.state = .runnable)).length
    strands := s.core.strands.map (fun x => { x with wrote := [] }) } }

/-- The end of a beat after its fret: the end of a drain, what follows from the beat, the digest, the lines that strands hear, and the counts
(R209, R217, R327, R745). -/
def State.afterFret (s : State) : State :=
  let t := (s.escSnap).follow.twinClose.hearLines
  ((t.wdBeat.countRun).ntAge 1).ntBeat

/-- The rest of the present beat: what is due, the fret, and its end (R203). Log entry 1, DESIGN CHOICE. -/
def State.endBeat (s : State) : State := (s.flush.fetchMisses.fretBeat).afterFret

/-- What the start of a beat brings (R121, R215, R327, R328, R341, R356, R472, R581). -/
def State.openBeat (s : State) : State :=
  let t := s.nextLines.shutdownS2
  let t := t.eachCourse (fun c t => (t.carrierBeat c).courseBeat c)
  let t := { t with stage := { t.stage with ntcAge := t.stage.ntcAge.map (· + 1) } }
  let t := t.aoBeat.icBeat
  let t := t.strandsDue.escLog.windowEnd
  let t := t.when t.escLate (·.escReset true)
  t.when (t.time.aoIn == 0) (·.p0)

/-- The next beat starts with its device time (R73). Log entry 1, DESIGN CHOICE. -/
def State.startBeat (s : State) : State := ({ s.modTime (fun x => { x with dtime := x.dtime + 1 }) with now := {} } : State).openBeat

/-- One beat passes. Log entry 1, DESIGN CHOICE. -/
def State.beat (s : State) : State := s.endBeat.startBeat

/-- One always-on period with the beat stopped or not yet handed its time (R78, R79, R117, R121, R125, R472). Log entry 1, DESIGN CHOICE. -/
def State.aoPeriod (s : State) : State :=
  let t := s.deepen.hearLines
  let t := { t.modTime (fun x => { x with aoCount := x.aoCount + 1 }) with now := {} }
  ((t.modTwin (fun x => { x with tail := none })).icPeriod.p10).wtimerEnd

/-- The hand-off at the always-on edge after the beat is released, with free counts of the modulators of IC0 (R79, R489). Log entry 66,
DESIGN CHOICE. -/
def State.handOverDue (s : State) : State :=
  if s.time.handoff && s.time.beatOn then
    (s.useFree 2).run (execDtimeHandoff 0 (BitVec.ofInt 48 (freeCount s.freeWord (s.icEdges 0)))
      (BitVec.ofInt 48 (freeCount s.useFree.freeWord (s.icEdges 1))))
  else s

/-- What passes while nothing is commanded (log entry 1, DESIGN CHOICE). -/
def State.tick (s : State) : State :=
  if s.time.beatOn && !s.time.handoff then s.beat
  else if s.pwr.mode = .off then s
  else s.aoPeriod.handOverDue

end Sys2Proof.Machine
end

