-- ==== Sys2Proof/Machine/Step.lean ====
section
/-!
DEFINITION. Machine/Step.lean: one step of the block takes the command at the front of the queue and runs it; on an empty
queue nothing is commanded and one beat passes, in which a strand may issue (log entry 1, DESIGN CHOICE).
-/
namespace Sys2Proof.Machine

/-- Take the command at the front of the queue and run it with the queue's rest; with none waiting a beat passes (log entry 1, DESIGN CHOICE). -/
def step (st : State) : Host.Outcome State Fault Refusal :=
  match st.pending with
  | [] => .next st.tick
  | i :: rest => exec i { st with pending := rest }

/-- Put the command that a table word spells in front of the queue; no word spells one. -/
def State.withFetchWord (s : State) (nbits w : Nat) : State :=
  match decodeTableWord nbits w with
  | none => s
  | some i => { s with pending := i :: s.pending }

end Sys2Proof.Machine
end

