-- ==== Sys2Proof/WellFormed.lean ====
section
/-!
DEFINITION. WellFormed.lean: which operands a command can come with. A command outside of it is no event of the hardware: the meanings
are total all the same, and say what they do with it.
-/
namespace Sys2Proof

/-- The payload bytes of a DLC (R665). -/
def payloadOf (fdf : Bool) (dlc : Nat) : Nat :=
  if dlc ≤ 8 then dlc else if fdf then [12, 16, 20, 24, 32, 48, 64].getD (dlc - 9) 64 else 8

/-- A frame that CAN can carry (R662, R665): an 11-bit identifier stands in bits 28:18; BRS belongs to FD frames, RTR to classical ones,
and the payload has the length of the DLC. -/
def CanFrame.wellFormed (f : CanFrame) : Bool :=
  (f.ide || decide (f.id.toNat % 2 ^ 18 = 0)) && (f.fdf || !f.brs) && !(f.fdf && f.rtr)
    && decide (f.data.length = (if f.rtr then 0 else payloadOf f.fdf f.dlc.toNat))

/-- A frame that LIN can carry (R680, R681): one to eight response bytes, fewer when it ended with an error. -/
def LinFrame.wellFormed (f : LinFrame) : Bool :=
  decide (1 ≤ f.len.toNat ∧ f.len.toNat ≤ 8 ∧ f.data.length ≤ f.len.toNat ∧ (f.err = 0 → f.data.length = f.len.toNat))

/-- The operands of a command are ones that the hardware can meet: a service row carries its own number in IMM16 (R315, R575), an illegal
word spells no instruction (R251), a fault, a source, a cause or a position is one of those the spec names, and a frame is one that its
bus can carry. -/
def Instr.wellFormed : Instr → Bool
  | .registerWrite _ _ _ => true
  | .powerOn => true
  | .brownout src => decide (src ≠ 0)
  | .supplyLossOff => true
  | .offLatchRelease => true
  | .vsupSourceSwitch _ => true
  | .vbatuvSet => true
  | .vbatuvClear => true
  | .srrHoldEnd => true
  | .resetPinAssert => true
  | .resetPinRelease => true
  | .softwareReset _ _ => true
  | .bootFlow _ _ _ => true
  | .imageTryEnd _ => true
  | .hostGo _ => true
  | .hostTryTimeout => true
  | .referenceValid => true
  | .referenceLost => true
  | .beatRelease => true
  | .dllCorrection _ _ => true
  | .dtimeHandoff _ _ _ => true
  | .syncEdge _ => true
  | .beaconSample _ => true
  | .beaconTimeout => true
  | .holdoverExpiry => true
  | .tpulseBoundary => true
  | .tpulseEnd => true
  | .reqRun _ => true
  | .reqDoze _ => true
  | .reqStandby _ => true
  | .reqRest _ => true
  | .entryDrainEnd => true
  | .drainLimitExpiry => true
  | .pointOfNoReturn => true
  | .entryComplete => true
  | .standbyDeepen => true
  | .wakePinEdge _ => true
  | .wakeTimerExpiry => true
  | .peerActivityWake => true
  | .lpHallSample _ _ => true
  | .ramWriteback _ => true
  | .mramWriteback _ => true
  | .ramScrub _ => true
  | .mramScrub _ => true
  | .persistPhase1Start => true
  | .persistCommit => true
  | .persistRetire => true
  | .journalPeriod => true
  | .journalRequest _ => true
  | .programBootKey _ => true
  | .programUnlockCode _ => true
  | .setLockWord _ => true
  | .clrcnt _ => true
  | .strandRunnable _ => true
  | .deadlineReached _ => true
  | .strandDrainEnd _ => true
  | .evset _ _ => true
  | .wdkick _ _ => true
  | .watchdogWindowOpen => true
  | .watchdogExpiry => true
  | .escalationDrainEnd => true
  | .escalationLogTimeout => true
  | .registerFileParityError _ => true
  | .add _ _ => true
  | .sub _ _ => true
  | .adc _ _ => true
  | .sbc _ _ => true
  | .neg _ _ => true
  | .abs _ _ => true
  | .min _ _ => true
  | .max _ _ => true
  | .and _ _ => true
  | .or _ _ => true
  | .xor _ _ => true
  | .andn _ _ => true
  | .orn _ _ => true
  | .xnor _ _ => true
  | .shl _ _ => true
  | .shr _ _ => true
  | .asr _ _ => true
  | .ror _ _ => true
  | .asrr _ _ => true
  | .extu _ _ _ => true
  | .exts _ _ _ => true
  | .ins _ _ _ => true
  | .clz _ _ _ => true
  | .ctz _ _ _ => true
  | .popc _ _ _ => true
  | .brev _ _ _ => true
  | .addi _ _ => true
  | .subi _ _ => true
  | .andi _ _ => true
  | .ori _ _ => true
  | .xori _ _ => true
  | .shi _ _ => true
  | .rsbi _ _ => true
  | .mul _ _ => true
  | .mulh _ _ => true
  | .mula _ _ => true
  | .mac _ _ => true
  | .msu _ _ => true
  | .clra _ _ => true
  | .narw _ _ => true
  | .mfah _ _ => true
  | .mfal _ _ => true
  | .mta _ _ => true
  | .cvq24 _ _ => true
  | .cvq47 _ _ => true
  | .cvi24 _ _ => true
  | .cv24i _ _ => true
  | .li _ _ => true
  | .lipc _ _ => true
  | .ld _ _ => true
  | .st _ _ => true
  | .lea _ _ => true
  | .b _ _ => true
  | .br _ _ => true
  | .cmp _ _ => true
  | .cmn _ _ => true
  | .tst _ _ => true
  | .sel _ _ => true
  | .setc _ _ => true
  | .mfst _ _ => true
  | .mtst _ _ => true
  | .stclr _ _ => true
  | .stset _ _ => true
  | .divs _ _ => true
  | .divu _ _ => true
  | .rems _ _ => true
  | .remu _ _ => true
  | .divq24 _ _ => true
  | .divq47 _ _ => true
  | .isqrt _ _ => true
  | .sqrtq24 _ _ => true
  | .sqrtq47 _ _ => true
  | .sincos _ _ => true
  | .polar _ _ => true
  | .rotv _ _ => true
  | .amswap _ _ => true
  | .amadd _ _ => true
  | .amand _ _ => true
  | .amor _ _ => true
  | .amxor _ _ => true
  | .amcas _ _ => true
  | .persist _ _ => true
  | .rld _ _ => true
  | .rst _ _ => true
  | .nsend _ _ => true
  | .sig _ _ => true
  | .wait _ _ => true
  | .wmon _ _ => true
  | .wmoff _ _ => true
  | .sync _ _ => true
  | .spawn _ _ => true
  | .endStrand _ _ => true
  | .park _ _ => true
  | .resume _ _ => true
  | .free _ _ => true
  | .setcls _ _ => true
  | .self _ _ => true
  | .rdt _ _ => true
  | .takeCourse _ x => decide (x.imm = 0x001)
  | .giveCourse _ x => decide (x.imm = 0x002)
  | .queryState _ x => decide (x.imm = 0x003)
  | .tuneMotor _ x => decide (x.imm = 0x010)
  | .moveTo _ x => decide (x.imm = 0x011)
  | .moveVel _ x => decide (x.imm = 0x012)
  | .stopMotion _ x => decide (x.imm = 0x013)
  | .holdCapo _ x => decide (x.imm = 0x014)
  | .releaseHold _ x => decide (x.imm = 0x015)
  | .profclr _ x => decide (x.imm = 0x016)
  | .limitCurrent _ x => decide (x.imm = 0x017)
  | .clearFault _ x _ => decide (x.imm = 0x018)
  | .parget _ x => decide (x.imm = 0x020)
  | .parset _ x => decide (x.imm = 0x021)
  | .mrecget _ x => decide (x.imm = 0x022)
  | .polreload _ x => decide (x.imm = 0x023)
  | .longOpComplete _ _ => true
  | .peripheralService => true
  | .remoteAccessReply _ _ _ => true
  | .remoteAccessTimeout _ _ => true
  | .periodBoundary _ => true
  | .counterPerMatch _ => true
  | .compareEdge _ _ => true
  | .auxMatch _ => true
  | .deadTimeRise _ _ _ => true
  | .courseStart _ _ => true
  | .courseStop _ _ => true
  | .timedStart _ _ => true
  | .timedStartReached => true
  | .maskSet _ _ _ => true
  | .maskAdvance _ _ => true
  | .maskRetreat _ _ => true
  | .commutationTakeEffect _ => true
  | .bemfCrossing _ _ _ => true
  | .bemfDelayExpiry _ => true
  | .singleShuntSample _ _ => true
  | .gateSupplyReady _ => true
  | .gateSupplyLockout _ _ => true
  | .gateSupplyRecovery _ _ => true
  | .uvclr _ _ => true
  | .interlockRise _ _ => true
  | .externalPinLevel _ _ _ => true
  | .serialGateCommand _ _ _ => true
  | .serialGateTimeout _ => true
  | .sourceGuardEnd _ => true
  | .gateFault _ _ kind => decide (kind ≠ 0)
  | .vdsTrip _ _ => true
  | .ocTrip _ => true
  | .ovTrip => true
  | .uvTrip => true
  | .thermTrip _ => true
  | .tsdTrip _ => true
  | .ntcStale _ => true
  | .blankingWindowEnd _ => true
  | .protectionClear _ _ _ => true
  | .slotAssignment => true
  | .conversionResult _ => true
  | .spareRotation _ _ _ => true
  | .scanGo _ => true
  | .qpop _ => true
  | .qdclr _ => true
  | .icWindowClose _ _ n _ => decide (n ≠ 0)
  | .icOverRange _ => true
  | .counterLoad _ _ _ => true
  | .ic1PassGo _ => true
  | .engineTakeEntry _ => true
  | .engineOutput _ => true
  | .engineOutputWrite _ => true
  | .bankLoad _ _ => true
  | .bankCopyEnd _ => true
  | .bankSwap _ _ => true
  | .hallRegistration _ _ => true
  | .posSet _ _ _ => true
  | .posAdd _ _ _ => true
  | .captureEdge _ _ _ _ => true
  | .capturePop _ _ => true
  | .ntimeRead _ => true
  | .aqTakeSample _ => true
  | .aqCaptureDone _ => true
  | .aqArm _ _ => true
  | .aqStop _ _ => true
  | .aqForce _ _ => true
  | .globalArmGo _ => true
  | .globalArmReceived _ => true
  | .globalArmTime => true
  | .firePulseEnd => true
  | .fireMessage _ _ => true
  | .fireEdge => true
  | .arrangementChange _ => true
  | .tuningStepEnd _ _ _ _ => true
  | .motionEnd _ cause => decide (cause = 1 ∨ cause = 8)
  | .pinchJudgment _ _ _ => true
  | .stallDecision _ => true
  | .stallRetry _ => true
  | .deratingUpdate _ => true
  | .senseWireCheckGo _ => true
  | .senseWireSettleEnd => true
  | .shutdownParkEnd => true
  | .shutdownParkLimit => true
  | .reserveTimeExpiry => true
  | .stackBelowVend => true
  | .reserveConnect _ => true
  | .connectRelease => true
  | .hostSelect => true
  | .hostNop _ _ => true
  | .hostRd _ _ => true
  | .hostWr _ _ => true
  | .hostWrt _ _ => true
  | .hostRdm _ _ => true
  | .hostStw _ _ _ => true
  | .hostStreamWord _ _ => true
  | .xipWordDelivered _ => true
  | .xipMissTimeout _ => true
  | .xspInv _ => true
  | .softwareFrameGo _ => true
  | .softwareFrameEnd _ => true
  | .lockRequest _ => true
  | .lockGrant => true
  | .lockRelease _ => true
  | .canFrameValid f => f.wellFormed
  | .canProtocolException => true
  | .canTxEnd _ _ => true
  | .canTxAbort _ _ => true
  | .canBusError _ _ => true
  | .canRecover _ => true
  | .busOffRecoveryEnd => true
  | .canWakeupPattern => true
  | .canSelectiveWakeFrame f => f.all CanFrame.wellFormed
  | .canWakeTransmit _ => true
  | .linFrameReceived f => f.wellFormed
  | .linBusWake => true
  | .linWake _ => true
  | .rcpRequest q => decide (q.bytes.length ≤ (if q.lin then 8 else 64))
  | .timeBeaconSync _ => true
  | .timeBeaconFollow _ _ => true
  | .beaconSend => true
  | .creditReturn src _ _ _ => decide (src.toNat ≤ 12)
  | .creditResync src _ => decide (src.toNat ≤ 12)
  | .creditGrant dst => decide (dst.toNat ≤ 12)
  | .ledgStep _ _ => true
  | .ledgEnd _ _ => true
  | .queryRest _ _ => true
  | .abortRest _ => true
  | .restQuery _ _ _ => true
  | .readyMsg _ _ => true
  | .busyMsg _ _ => true
  | .restCommit _ _ _ _ _ => true
  | .restCancel _ _ => true
  | .wakeAbort _ _ _ => true
  | .wakeFrame _ _ => true
  | .voteTimeout => true
  | .answerTimeout => true
  | .commitIntervalEnd => true
  | .holdEnd => true
  | .lateWakeRepeat => true
  | .journalWindowEnd _ => true
  | .journalFrame f => f.items.all (fun t => decide (1 ≤ t.kind.toNat ∧ t.kind.toNat ≤ 14 ∧ t.ofs.toNat < 960))
  | .twinNak _ => true
  | .statusFrame _ _ => true
  | .frameMissing => true
  | .statusLoss => true
  | .twinCheckpoint _ => true
  | .twfailRise => true
  | .twinHandover _ => true
  | .handoverRelease => true
  | .twinClaim => true
  | .pairStart _ => true
  | .pairStartTimeout => true
  | .resumeTimeout => true
  | .cascadeStart _ _ => true
  | .chainTimeout => true
  | .remoteAccessServe _ _ _ => true
  | .linkFrameCrcError _ => true
  | .portDown _ => true
  | .lossReport p => decide (p ≠ 0)
  | .cascadeRealign _ => true
  | .rsvcgo _ _ => true
  | .remoteCallComplete => true
  | .tapReset => true
  | .tapExtest => true
  | .tapSamplePreload _ => true
  | .tapIdcode => true
  | .tapClamp => true
  | .tapHighz => true
  | .tapBypass => true
  | .tapUnlock _ => true
  | .debugPoll => true
  | .debugRead _ => true
  | .debugWrite _ _ => true
  | .mhalt _ => true
  | .dbgResume _ => true
  | .stepStrand _ _ => true
  | .strandHalt _ _ _ => true
  | .dbgRdataWrite _ _ => true
  | .tracePop _ => true
  | .regulatorsValid _ _ _ => true
  | .pllLockRegained => true
  | .connectDelayExpiry => true
  | .canTransmissionStart _ => true
  | .linHeaderReceived _ => true
  | .portTrained _ => true
  | .cascadeNak _ => true
  | .aqRecordWrite _ => true
  | .gpioInputChange _ _ => true
  | .cbcConditionAbsent _ => true
  | .illegalInstruction i w => (decodeIbben i 0 w).isNone
  | .fetchFault _ cause => decide (2 ≤ cause.toNat ∧ cause.toNat ≤ 5)

end Sys2Proof
end

