-- ==== Sys2Proof/Safety.lean ====
section
/-!
DEFINITION. Safety.lean: what counts as a safe step and a well-kept state, and the words that the statements use.
-/
namespace Sys2Proof.Machine

/-- Every sparse store of the state is in its canonical form: addresses strictly rising, nothing listed that equals its default. -/
def Memory.wf (s : State) : Bool :=
  spWf resetWord s.regs && spWf (fun _ => (0 : Word)) s.ram && spWf (fun _ => (0 : Word)) s.mram
    && spWf (fun _ => (0 : Nat)) s.mem.ramErr && spWf (fun _ => (0 : Nat)) s.mem.mramErr

/-- A step is safe when it answers a next state: no command of the block stops it. -/
def Safe (s : State) : Prop := ∃ t, step s = .next t

/-- A strand can issue an instruction that names the registers: it is eligible (R203, R207, R790), no debug halt or fetch breakpoint
stops it unless debug steps it (R789, R792, R794), and its fetch neither faults nor misses (R160, R230, R646). -/
def State.ready (s : State) (i : StrandId) (regs : List (BitVec 5)) : Prop :=
  s.canIssue i = true ∧ regs.any (s.pendingReg i) = false
    ∧ ((s.strand i).stepping = true ∨ (s.shalted i = false ∧ s.bpMatch i 0 (s.strand i).pc.toNat = []))
    ∧ s.fetchFault i = none ∧ s.fetchMiss i = false

/-- The state after a short instruction has made its strand y: the prefetch line of its fetch counts as used (R647), a chip of a pair in sync
notes its issue for the digest (R745), a debug step has ended (R792), the strand's key is this beat (R204), and nothing else is changed. -/
def State.after (s : State) (i : StrandId) (y : Strand) : State :=
  (((s.touchFetch i).noteIssue i).setStrand i (y.issued s.time.dtime)).stepEnd (s.strand i).stepping

/-- The strand with word register r holding v (w0 holds nothing, R229) and its PC at the next word (R230). -/
def Strand.gets (x : Strand) (r : BitVec 5) (v : Word) : Strand := (x.wr r v).next

/-- The strand with its condition flags set for a result when F is 1 (R234): Z and N by the word, C and V as given. -/
def Strand.shows (x : Strand) (f : Bool) (v : Word) (c ov : Bool) : Strand :=
  if f then { x with st := { x.st with z := decide (v = 0), n := decide (v.toInt < 0), c := c, v := ov } } else x

/-- The strand with SAT set when b holds, and otherwise as it was (R235). -/
def Strand.sets (x : Strand) (b : Bool) : Strand := { x with st := { x.st with sat := x.st.sat || b } }

/-- A word read by U as u48 or s48. -/
def readAs (u : Bool) (w : Word) : Int := if u then w.toNat else w.toInt

/-- The least and the greatest value of the range that U names (R245). -/
def lowest (u : Bool) : Int := if u then 0 else -2 ^ 47
def greatest (u : Bool) : Int := if u then 2 ^ 48 - 1 else 2 ^ 47 - 1

/-- An exact value does not fit the range that U names. -/
def misfits (u : Bool) (e : Int) : Bool := decide (e < lowest u ∨ greatest u < e)

/-- The word of an exact value: its low 48 bits, or clamped with S = 1 (R245). -/
def wordOf (sat u : Bool) (e : Int) : Word := if sat then BitVec.ofInt 48 (max (lowest u) (min (greatest u) e)) else BitVec.ofInt 48 e

/-- What add, adc and cmn do to a strand (R234, R265). -/
def Strand.addRow (y : Strand) (rd : BitVec 5) (a b : Word) (cin : Nat) (f sat u : Bool) : Strand :=
  let e := readAs u a + readAs u b + cin
  ((y.gets rd (wordOf sat u e)).shows f (wordOf sat u e) (decide (2 ^ 48 ≤ a.toNat + b.toNat + cin))
    (misfits false (a.toInt + b.toInt + cin))).sets (sat && misfits u e)

/-- What sub, sbc, neg, rsbi and cmp do to a strand: a - b - cin (R234, R265). -/
def Strand.subRow (y : Strand) (rd : BitVec 5) (a b : Word) (cin : Nat) (f sat u : Bool) : Strand :=
  let e := readAs u a - readAs u b - cin
  ((y.gets rd (wordOf sat u e)).shows f (wordOf sat u e) (decide (a.toNat < b.toNat + cin))
    (misfits false (a.toInt - b.toInt - cin))).sets (sat && misfits u e)

/-- What an instruction of the Logical row does to a strand (R234). -/
def Strand.logicRow (y : Strand) (rd : BitVec 5) (v : Word) (f : Bool) : Strand := (y.gets rd v).shows f v false false

/-- What an instruction of the Shift row does to a strand: c is the last bit shifted out (R234). -/
def Strand.shiftRow (y : Strand) (rd : BitVec 5) (v : Word) (f c : Bool) : Strand := (y.gets rd v).shows f v c false

/-- What an instruction that saturates an exact value to s48 does to a strand (R234, R245). -/
def Strand.roundRow (y : Strand) (rd : BitVec 5) (e : Int) (f : Bool) : Strand :=
  ((y.gets rd (wordOf true false e)).shows f (wordOf true false e) false (misfits false e)).sets (misfits false e)

/-- q is n / d rounded by RM, for d > 0 (R247). -/
def Rounds (rm : BitVec 2) (n d q : Int) : Prop :=
  if rm = 0 then |2 * (n - q * d)| ≤ d ∧ (|2 * (n - q * d)| = d → q % 2 = 0)
  else if rm = 1 then |2 * (n - q * d)| ≤ d ∧ (|2 * (n - q * d)| = d → if 0 ≤ n then n < q * d else q * d < n)
  else if rm = 2 then q * d ≤ n ∧ n < (q + 1) * d
  else if 0 ≤ n then q * d ≤ n ∧ n < (q + 1) * d else (q - 1) * d < n ∧ n ≤ q * d

/-- Accumulator ac of a strand (R229). -/
def Strand.accOf (x : Strand) (ac : Bool) : Int := if ac then x.a1.toInt else x.a0.toInt

/-- The strand with accumulator ac holding an exact value, saturated with AOV set when it lies outside 96 bits (R235, R243), and its PC
at the next word. -/
def Strand.accumulates (x : Strand) (ac : Bool) (e : Int) : Strand :=
  let v : Acc := BitVec.ofInt 96 (max (-2 ^ 95) (min (2 ^ 95 - 1) e))
  let z := { x with wrote := x.wrote ++ [v.extractLsb' 48 48, v.extractLsb' 0 48] }
  let y := if ac then { z with a1 := v } else { z with a0 := v }
  { y.next with st := { x.st with aov := x.st.aov || decide (e < -2 ^ 95 ∨ 2 ^ 95 - 1 < e) } }

/-- The exact product of a multiply-accumulate as AM aligns it (R242). -/
def productOf (am : BitVec 2) (u : Bool) (a b : Word) : Int := if am = 1 then a.toInt * b.toInt / 2 ^ 15 else readAs u a * readAs u b

/-- Whether a condition code holds, by the table of R238. -/
def condHolds (t : Status) (c : BitVec 4) : Bool :=
  [true, t.z, !t.z, t.n != t.v, t.n == t.v, t.z || t.n != t.v, !t.z && t.n == t.v, t.c, !t.c, t.c || t.z, !t.c && !t.z, t.n, !t.n, t.v,
    !t.v, t.sat].getD c.toNat true

/-- The state after a strand has issued a long operation: it is last in flight, and the strand is past it (R204, R230, R286). -/
def State.inFlight (s : State) (i : StrandId) (body : OpBody) (stage : OpStage) : State :=
  ({ s with core := { s.core with
      ops := s.core.ops ++ [{ id := s.core.nextOp, str := i, pc := (s.strand i).pc, issue := s.time.dtime, body := body, stage := stage }]
      nextOp := s.core.nextOp + 1 } } : State).after i (s.strand i).next

/-- A strand can issue a long operation (R207). -/
def State.readyLong (s : State) (i : StrandId) (regs : List (BitVec 5)) : Prop := s.ready i regs ∧ s.limited i = false ∧ s.shalted i = false

/-- No register word but those of the list differs. -/
def State.regsBut (s t : State) (l : List Nat) : Prop := ∀ a, a ∉ l → t.reg a = s.reg a

/-- RAM and MRAM hold the same words. -/
def State.memSame (s t : State) : Prop := t.ram = s.ram ∧ t.mram = s.mram

/-- The state after a strand has issued an instruction that trace records as an event of a kind (R795). -/
def State.afterTraced (s : State) (i : StrandId) (y : Strand) (kind data : Nat) : State :=
  ((((s.touchFetch i).noteIssue i).setStrand i (y.issued s.time.dtime)).traceEv kind i data).stepEnd (s.strand i).stepping

/-- An escalation begins in going from s to t (R326, R327): issue and the watchdog stop, the operations in flight are noted, the reset that
ends it is in progress (R135), and no half-bridge is driven. -/
def State.escalatesTo (s t : State) (src : BitVec 2) (mcause : BitVec 4) (strand : BitVec 6) : Prop :=
  t.core = { s.core with issueOn := false, wdRun := false
                         esc := some { f := s.time.dtime, src := src, wdrsrc := escWdrsrc src, mcause := mcause, strand := strand
                                       atF := s.core.ops, doneAt := s.time.dtime } }
    ∧ t.pwr = { s.pwr with kind := escKind src }
    ∧ s.memSame t ∧ t.time = s.time ∧ ∀ h, (t.hb h).outH = false ∧ (t.hb h).outL = false

/-- Event line l, and no other, has been asserted in going from s to t (R209); strands hear it at the end of the beat. -/
def State.raises (s t : State) (l : Nat) : Prop :=
  t.now.lines = s.now.lines ||| BitVec.ofNat 256 (1 <<< l) ∧ ∀ j, (t.strand j).pend = (s.strand j).pend

/-- The strands, their operations and the escalation machinery are the same, but for what asserted event lines do to strands that hear them. -/
def State.coreSame (s t : State) : Prop :=
  t.core.ops = s.core.ops ∧ t.core.esc = s.core.esc ∧ t.core.issueOn = s.core.issueOn
    ∧ ∀ j, (t.strand j).w = (s.strand j).w ∧ (t.strand j).pc = (s.strand j).pc ∧ (t.strand j).state = (s.strand j).state

/-- Strand i can issue svc with the fields x for service n of the catalogue, and the supervisor takes its call at once (R315, R316): no other
call of a strand is outstanding, and the call of the remote mailbox leaves room. -/
def State.calls (s : State) (i : StrandId) (x : FmtX) (n : Nat) : Prop :=
  s.readyLong i [x.rd, x.ra, x.rb] ∧ x.rsv = 0 ∧ x.imm.toNat = n ∧ isSup i = false ∧ s.core.esc = none
    ∧ ∀ o ∈ s.core.ops, o.isCall = false

/-- Strand i has issued the call in going from s to t: it is last in flight with a stage, the strand is past it, the call's record shows the
service and an OUTCOME (R578), and RAM and MRAM are as they were. -/
def State.called (s t : State) (i : StrandId) (x : FmtX) (n : Nat) (stage : OpStage) (outcome : Nat) : Prop :=
  t.core.ops.getLast? = some { id := s.core.nextOp, str := i, pc := (s.strand i).pc, issue := s.time.dtime, stage := stage
                               body := .svc x.rd (BitVec.ofNat 12 n) ((s.strand i).rd x.ra) ((s.strand i).rd x.rb) }
    ∧ t.core.nextOp = s.core.nextOp + 1 ∧ (t.strand i).pc = (s.strand i).pc + 1 ∧ (∀ r, (t.strand i).rd r = (s.strand i).rd r)
    ∧ t.sup.calls = s.sup.calls + 1 ∧ t.get (R.SYS_SVCALL_SVC (s.sup.calls % 8)) = n
    ∧ t.get (R.SYS_SVCALL_OUTCOME (s.sup.calls % 8)) = outcome ∧ s.memSame t

end Sys2Proof.Machine
end

