-- ==== Sys2Proof/Certificates/Slice0/Obligations.lean ====
section
/-!
DEFINITION. Certificates/Slice0/Obligations.lean: the statements for the provers. In each, s is any state; what the statement does not
say to change is given by the state s itself. Where a conclusion names an operation of the model (put, bump, assertEv, jot …), that
operation's effect is the one its docstring gives, and nothing else is changed.
-/
open Sys2Proof Sys2Proof.Machine

/-! ## The queue, reset and the kept form -/

/-- With a command at the front of the queue, a step runs it with the queue's rest (the block's rule of a step). -/
def Obligations.StepRunsFront : Prop :=
  ∀ (s : State) (c : Instr) (rest : List Instr), s.pending = c :: rest → step s = exec c { s with pending := rest }

/-- With nothing commanded a step does nothing in OFF, passes one always-on period while the beat is stopped, and else is one beat (log
entry 1, DESIGN CHOICE, the model's choice): what is due comes about, the fret goes to the strand that wins it, which issues the word at
its PC as the decoded instruction, or is counted idle, and device time moves by one (R73, R203, R204, R207, R230, R250). -/
def Obligations.IdleStepIsABeat : Prop :=
  ∀ s : State, s.pending = [] →
    (s.time.beatOn = false → s.pwr.mode = .off → step s = .next s)
    ∧ (s.time.beatOn = false → s.pwr.mode = .standby → s.pwr.wake = none → s.pwr.wtimer = false → s.get R.PWR_LPCTL_DEEPEN = 0 →
        s.now.deepen = false → ∃ t, step s = .next t ∧ t.time.dtime = s.time.dtime ∧ t.time.aoCount = s.time.aoCount + 1 ∧ t.regs = s.regs
          ∧ s.memSame t ∧ t.sent = s.sent ∧ t.core.ops = s.core.ops)
    ∧ (s.time.beatOn = true → s.time.handoff = false →
      let f := s.flush.fetchMisses
      let u := f.when ((f.fretWinner f.operandsReady).any f.barred207) (·.bump R.SCH_CNT_LIMSTALL)
      let ends := fun t : State => step s =
        .next ({ t.afterFret with time := { t.afterFret.time with dtime := t.afterFret.time.dtime + 1 }, now := {} } : State).openBeat
      (∀ (i : StrandId) (c : Instr) (t : State), f.fretWinner (fun j => f.operandsReady j && !f.barred207 j) = some i → u.fetchFault i = none →
        region (u.strand i).pc.toNat = .ram → spGet (fun _ => 0) u.mem.ramErr (u.strand i).pc.toNat = 0 →
        decodeIbben i (u.freeWord.setWidth 13) (u.ramAt (u.strand i).pc.toNat) = some c → exec c u = .next t → ends t)
      ∧ (f.fretWinner (fun j => f.operandsReady j && !f.barred207 j) = none → ends (u.bump R.SCH_CNT_IDLE)))

/-- What reset leaves, by the values the spec gives: every register word at its value after reset, RAM of zeros, no strand, nothing in
flight, a POR in progress with RESET_N driven, and the beat not yet delivered (R21, R134, R137, R140). -/
def Obligations.ResetState : Prop :=
  (∀ a, State.reset.reg a = resetWord a) ∧ (∀ a, State.reset.ramAt a = 0)
    ∧ (∀ i, (State.reset.strand i).state = .free) ∧ State.reset.core.ops = [] ∧ State.reset.mem.persists = []
    ∧ State.reset.pwr.kind = 1 ∧ State.reset.pwr.rstDrive = true ∧ State.reset.time.beatOn = false ∧ State.reset.time.dtime = 0
    ∧ State.reset.pending = [] ∧ Memory.wf State.reset = true

/-- Every step keeps the sparse stores in their canonical form: addresses rising, nothing listed that equals its default. -/
def Obligations.StepKeepsMemoryForm : Prop := ∀ s t : State, Memory.wf s = true → step s = .next t → Memory.wf t = true

/-- Every command answers a next state, whatever the state and the operands. -/
def Obligations.EveryStepIsSafe : Prop := ∀ s : State, Safe s

/-! ## The encoding of Ibben-48 -/

/-- Decoding the word of a well-formed instruction gives it back with every operand, so no two instructions share a word; the conditions
that a CLEAR finds present come from outside its word (R249, R250, R315). -/
def Obligations.IbbenRoundTrip : Prop :=
  ∀ (c : Instr) (i : StrandId) (w : Word) (p : BitVec 13), c.wellFormed = true → encodeIbben c = some (i, w) →
    (∀ j x q, c = .clearFault j x q → q = p) → decodeIbben i p w = some c

/-- The words of the spec's worked cases spell their instructions (spec/08, spec/09). -/
def Obligations.WorkedWords : Prop :=
  ∀ (i : StrandId) (p : BitVec 13),
    decodeIbben i p 0x604AA0000008#48 = some (.ld i { rt := 2, ra := 10, mode := 5, ri := 0, disp := 8 })
    ∧ decodeIbben i p 0x440258010400#48 =
        some (.mac i { rd := 0, ra := 2, rb := 11, f := false, s := false, u := false, ac := false, am := 1, imm := 0 })
    ∧ decodeIbben i p 0x248480000001#48 = some (.subi i { rd := 4, ra := 4, f := true, s := false, u := false, imm := 1 })
    ∧ decodeIbben i p 0x808000FFFFFD#48 = some (.b i { cond := 2, rl := 0, rsv := 0, off := 0xFFFFFD })
    ∧ decodeIbben i p 0x080000010000#48 =
        some (.or i { rd := 0, ra := 0, rb := 0, f := false, s := false, u := false, ac := false, am := 0, imm := 0 })
    ∧ decodeIbben i p 0xA44900400000#48 = some (.rotv i { rd := 2, ra := 9, rb := 0, rsv := 0, imm := 0 })
    ∧ decodeIbben i p 0 = none ∧ decodeIbben i p 0xFFFFFFFFFFFF#48 = none

/-! ## Short instructions of a strand -/

/-- AND, OR, XOR, ANDN, ORN and XNOR write the word and, with F, the Logical row of the flags (R234, R267); ANDI, ORI and XORI do so with
the extended immediate (R249, R271). Nothing but the strand's rd, flags, PC and key changes. -/
def Obligations.LogicResults : Prop :=
  ∀ (s : State) (i : StrandId), (∀ x : FmtA, s.ready i [x.rd, x.ra, x.rb] → x.s = false → x.u = false → x.ac = false → x.am = 0 → x.imm = 0 →
      let y := s.strand i
      let a := y.rd x.ra
      let b := y.rd x.rb
      let r := fun v : Word => Host.Outcome.next (ρ := Refusal) (φ := Fault) (s.after i (y.logicRow x.rd v x.f))
      exec (.and i x) s = r (a &&& b) ∧ exec (.or i x) s = r (a ||| b) ∧ exec (.xor i x) s = r (a ^^^ b)
        ∧ exec (.andn i x) s = r (a &&& ~~~b) ∧ exec (.orn i x) s = r (a ||| ~~~b) ∧ exec (.xnor i x) s = r (~~~(a ^^^ b)))
    ∧ (∀ x : FmtI, s.ready i [x.rd, x.ra] → x.s = false →
      let y := s.strand i
      let a := y.rd x.ra
      let b : Word := if x.u then x.imm.zeroExtend 48 else x.imm.signExtend 48
      let r := fun v : Word => Host.Outcome.next (ρ := Refusal) (φ := Fault) (s.after i (y.logicRow x.rd v x.f))
      exec (.andi i x) s = r (a &&& b) ∧ exec (.ori i x) s = r (a ||| b) ∧ exec (.xori i x) s = r (a ^^^ b))

/-- ADD, ADC, ADDI and CMN by the Add row, SUB, SBC, SUBI, RSBI, NEG and CMP by the Subtract row, wrapping or saturating by S and U (R234,
R245, R264 to R266, R271, R282), with C entering ADC and SBC. -/
def Obligations.ArithResults : Prop :=
  ∀ (s : State) (i : StrandId), (∀ x : FmtA, s.ready i [x.rd, x.ra, x.rb] → x.ac = false → x.am = 0 → x.imm = 0 →
      let y := s.strand i
      let a := y.rd x.ra
      let b := y.rd x.rb
      let r := fun z : Strand => Host.Outcome.next (ρ := Refusal) (φ := Fault) (s.after i z)
      exec (.add i x) s = r (y.addRow x.rd a b 0 x.f x.s x.u)
        ∧ exec (.adc i x) s = r (y.addRow x.rd a b (if y.st.c then 1 else 0) x.f x.s x.u)
        ∧ exec (.sub i x) s = r (y.subRow x.rd a b 0 x.f x.s x.u)
        ∧ exec (.sbc i x) s = r (y.subRow x.rd a b (if y.st.c then 1 else 0) x.f x.s x.u)
        ∧ (x.rb = 0 → x.u = false → exec (.neg i x) s = r (y.subRow x.rd 0 a 0 x.f x.s false))
        ∧ (x.rd = 0 → x.f = false → x.s = false → x.u = false →
            exec (.cmp i x) s = r (y.subRow 0 a b 0 true false false) ∧ exec (.cmn i x) s = r (y.addRow 0 a b 0 true false false)
              ∧ exec (.tst i x) s = r (y.logicRow 0 (a &&& b) true)))
    ∧ (∀ x : FmtI, s.ready i [x.rd, x.ra] →
      let y := s.strand i
      let a := y.rd x.ra
      let b : Word := if x.u then x.imm.zeroExtend 48 else x.imm.signExtend 48
      let r := fun z : Strand => Host.Outcome.next (ρ := Refusal) (φ := Fault) (s.after i z)
      exec (.addi i x) s = r (y.addRow x.rd a b 0 x.f x.s x.u) ∧ exec (.subi i x) s = r (y.subRow x.rd a b 0 x.f x.s x.u)
        ∧ exec (.rsbi i x) s = r (y.subRow x.rd b a 0 x.f x.s x.u))

/-- ABS returns the magnitude, with V for -2^47 and saturation by S; MIN and MAX return the lesser and the greater by U (R264, R266). -/
def Obligations.AbsMinMax : Prop :=
  ∀ (s : State) (i : StrandId) (x : FmtA), s.ready i [x.rd, x.ra, x.rb] → x.ac = false → x.am = 0 → x.imm = 0 →
    let y := s.strand i
    let a := y.rd x.ra
    let b := y.rd x.rb
    (x.rb = 0 → x.u = false → ∃ v : Word, exec (.abs i x) s = .next (s.after i (((y.gets x.rd v).shows x.f v false
        (decide (a.toInt = -2 ^ 47))).sets (x.s && decide (a.toInt = -2 ^ 47))))
        ∧ (a.toInt ≠ -2 ^ 47 → v.toInt = |a.toInt|) ∧ (a.toInt = -2 ^ 47 → v = if x.s then 0x7FFFFFFFFFFF#48 else 0x800000000000#48))
    ∧ (x.s = false → exec (.min i x) s = .next (s.after i (y.logicRow x.rd (if readAs x.u a ≤ readAs x.u b then a else b) x.f))
        ∧ exec (.max i x) s = .next (s.after i (y.logicRow x.rd (if readAs x.u b ≤ readAs x.u a then a else b) x.f)))

/-- The shifts by the low six bits of rb, or by the count of SHI, with the last bit shifted out in C (R234, R246, R247, R268, R269, R271).
SHI shifts by the count of its immediate as the shift of its type does by a register holding that count (R271). -/
def Obligations.ShiftResults : Prop :=
  (∀ (s : State) (i : StrandId) (x : FmtA), s.ready i [x.rd, x.ra, x.rb] → x.ac = false → x.am = 0 → x.imm = 0 →
    let y := s.strand i
    let a := y.rd x.ra
    let k := (y.rd x.rb).toNat % 64
    let lastOut := fun n : Int => decide (k ≠ 0 ∧ n / 2 ^ (k - 1) % 2 = 1)
    let r := fun z : Strand => Host.Outcome.next (ρ := Refusal) (φ := Fault) (s.after i z)
    (x.s = false → x.u = false → exec (.shl i x) s = r (y.shiftRow x.rd (BitVec.ofNat 48 (a.toNat * 2 ^ k)) x.f
        (decide (k ≠ 0) && (a.toNat * 2 ^ (k - 1)).testBit 47)))
    ∧ (x.s = true → exec (.shl i x) s = r ((y.shiftRow x.rd (wordOf true x.u (readAs x.u a * 2 ^ k)) x.f
        (decide (k ≠ 0) && (a.toNat * 2 ^ (k - 1)).testBit 47)).sets (misfits x.u (readAs x.u a * 2 ^ k))))
    ∧ (x.s = false → x.u = false →
        exec (.shr i x) s = r (y.shiftRow x.rd (BitVec.ofNat 48 (a.toNat / 2 ^ k)) x.f (lastOut a.toNat))
        ∧ exec (.asr i x) s = r (y.shiftRow x.rd (BitVec.ofInt 48 (a.toInt / 2 ^ k)) x.f (lastOut a.toInt))
        ∧ (∃ v : Word, exec (.ror i x) s = r (y.shiftRow x.rd v x.f (decide (k % 48 ≠ 0) && v.getLsbD 47))
            ∧ ∀ j < 48, v.getLsbD j = a.getLsbD ((j + k) % 48))
        ∧ (∃ q : Int, Rounds y.st.rm a.toInt (2 ^ k) q ∧ exec (.asrr i x) s = r (y.shiftRow x.rd (BitVec.ofInt 48 q) x.f (lastOut a.toInt)))))
  ∧ (∀ (s : State) (i : StrandId) (x : FmtI) (y : FmtA), s.ready i [x.rd, x.ra] → s.ready i [y.rd, y.ra, y.rb] → x.imm.toNat < 320 →
    y.rd = x.rd → y.ra = x.ra → y.f = x.f → y.s = x.s → y.u = x.u → y.ac = false → y.am = 0 → y.imm = 0 →
    ((s.strand i).rd y.rb).toNat % 64 = x.imm.toNat % 64 → (64 ≤ x.imm.toNat → x.s = false ∧ x.u = false) →
    exec (.shi i x) s = (if x.imm.toNat < 64 then exec (.shl i y) s else if x.imm.toNat < 128 then exec (.shr i y) s
      else if x.imm.toNat < 192 then exec (.asr i y) s else if x.imm.toNat < 256 then exec (.ror i y) s else exec (.asrr i y) s)
    ∧ ∃ t, exec (.shi i x) s = .next t ∧ (t.strand i).pc = (s.strand i).pc + 1)

/-- The bit-field instructions (R270): extraction, insertion, counts and reversal, with the Logical row of the flags. -/
def Obligations.BitFieldResults : Prop :=
  ∀ (s : State) (i : StrandId) (len : BitVec 6) (x : FmtA), s.ready i [x.rd, x.ra] → x.rb = 0 → x.s = false → x.u = false → x.ac = false →
    x.am = 0 →
    let y := s.strand i
    let a := y.rd x.ra
    let pos := x.imm.toNat
    let n := len.toNat
    let r := fun v : Word => Host.Outcome.next (ρ := Refusal) (φ := Fault) (s.after i (y.logicRow x.rd v x.f))
    (1 ≤ n → n ≤ 48 → pos + n ≤ 48 →
      exec (.extu i len x) s = r (BitVec.ofNat 48 (a.toNat / 2 ^ pos % 2 ^ n))
      ∧ (∃ v : Word, exec (.exts i len x) s = r v ∧ ∀ j < 48, v.getLsbD j = a.getLsbD (pos + min j (n - 1)))
      ∧ (∃ v : Word, exec (.ins i len x) s = r v
          ∧ ∀ j < 48, v.getLsbD j = if pos ≤ j ∧ j < pos + n then a.getLsbD (j - pos) else (y.rd x.rd).getLsbD j))
    ∧ (len = 0 → x.imm = 0 →
      (∃ k : Nat, exec (.clz i len x) s = r (BitVec.ofNat 48 k) ∧ k ≤ 48 ∧ a.toNat < 2 ^ (48 - k) ∧ (k < 48 → 2 ^ (47 - k) ≤ a.toNat))
      ∧ (∃ k : Nat, exec (.ctz i len x) s = r (BitVec.ofNat 48 k) ∧ k ≤ 48 ∧ (∀ j < k, a.getLsbD j = false) ∧ (k < 48 → a.getLsbD k = true))
      ∧ exec (.popc i len x) s = r (BitVec.ofNat 48 ((List.range 48).filter (fun j => a.getLsbD j)).length)
      ∧ (∃ v : Word, exec (.brev i len x) s = r v ∧ ∀ j < 48, v.getLsbD j = a.getLsbD (47 - j)))

/-- Multiplication to a word (R272): the wrapping or saturating product with AM 0b00, the rounded and saturated Q1.47 or Q24.24 product
with 0b01 and 0b10, and the high word of MULH. The accumulators (R229, R242 to R244, R273, R274): the aligned product, added or subtracted
exactly and saturated with AOV; narrowing by RM; the two halves read and written. -/
def Obligations.MultiplyAndAccumulate : Prop :=
  (∀ (s : State) (i : StrandId) (x : FmtA), s.ready i [x.rd, x.ra, x.rb] → x.ac = false → x.imm = 0 →
    let y := s.strand i
    let a := y.rd x.ra
    let b := y.rd x.rb
    let e := readAs x.u a * readAs x.u b
    let r := fun z : Strand => Host.Outcome.next (ρ := Refusal) (φ := Fault) (s.after i z)
    (x.am = 0 → exec (.mul i x) s =
        r (((y.gets x.rd (wordOf x.s x.u e)).shows x.f (wordOf x.s x.u e) false (misfits x.u e)).sets (x.s && misfits x.u e)))
    ∧ (x.am = 1 ∨ x.am = 2 → x.u = false → ∃ q : Int, Rounds y.st.rm (a.toInt * b.toInt) (if x.am = 1 then 2 ^ 47 else 2 ^ 24) q
        ∧ exec (.mul i x) s = r (y.roundRow x.rd q x.f))
    ∧ (x.am = 0 → x.s = false → exec (.mulh i x) s = r (y.logicRow x.rd (BitVec.ofInt 48 (e / 2 ^ 48)) x.f)))
  ∧ (∀ (s : State) (i : StrandId) (x : FmtA), s.ready i [x.rd, x.ra, x.rb] → x.s = false → x.imm = 0 → x.am ≠ 3 → (x.u = true → x.am = 0) →
    let y := s.strand i
    let a := y.rd x.ra
    let b := y.rd x.rb
    let p := productOf x.am x.u a b
    let r := fun z : Strand => Host.Outcome.next (ρ := Refusal) (φ := Fault) (s.after i z)
    (x.rd = 0 → x.f = false → exec (.mula i x) s = r (y.accumulates x.ac p)
      ∧ exec (.mac i x) s = r (y.accumulates x.ac (y.accOf x.ac + p)) ∧ exec (.msu i x) s = r (y.accumulates x.ac (y.accOf x.ac - p))
      ∧ (x.ra = 0 → x.rb = 0 → x.u = false → x.am = 0 → exec (.clra i x) s = r (y.accumulates x.ac 0))
      ∧ (x.u = false → x.am = 0 → exec (.mta i x) s = r (y.accumulates x.ac (a.toInt * 2 ^ 48 + b.toNat))))
    ∧ (x.ra = 0 → x.rb = 0 → x.u = false →
      (∃ q : Int, Rounds y.st.rm (y.accOf x.ac) (if x.am = 0 then 1 else if x.am = 1 then 2 ^ 32 else 2 ^ 24) q
        ∧ exec (.narw i x) s = r (y.roundRow x.rd q x.f))
      ∧ (x.f = false → x.am = 0 → exec (.mfah i x) s = r (y.gets x.rd (BitVec.ofInt 48 (y.accOf x.ac / 2 ^ 48)))
        ∧ exec (.mfal i x) s = r (y.gets x.rd (BitVec.ofInt 48 (y.accOf x.ac))))))

/-- The format conversions (R247, R248, R275): rounded by RM or saturated to s48. -/
def Obligations.ConversionResults : Prop :=
  ∀ (s : State) (i : StrandId) (x : FmtA), s.ready i [x.rd, x.ra] → x.rb = 0 → x.s = false → x.u = false → x.ac = false → x.am = 0 →
    x.imm = 0 →
    let y := s.strand i
    let a := (y.rd x.ra).toInt
    let r := fun e : Int => Host.Outcome.next (ρ := Refusal) (φ := Fault) (s.after i (y.roundRow x.rd e x.f))
    (∃ q : Int, Rounds y.st.rm a (2 ^ 23) q ∧ exec (.cvq24 i x) s = r q) ∧ exec (.cvq47 i x) s = r (a * 2 ^ 23)
      ∧ exec (.cvi24 i x) s = r (a * 2 ^ 24) ∧ (∃ q : Int, Rounds y.st.rm a (2 ^ 24) q ∧ exec (.cv24i i x) s = r q)

/-- LI, LIPC, LEA, SEL, SETC, SELF, RDT and the link and target of B and BR (R252 to R254, R238, R276, R278, R280 to R282, R313): nothing
but the strand's rd, PC and key changes. -/
def Obligations.ConstantsAndBranches : Prop :=
  ∀ (s : State) (i : StrandId),
    let y := s.strand i
    let r := fun z : Strand => Host.Outcome.next (ρ := Refusal) (φ := Fault) (s.after i z)
    (∀ x : FmtK, s.ready i [x.rd] → x.rsv = 0 →
      (x.p = 0 → exec (.li i x) s = r (y.gets x.rd (x.imm.signExtend 48)) ∧ exec (.lipc i x) s = r (y.gets x.rd ((y.pc + x.imm).zeroExtend 48)))
      ∧ (x.p = 1 → exec (.li i x) s = r (y.gets x.rd (x.imm.zeroExtend 48)))
      ∧ (x.p = 2 → exec (.li i x) s = r (y.gets x.rd (x.imm ++ (y.rd x.rd).setWidth 24))))
    ∧ (∀ x : FmtM, s.ready i [x.rt, x.ra, x.ri] → (x.mode = 1 ∨ x.ri = 0) →
      (x.mode = 0 → exec (.lea i x) s = r (y.gets x.rt (((y.rd x.ra).setWidth 24 + x.disp).zeroExtend 48)))
      ∧ (x.mode = 1 → exec (.lea i x) s = r (y.gets x.rt (((y.rd x.ra).setWidth 24 + (y.rd x.ri).setWidth 24 + x.disp).zeroExtend 48)))
      ∧ (x.mode = 4 → exec (.lea i x) s = r (y.gets x.rt ((y.pc + x.disp).zeroExtend 48))))
    ∧ (∀ x : FmtB, s.ready i [x.rl] → x.rsv = 0 → exec (.b i x) s =
        r { y.wr x.rl ((y.pc + 1).zeroExtend 48) with pc := if condHolds y.st x.cond then y.pc + x.off else y.pc + 1 })
    ∧ (∀ x : FmtA, s.ready i [x.rd, x.ra, x.rb] → x.f = false → x.s = false → x.u = false → x.ac = false → x.am = 0 → x.imm.toNat < 16 →
      let c := condHolds y.st (x.imm.setWidth 4)
      (x.rb = 0 → exec (.br i x) s =
        r { y.wr x.rd ((y.pc + 1).zeroExtend 48) with pc := if c then (y.rd x.ra).setWidth 24 else y.pc + 1 })
      ∧ exec (.sel i x) s = r (y.gets x.rd (if c then y.rd x.ra else y.rd x.rb))
      ∧ (x.ra = 0 → x.rb = 0 → exec (.setc i x) s = r (y.gets x.rd (if c then 1 else 0))))
    ∧ (∀ x : FmtX, s.ready i [x.rd] → x.ra = 0 → x.rb = 0 → x.rsv = 0 → x.imm = 0 →
      exec (.self i x) s = r (y.gets x.rd (BitVec.ofNat 48 i.val)) ∧ exec (.rdt i x) s = r (y.gets x.rd s.time.dtime))

/-- The status word moved, set and cleared (R234, R235, R282), with its layout; and the wait mask (R214, R310). SYNC issues once nothing of
its strand is in flight (R312). -/
def Obligations.StatusAndMasks : Prop :=
  ∀ (s : State) (i : StrandId),
    let y := s.strand i
    let r := fun z : Strand => Host.Outcome.next (ρ := Refusal) (φ := Fault) (s.after i z)
    (∀ x : FmtA, s.ready i [x.rd, x.ra] → x.rb = 0 → x.f = false → x.s = false → x.u = false → x.ac = false → x.am = 0 →
      (x.ra = 0 → x.imm = 0 → ∃ v : Word, exec (.mfst i x) s = r (y.gets x.rd v) ∧ v.toNat < 2 ^ 10 ∧ v.getLsbD 0 = y.st.z ∧ v.getLsbD 1 = y.st.n
          ∧ v.getLsbD 2 = y.st.c ∧ v.getLsbD 3 = y.st.v ∧ v.getLsbD 4 = y.st.sat ∧ v.getLsbD 5 = y.st.aov ∧ v.getLsbD 6 = y.st.dz
          ∧ v.getLsbD 7 = y.st.dom ∧ v.extractLsb' 8 2 = y.st.rm)
      ∧ (x.rd = 0 → x.imm = 0 → exec (.mtst i x) s = r { y.next with st := Status.ofWord (y.rd x.ra) })
      ∧ (x.rd = 0 → x.ra = 0 → exec (.stclr i x) s = r { y.next with st := Status.ofWord (y.st.word &&& ~~~(x.imm.zeroExtend 48)) }
        ∧ exec (.stset i x) s = r { y.next with st := Status.ofWord (y.st.word ||| x.imm.zeroExtend 48) }))
    ∧ (∀ x : FmtX, s.ready i [] → x.rd = 0 → x.ra = 0 → x.rb = 0 → x.rsv = 0 →
      (x.imm.toNat < 256 → exec (.wmon i x) s = r { y.next with mask := y.mask ||| BitVec.twoPow 256 x.imm.toNat }
        ∧ exec (.wmoff i x) s = r { y.next with
            mask := y.mask &&& ~~~ BitVec.twoPow 256 x.imm.toNat, pend := y.pend &&& ~~~ BitVec.twoPow 256 x.imm.toNat })
      ∧ (x.imm = 0 → s.opsOf i = [] → exec (.sync i x) s = r y.next))

/-- Loads of RAM, MRAM and the boot ROM and stores to RAM, by EA and base write-back (R160, R163, R172, R192, R254 to R257, R277): a load
changes nothing but its strand, and of a chip-local word what the journal of a twin pair needs (R734); a store changes the one word at EA,
and a pair in sync notes it for the digest (R745). -/
def Obligations.LoadsAndStores : Prop :=
  ∀ (s : State) (i : StrandId) (x : FmtM), s.ready i [x.rt, x.ra, x.ri] → x.bad = false →
    let y := s.strand i
    let ea := x.ea y
    let loaded := if x.rt = x.ra then y else x.writeBack y
    (s.bpMatch i 1 ea.toNat = [] →
      (region ea.toNat = .ram → spGet (fun _ => 0) s.mem.ramErr ea.toNat = 0 →
        exec (.ld i x) s = .next (s.after i (loaded.gets x.rt (s.ramAt ea.toNat))))
      ∧ ((region ea.toNat = .mramUser ∨ (region ea.toNat = .mramSys ∧ sysLoadable ea.toNat = true)) → s.mramBad ea.toNat = 0 →
        (chipLocal ea.toNat = false → exec (.ld i x) s = .next (s.after i (loaded.gets x.rt (s.mramAt ea.toNat))))
        ∧ exec (.ld i x) s = .next ((s.liveLoad ea.toNat (s.mramAt ea.toNat)).2.after i
            (loaded.gets x.rt (s.liveLoad ea.toNat (s.mramAt ea.toNat)).1)))
      ∧ (region ea.toNat = .rom → isSup i = true → ∃ w, exec (.ld i x) s = .next (s.after i (loaded.gets x.rt w))))
    ∧ (s.bpMatch i 2 ea.toNat = [] → region ea.toNat = .ram → s.fenceBars ea.toNat = false → Memory.wf s = true → ∃ t,
        exec (.st i x) s = .next t
          ∧ t = ((s.ramSet ea.toNat (y.rd x.rt)).noteStore ea.toNat [y.rd x.rt]).after i (x.writeBack y).next
          ∧ t.ramAt ea.toNat = y.rd x.rt ∧ (∀ a, a ≠ ea.toNat → t.ramAt a = s.ramAt a) ∧ t.mram = s.mram ∧ t.regs =
            (s.after i y.next).regs)

/-- A load or a store that is not allowed faults its strand with the cause of its region, changing no register word of it and nothing of
RAM: ADDR in a reserved region, PROT where the region forbids the access (R160 to R162, R192, R233, R320). Words whose OP, FN or XFN is not
assigned, and unused fields other than zero, fault with ILL at issue (R251, R317): the strand is FAULTED with its PC, registers and status
as they were, and the record names the instruction (R233, R318, R320). A fetch that is not allowed faults its strand before anything
issues, with ADDR, PROT, MEMERR or XIPERR by the address (R160, R206, R230, R318): the record holds the PC as instruction and address, with
FETCH set. -/
def Obligations.StrandFaults : Prop :=
  (∀ (s : State) (i : StrandId) (x : FmtM), s.ready i [x.rt, x.ra, x.ri] → x.bad = false → (s.strand i).state = .runnable →
    let y := s.strand i
    let ea := x.ea y
    let faulted := fun (t : State) (cause : BitVec 4) => t.ram = s.ram ∧ t.mram = s.mram ∧ (t.strand i).state = .faulted
      ∧ (t.strand i).w = y.w ∧ (t.strand i).st = y.st ∧ (t.strand i).pc = y.pc
      ∧ (t.strand i).flt = { cause := cause, ipc := y.pc, ea := ea }
    (region ea.toNat = .reserved → (∃ t, exec (.ld i x) s = .next t ∧ faulted t 2) ∧ ∃ t, exec (.st i x) s = .next t ∧ faulted t 2)
    ∧ ((region ea.toNat = .mramUser ∨ region ea.toNat = .mramSys ∨ region ea.toNat = .rom ∨ region ea.toNat = .xip) →
        ∃ t, exec (.st i x) s = .next t ∧ faulted t 3)
    ∧ (region ea.toNat = .ram → s.fenceBars ea.toNat = true → ∃ t, exec (.st i x) s = .next t ∧ faulted t 3))
  ∧ (∀ (s : State) (i : StrandId),
    let y := s.strand i
    let faulted := fun (t : State) => t.ram = s.ram ∧ t.mram = s.mram ∧ (t.strand i).state = .faulted ∧ (t.strand i).w = y.w
      ∧ (t.strand i).st = y.st ∧ (t.strand i).pc = y.pc ∧ (t.strand i).flt = { cause := 1, ipc := y.pc }
    y.state = .runnable →
    (∀ w, s.ready i [] → unassigned w = true → ∃ t, exec (.illegalInstruction i w) s = .next t ∧ faulted t)
    ∧ (∀ x : FmtA, s.ready i [x.rd, x.ra, x.rb] → (x.ac = true ∨ x.am ≠ 0 ∨ x.imm ≠ 0) →
        (∃ t, exec (.add i x) s = .next t ∧ faulted t) ∧ (∃ t, exec (.and i x) s = .next t ∧ faulted t)
          ∧ ∃ t, exec (.shr i x) s = .next t ∧ faulted t)
    ∧ (∀ x : FmtX, s.readyLong i [x.rd, x.ra, x.rb] → (x.rsv ≠ 0 ∨ x.imm ≠ 0) → ∃ t, exec (.divs i x) s = .next t ∧ faulted t))
  ∧ (∀ (s : State) (i : StrandId) (cause : BitVec 3), s.canIssue i = true → (s.strand i).state = .runnable →
    (s.fetchFault i = some cause.toNat
      ∨ (cause = 4 ∧ s.fetchFault i = none ∧ ((region (s.strand i).pc.toNat = .ram ∧ spGet (fun _ => 0) s.mem.ramErr (s.strand i).pc.toNat = 2)
        ∨ (region (s.strand i).pc.toNat = .mramUser ∧ s.mramBad (s.strand i).pc.toNat = 3)))) →
    ∃ t, exec (.fetchFault i cause) s = .next t ∧ (t.strand i).state = .faulted ∧ (t.strand i).w = (s.strand i).w
      ∧ (t.strand i).pc = (s.strand i).pc ∧ t.ram = s.ram
      ∧ (t.strand i).flt = { cause := cause.zeroExtend 4, fetch := true, ipc := (s.strand i).pc, ea := (s.strand i).pc })

/-! ## Long operations -/

/-- Division (R237, R292, R293): the operation goes in flight with its quotient or remainder, SAT and DZ; its strand is past it. Square
roots (R292, R293): the floor of the root of u48, and the root of a fixed-point number rounded by RM; a negative operand gives 0 and DOM. -/
def Obligations.DivisionAndRootIssue : Prop :=
  (∀ (s : State) (i : StrandId) (x : FmtX), s.readyLong i [x.rd, x.ra, x.rb] → x.rsv = 0 → x.imm = 0 →
    let y := s.strand i
    let a := y.rd x.ra
    let b := y.rd x.rb
    let big : Int := if a = 0 then 0 else if a.toInt < 0 then -2 ^ 47 else 2 ^ 47 - 1
    let r := fun (v : Word) (sat : Bool) =>
      Host.Outcome.next (ρ := Refusal) (φ := Fault) (s.inFlight i (.compute 1 x.rd v sat (decide (b = 0)) false) .begun)
    exec (.divs i x) s = (if b = 0 then r (BitVec.ofInt 48 big) false
        else r (wordOf true false (a.toInt.tdiv b.toInt)) (misfits false (a.toInt.tdiv b.toInt)))
    ∧ exec (.divu i x) s = r (if b = 0 then (if a = 0 then 0 else 0xFFFFFFFFFFFF#48) else BitVec.ofNat 48 (a.toNat / b.toNat)) false
    ∧ exec (.rems i x) s = r (if b = 0 then a else BitVec.ofInt 48 (a.toInt.tmod b.toInt)) false
    ∧ exec (.remu i x) s = r (if b = 0 then a else BitVec.ofNat 48 (a.toNat % b.toNat)) false
    ∧ (∃ q : Int, exec (.divq24 i x) s = (if b = 0 then r (BitVec.ofInt 48 big) false else r (wordOf true false q) (misfits false q))
        ∧ (b ≠ 0 → Rounds y.st.rm (if b.toInt < 0 then -(a.toInt * 2 ^ 24) else a.toInt * 2 ^ 24) |b.toInt| q))
    ∧ (∃ q : Int, exec (.divq47 i x) s = (if b = 0 then r (BitVec.ofInt 48 big) false else r (wordOf true false q) (misfits false q))
        ∧ (b ≠ 0 → Rounds y.st.rm (if b.toInt < 0 then -(a.toInt * 2 ^ 47) else a.toInt * 2 ^ 47) |b.toInt| q)))
  ∧ (∀ (s : State) (i : StrandId) (x : FmtX), s.readyLong i [x.rd, x.ra] → x.rb = 0 → x.rsv = 0 → x.imm = 0 →
    let y := s.strand i
    let a := y.rd x.ra
    let r := fun (v : Word) (sat dom : Bool) => Host.Outcome.next (ρ := Refusal) (φ := Fault) (s.inFlight i (.compute 2 x.rd v sat false dom) .begun)
    let rootOf := fun (n q : Nat) => if y.st.rm = 0 ∨ y.st.rm = 1 then q * q < n + q + 1 ∧ n ≤ q * q + q else q * q ≤ n ∧ n < (q + 1) * (q + 1)
    (∃ q : Nat, exec (.isqrt i x) s = r (BitVec.ofNat 48 q) false false ∧ q * q ≤ a.toNat ∧ a.toNat < (q + 1) * (q + 1))
    ∧ (a.toInt < 0 → exec (.sqrtq24 i x) s = r 0 false true ∧ exec (.sqrtq47 i x) s = r 0 false true)
    ∧ (0 ≤ a.toInt → (∃ q : Nat, exec (.sqrtq24 i x) s = r (wordOf true false q) (misfits false q) false ∧ rootOf (a.toNat * 2 ^ 24) q)
        ∧ ∃ q : Nat, exec (.sqrtq47 i x) s = r (wordOf true false q) (misfits false q) false ∧ rootOf (a.toNat * 2 ^ 47) q))

/-- Rotations (R291, R294, R295): the pair goes in flight with two results that the operands and RM fix; POLAR of (0, 0) returns zeros with
DOM. The results are free within R295's bound (log entry 6, DESIGN CHOICE). RAM atomics go in flight with the address, the source and the
expected value (R296, R297); one that R160 to R162 or a fence forbids does not begin. -/
def Obligations.RotationAndAtomicIssue : Prop :=
  (∀ (s : State) (i : StrandId) (x : FmtX), s.readyLong i [x.rd, x.rd + 1, x.ra, x.rb] → x.rsv = 0 → x.imm = 0 → x.rd ≠ 0 → x.rd ≠ 31 →
    let y := s.strand i
    let r := fun (u v : Word) (sat dom : Bool) => Host.Outcome.next (ρ := Refusal) (φ := Fault) (s.inFlight i (.rotate x.rd u v sat dom) .begun)
    (∃ u v sat, exec (.sincos i x) s = r u v sat false
        ∧ (y.rd x.rb = 0 → (-1 ≤ u.toInt ∧ u.toInt ≤ 1) ∧ -1 ≤ v.toInt ∧ v.toInt ≤ 1))
    ∧ (∃ u v sat, exec (.polar i x) s = r u v sat (decide (y.rd x.ra = 0 ∧ y.rd x.rb = 0)) ∧ (y.rd x.ra = 0 → y.rd x.rb = 0 → u = 0 ∧ v = 0))
    ∧ (x.rb = 0 → ∃ u v sat, exec (.rotv i x) s = r u v sat false))
  ∧ (∀ (s : State) (i : StrandId) (x : FmtX), s.readyLong i [x.rd, x.ra, x.rb] → x.rsv = 0 →
    let y := s.strand i
    let ea : BitVec 24 := (y.rd x.ra).setWidth 24 + x.imm.signExtend 24
    let r := fun (f : BitVec 3) => Host.Outcome.next (ρ := Refusal) (φ := Fault) (s.inFlight i (.atomic f x.rd ea (y.rd x.rb) (y.rd x.rd)) .begun)
    (region ea.toNat = .ram → s.fenceBars ea.toNat = false → exec (.amswap i x) s = r 0 ∧ exec (.amadd i x) s = r 1 ∧ exec (.amand i x) s = r 2
      ∧ exec (.amor i x) s = r 3 ∧ exec (.amxor i x) s = r 4 ∧ exec (.amcas i x) s = r 5)
    ∧ (region ea.toNat ≠ .ram → y.state = .runnable → ∃ t, exec (.amadd i x) s = .next t ∧ t.core.ops = s.core.ops ∧ t.ram = s.ram
        ∧ (t.strand i).state = .faulted))

/-- PERSIST, RLD, RST, NSEND and the supervisor calls go in flight (R298 to R300, R304, R305, R307 to R309, R315, R316). A persist also
waits for the staging ring with the words of its source; a call of a user strand is passed to the supervisor unless 16 are not completed,
which it answers BUSY. -/
def Obligations.SystemIssue : Prop :=
  ∀ (s : State) (i : StrandId) (x : FmtX), s.readyLong i [x.rd, x.ra, x.rb] → x.rsv = 0 →
    let y := s.strand i
    let a : BitVec 24 := (y.rd x.ra).setWidth 24
    let b : BitVec 24 := (y.rd x.rb).setWidth 24
    (∀ n : Nat, n = x.imm.toNat + 1 → n ≤ 16 → persistFault i a b n = none → ∃ t, exec (.persist i x) s = .next t
      ∧ t.core.ops = s.core.ops ++ [{ id := s.core.nextOp, str := i, pc := y.pc, issue := s.time.dtime, body := .persist x.rd a b n }]
      ∧ t.mem.persists = s.mem.persists ++ [{ owner := .op s.core.nextOp, target := a, src := some b
                                              data := (List.range n).map (fun k => s.ramAt (b.toNat + k)) }]
      ∧ s.memSame t ∧ (t.strand i).pc = y.pc + 1 ∧ (t.strand i).w = y.w)
    ∧ (s.cascade = false → x.imm.toNat < 4 →
      exec (.rst i x) s = .next (s.inFlight i (.remote x.rd ⟨x.imm.toNat % 4, Nat.mod_lt _ (by decide)⟩ a (some (y.rd x.rb))) (.ended 0 7 0)))
    ∧ (s.cascade = false → x.imm.toNat < 4 → x.rb = 0 → x.rd ≠ 0 → x.rd ≠ 31 → s.pendingReg i (x.rd + 1) = false →
      exec (.rld i x) s = .next (s.inFlight i (.remote x.rd ⟨x.imm.toNat % 4, Nat.mod_lt _ (by decide)⟩ a none) (.ended 0 7 0)))
    ∧ (x.rb = 0 → x.imm.toNat < 2 → descFault a.toNat (if x.imm.getLsbD 0 then 3 else if region a.toNat = .ram then canDescLen (s.ramAt a.toNat) else 1)
        = none → exec (.nsend i x) s = .next (s.inFlight i (.nsend x.rd a (x.imm.getLsbD 0)) .begun))
    ∧ (isSup i = false → x.imm.toNat < 2 ^ 12 → 16 ≤ s.svcPending →
        let r := Host.Outcome.next (ρ := Refusal) (φ := Fault)
          (s.inFlight i (.svc x.rd (BitVec.ofNat 12 x.imm.toNat) (y.rd x.ra) (y.rd x.rb)) (.ended 0 2 0))
        exec (.takeCourse i x) s = r ∧ exec (.giveCourse i x) s = r ∧ exec (.queryState i x) s = r ∧ exec (.tuneMotor i x) s = r
          ∧ exec (.moveTo i x) s = r ∧ exec (.moveVel i x) s = r ∧ exec (.stopMotion i x) s = r ∧ exec (.holdCapo i x) s = r
          ∧ exec (.releaseHold i x) s = r ∧ exec (.profclr i x) s = r ∧ exec (.limitCurrent i x) s = r ∧ (∀ p, exec (.clearFault i x p) s = r)
          ∧ exec (.parget i x) s = r ∧ exec (.parset i x) s = r ∧ exec (.mrecget i x) s = r ∧ exec (.polreload i x) s = r)

/-- A long operation completes (R237, R286, R288 to R290, R307 to R309, R329): it leaves flight in this beat and writes its destinations
with its sticky flags; of an atomic, the word in RAM becomes the one of R296, and no other; a network send to a controller that is off, or
whose buffers are all taken, ends REFUSED or BUSY. -/
def Obligations.LongOpResults : Prop :=
  ∀ (s : State) (i : StrandId) (k : Fin 2) (o : Op), (s.opsOf i)[k.val]? = some o → s.core.esc = none →
    let y := s.strand i
    let gone := s.core.ops.filter (fun q => q.id != o.id)
    let csw := fun (c : BitVec 4) (d : BitVec 8) => BitVec.ofNat 48 (c.toNat + d.toNat * 2 ^ 8 + s.time.dtime.toNat % 2 ^ 32 * 2 ^ 16)
    let r := fun (u : State) (z : Strand) => Host.Outcome.next (ρ := Refusal) (φ := Fault)
      { u with core := { u.core with ops := gone, strands := u.core.strands.set i { z with opEnd := some s.time.dtime } } }
    (∀ kind rd v sat dz dom, o.body = .compute kind rd v sat dz dom → exec (.longOpComplete i k) s =
        r s { (y.wr rd v) with st := { y.st with sat := y.st.sat || sat, dz := y.st.dz || dz, dom := y.st.dom || dom } })
    ∧ (∀ rd u v sat dom, o.body = .rotate rd u v sat dom → exec (.longOpComplete i k) s =
        r s { ((y.wr rd u).wr (rd + 1) v) with st := { y.st with sat := y.st.sat || sat, dz := y.st.dz, dom := y.st.dom || dom } })
    ∧ (∀ rt ea v c d, o.body = .load rt ea → o.stage = .ended v c d → exec (.longOpComplete i k) s = r s (y.wr rt v))
    ∧ (∀ rd num ra rb v c d, o.body = .svc rd num ra rb → o.stage = .ended v c d → (∀ q ∈ s.core.ops, q.id ≠ o.id → q.isCall = false) →
        exec (.longOpComplete i k) s = r s (y.wr rd ((v <<< 4) ||| c.zeroExtend 48)))
    ∧ (∀ fn rd ea src e, o.body = .atomic fn rd ea src e → fn.toNat < 6 → spGet (fun _ => 0) s.mem.ramErr ea.toNat = 0 →
        (∀ q ∈ s.core.ops, q.id < o.id → ∀ f r' s' e', q.body ≠ .atomic f r' ea s' e') →
        let old := s.ramAt ea.toNat
        let new := [src, old + src, old &&& src, old ||| src, old ^^^ src, if old = e then src else old].getD fn.toNat 0
        exec (.longOpComplete i k) s = r ((s.ramSet ea.toNat new).noteStore ea.toNat [new]) (y.wr rd old))
    ∧ (∀ rd d w, o.body = .nsend rd d false → s.core.ops.find? (fun q => q.id == o.id) = some o → s.shadowing = false →
        s.descWords i false d.toNat = (w, s) →
        (s.canMode ≠ 2 → s.canMode ≠ 4 → exec (.longOpComplete i k) s = r s (y.wr rd (csw 1 1)))
        ∧ (s.canMode = 2 → canMalformed (w.headD 0) = true → exec (.longOpComplete i k) s = r s (y.wr rd (csw 1 2)))
        ∧ (s.canMode = 2 → canMalformed (w.headD 0) = false → (∀ b : Fin 8, s.net.can[b] ≠ none) →
          exec (.longOpComplete i k) s = r s (y.wr rd (csw 2 0))))

/-- A remote access that has been sent completes by its reply, or 4,800 beats from its issue without one (R305): OK with the word, REMOTE
with DETAIL ADDR or PROT, or TIMEOUT; its destinations are written and nothing else changes. -/
def Obligations.RemoteAccessEnds : Prop :=
  ∀ (s : State) (i : StrandId) (k : Fin 2) (o : Op) (rd : BitVec 5) (p : Chip) (ea : BitVec 24) (v : Option Word), (s.opsOf i)[k.val]? = some o →
    o.body = .remote rd p ea v → o.stage = .begun → s.core.esc = none → s.core.ops.find? (fun q => q.id == o.id) = some o →
    let y := s.strand i
    let csw := fun c d : Nat => BitVec.ofNat 48 (c + d * 2 ^ 8 + s.time.dtime.toNat % 2 ^ 32 * 2 ^ 16)
    let r := fun (w : Word) (c d : Nat) =>
      let z := if v.isSome then y.wr rd (csw c d) else (y.wr rd (if c = 0 then w else 0)).wr (rd + 1) (csw c d)
      Host.Outcome.next (ρ := Refusal) (φ := Fault) { s with core := { s.core with
        ops := s.core.ops.filter (fun q => q.id != o.id), strands := s.core.strands.set i { z with opEnd := some s.time.dtime } } }
    (∀ w, exec (.remoteAccessReply i k (.ok w)) s = r w 0 0) ∧ exec (.remoteAccessReply i k .addr) s = r 0 5 1
      ∧ exec (.remoteAccessReply i k .prot) s = r 0 5 2
      ∧ exec (.remoteAccessTimeout i k) s = (if 0 ≤ (s.time.dtime - (o.issue + 4799)).toInt then r 0 3 0 else .next s)

/-! ## Events and strands -/

/-- Waits (R209 to R214, R310, R311, R853): WAIT takes the lowest pending line, or its reached deadline, at once, and otherwise waits; the
line or the deadline that ends a wait makes the strand RUNNABLE with its rd written. Event lines (R209 to R212, R215, R310, R853): SIG
asserts its line in the next beat and EVSET the lines of its word in this one. At the end of a beat every strand whose mask holds an
asserted line has it pending, a line already pending sets EVMERGE, and a wait in progress whose deadline has not passed is ended by the
lowest of its lines; nothing else of a strand changes. -/
def Obligations.WaitsAndEventLines : Prop :=
  (∀ (s : State) (i : StrandId), let y := s.strand i
    (∀ x : FmtX, s.ready i [x.rd, x.ra] → y.state = .runnable → x.rb = 0 → x.rsv = 0 → x.imm.toNat < 2 → (x.imm = 1 ∨ x.ra = 0) →
      let deadline := if x.imm = 1 then some (y.rd x.ra) else none
      let late := x.imm = 1 ∧ 0 ≤ (s.time.dtime - y.rd x.ra).toInt
      (∀ n : Nat, n < 256 → y.pend.getLsbD n = true → (∀ j < n, y.pend.getLsbD j = false) → exec (.wait i x) s =
        .next (s.afterTraced i { y.gets x.rd (BitVec.ofNat 48 n) with pend := y.pend &&& ~~~ BitVec.twoPow 256 n } 3 0))
      ∧ (y.pend = 0 → late → exec (.wait i x) s = .next (s.afterTraced i (y.gets x.rd 0x100) 3 0))
      ∧ (y.pend = 0 → ¬ late → s.opsOf i = [] → exec (.wait i x) s =
        .next (s.afterTraced i { y.next with waitRd := x.rd, waitDl := deadline, waitEnd := .none, state := .waiting } 3 0))
      ∧ (y.pend = 0 → ¬ late → s.opsOf i ≠ [] → exec (.wait i x) s =
        .next (s.afterTraced i { y.next with waitRd := x.rd, waitDl := deadline, waitEnd := .none, state := .draining, drainTo := .waiting } 3 0)))
    ∧ (∀ d, y.state = .waiting → y.waitEnd = .none → y.waitDl = some d → 0 ≤ (s.time.dtime - d).toInt →
        exec (.deadlineReached i) s = .next (s.setStrand i { y with waitEnd := .deadline, waitAt := s.time.dtime }))
    ∧ (y.state = .waiting → s.opsOf i = [] → y.opEnd ≠ some s.time.dtime → 5 ≤ (s.time.dtime - y.waitAt).toInt →
      (∀ n, y.waitEnd = .line n → exec (.strandRunnable i) s = .next (((s.setStrand i { y.wr y.waitRd (n.zeroExtend 48) with
          pend := y.pend &&& ~~~ BitVec.twoPow 256 n.toNat, state := .runnable, key := s.time.dtime, waitEnd := .none, waitDl := none }).traceEv
            2 i n.toNat).checkC0))
      ∧ (y.waitEnd = .deadline → exec (.strandRunnable i) s = .next (((s.setStrand i { y.wr y.waitRd 0x100 with
          state := .runnable, key := s.time.dtime, waitEnd := .none, waitDl := none }).traceEv 2 i 0).checkC0)))
    ∧ (y.state = .draining → s.opsOf i = [] → y.opEnd ≠ some s.time.dtime → (y.waitEnd = .none ∨ y.drainTo ≠ .waiting) →
        exec (.strandDrainEnd i) s = .next (s.setStrand i { y with state := y.drainTo })))
  ∧ (∀ (s : State), (∀ (i : StrandId) (x : FmtX), s.ready i [] → x.rd = 0 → x.ra = 0 → x.rb = 0 → x.rsv = 0 → x.imm.toNat < 48 →
      ∃ t, exec (.sig i x) s = .next t ∧ s.memSame t ∧ (t.strand i).pc = (s.strand i).pc + 1 ∧ (∀ j, (t.strand j).pend = (s.strand j).pend)
        ∧ t.core.nextEv = s.core.nextEv ||| BitVec.twoPow 256 x.imm.toNat)
    ∧ (∀ (m : Master) (v : Word), ∃ t, exec (.evset m v) s = .next t ∧ s.memSame t ∧ t.regs = s.regs ∧ t.core = s.core
        ∧ t.now.lines = s.now.lines ||| v.setWidth 256)
    ∧ s.nextLines.now.lines = s.now.lines ||| s.core.nextEv ∧ s.nextLines.core.nextEv = 0
    ∧ (∀ j : StrandId, let y := s.strand j
        let hit := s.now.lines &&& y.mask
        (s.hearLines.strand j).pend = y.pend ||| hit
        ∧ (s.hearLines.strand j).evMerge = (y.evMerge || decide (hit &&& y.pend ≠ 0))
        ∧ { s.hearLines.strand j with pend := y.pend, evMerge := y.evMerge, waitEnd := y.waitEnd, waitAt := y.waitAt } = y
        ∧ (y.state = .waiting → y.waitEnd = .none → (∀ d, y.waitDl = some d → (s.time.dtime - d).toInt ≤ 0) →
          ∀ n < 256, hit.getLsbD n = true → (∀ m < n, hit.getLsbD m = false) →
            (s.hearLines.strand j).waitEnd = .line (BitVec.ofNat 8 n) ∧ (s.hearLines.strand j).waitAt = s.time.dtime)))

/-- Strands are made, ended, parked, resumed, freed and reclassed (R195, R197 to R200, R313, R314, R323, R324); a refused instruction
changes no strand but its own. -/
def Obligations.StrandControl : Prop :=
  ∀ (s : State) (i : StrandId) (x : FmtX), let y := s.strand i
    y.state = .runnable → x.rsv = 0 →
    (s.ready i [x.rd, x.ra, x.rb] → ∀ j : StrandId, x.imm.toNat < 256 → x.imm.toNat % 64 = j.val → j ≠ i →
      (isSup j = false → (s.strand j).state = .free → ∃ t, exec (.spawn i x) s = .next t ∧ (t.strand i).w = (y.wr x.rd (BitVec.ofNat 48 j.val)).w
        ∧ (t.strand j).state = .runnable ∧ (t.strand j).pc = (y.rd x.ra).setWidth 24 ∧ (t.strand j).rd 1 = y.rd x.rb
        ∧ (∀ r : BitVec 5, r ≠ 1 → (t.strand j).rd r = 0) ∧ (t.strand j).a0 = 0 ∧ (t.strand j).st = {} ∧ (t.strand j).key = s.time.dtime + 1
        ∧ (t.strand j).cls.toNat = x.imm.toNat / 64 ∧ s.memSame t)
      ∧ (isSup j = true → ∃ t, exec (.spawn i x) s = .next t ∧ t.strand i = (y.gets x.rd 0xFFFFFFFFFFFE).issued s.time.dtime ∧ t.strand j = s.strand j)
      ∧ (isSup j = false → (s.strand j).state ≠ .free → ∃ t, exec (.spawn i x) s = .next t
          ∧ t.strand i = (y.gets x.rd 0xFFFFFFFFFFFF).issued s.time.dtime ∧ t.strand j = s.strand j))
    ∧ (s.ready i [] → x.rd = 0 → x.ra = 0 → x.rb = 0 → x.imm = 0 →
      (s.opsOf i = [] → exec (.endStrand i x) s = .next (s.afterTraced i { y.next with state := .free } 5 0)
        ∧ exec (.park i x) s = .next (s.afterTraced i { y.next with state := .parked } 4 0))
      ∧ (s.opsOf i ≠ [] → exec (.endStrand i x) s = .next (s.afterTraced i { y.next with state := .draining, drainTo := .free } 5 0)
        ∧ exec (.park i x) s = .next (s.afterTraced i { y.next with state := .draining, drainTo := .parked } 4 0)))
    ∧ (s.ready i [x.rd, x.ra] → x.rb = 0 → ∀ j : StrandId, (y.rd x.ra).toNat % 64 = j.val → j ≠ i → (isSup j = false ∨ isSup i = true) →
      (x.imm = 0 → (s.strand j).state = .faulted → (s.strand j).flt.resv = false → ∃ t, exec (.resume i x) s = .next t
          ∧ t.strand i = (y.gets x.rd 0).issued s.time.dtime ∧ (t.strand j).state = .runnable ∧ (t.strand j).flt = {}
          ∧ (t.strand j).pc = (if (s.strand j).flt.defer then (s.strand j).pc else (s.strand j).flt.ipc) ∧ (t.strand j).key = s.time.dtime + 1)
      ∧ (x.imm = 0 → (s.strand j).state = .parked → s.opsOf j = [] → ∃ t, exec (.free i x) s = .next t
          ∧ t.strand i = (y.gets x.rd 0).issued s.time.dtime ∧ (t.strand j).state = .free ∧ (t.strand j).w = (s.strand j).w)
      ∧ (x.imm.toNat < 4 → (s.strand j).state ≠ .free → ∃ t, exec (.setcls i x) s = .next t ∧ t.strand i = (y.gets x.rd 0).issued s.time.dtime
          ∧ t.strand j = { s.strand j with cls := x.imm.setWidth 2, key := s.time.dtime }))

/-! ## Watchdog, escalation and resets -/

/-- The watchdog (R217 to R221, R326, R327): once it runs, a right kick by the serving strand restarts the count, turns EXPECT and locks
SCH_WDCFG; a kick by another master, one too early and one with a wrong key expire it with LAST 4, 2 and 3, and from the beat in which the
count reaches WDTO every kick and the count itself expire it with LAST 1; the count reaching WDMIN asserts line 51 once. It does not count
in a machine halt. -/
def Obligations.WatchdogRules : Prop :=
  ∀ s : State, Memory.wf s = true → s.core.esc = none → s.pwr.kind = 0 → s.core.wdRun = true →
    let ms := s.core.wdBeats / 240000
    let expires := fun (c : Instr) (n : Nat) => ∃ t, exec c s = .next t ∧ s.escalatesTo t 1 4 0 ∧ t.get R.SCH_WDSTAT_LAST = n
    (∀ (i : StrandId) (v : Word), i.val = s.get R.SCH_WDCFG_STRAND → ms < s.get R.SCH_WDCFG_WDTO →
      let early := ms < s.get R.SCH_WDCFG_WDMIN
      let right := v.toNat % 2 ^ 16 = (if s.get R.SCH_WDSTAT_EXPECT = 0 then 0x3C96 else 0xC369)
      (¬ early → right → ∃ t, exec (.wdkick (.strand i) v) s = .next t ∧ t.core = { s.core with wdBeats := 0, wdOpen := false } ∧ s.memSame t
          ∧ t.get R.SCH_WDSTAT_EXPECT = 1 - s.get R.SCH_WDSTAT_EXPECT ∧ t.get R.SCH_WDCFG_LOCK = 1
          ∧ s.regsBut t [RW.SCH_WDSTAT, RW.SCH_WDCFG])
        ∧ (early → expires (.wdkick (.strand i) v) 2) ∧ (¬ early → ¬ right → expires (.wdkick (.strand i) v) 3))
    ∧ (∀ (m : Master) (v : Word), ms < s.get R.SCH_WDCFG_WDTO → (∀ i : StrandId, m = .strand i → i.val ≠ s.get R.SCH_WDCFG_STRAND) →
        expires (.wdkick m v) 4)
    ∧ (s.get R.SCH_WDCFG_WDTO ≤ ms → ∀ (m : Master) (v : Word), expires (.wdkick m v) 1)
    ∧ (s.pwr.mode = .run → s.get R.DBG_STAT_MH = 0 →
        (s.get R.SCH_WDCFG_WDTO ≤ ms → expires .watchdogExpiry 1) ∧ (ms < s.get R.SCH_WDCFG_WDTO → exec .watchdogExpiry s = .next s)
        ∧ (s.get R.SCH_WDCFG_WDMIN ≤ ms → s.core.wdOpen = false → ∃ t, exec .watchdogWindowOpen s = .next t
            ∧ t.core = { s.core with wdOpen := true } ∧ t.regs = s.regs ∧ s.memSame t ∧ s.raises t 51)
        ∧ (s.get R.SCH_WDCFG_WDMIN ≤ ms → s.core.wdOpen = true → exec .watchdogWindowOpen s = .next s))
    ∧ (s.get R.DBG_STAT_MH ≠ 0 → exec .watchdogExpiry s = .next s ∧ exec .watchdogWindowOpen s = .next s)

/-- A parity error of the register file and a software reset begin an escalation (R134, R135, R325, R326, R327); a second cause only notes
that there was one more, and one of a WDR in the escalation of an SWR makes the reset a WDR (log entry 18, DEDUCED); a write of RST_CTL
without SWR and its key sets FAULTOUT alone. The end of an escalation (R134, R327, R328, R331, R332, R335, R337): once nothing that has
begun runs, or 2,048 beats from F, the snapshot shows how many operations were in flight at F, the source and F, and the words of entries
that are not used are zero; 16 beats later one fault-log entry of beat F is on its way. A log that does not commit within 640 beats lets
the reset begin: WDR, or SWR for a software reset, which keeps RAM, MRAM and device time, stops issue and counts once more. -/
def Obligations.EscalationRules : Prop :=
  (∀ s : State, Memory.wf s = true →
    (s.core.esc = none → s.pwr.kind = 0 → (s.watching = true → ∀ i : StrandId, ∃ t, exec (.registerFileParityError i) s = .next t
        ∧ s.escalatesTo t 2 2 (BitVec.ofNat 6 i.val))
      ∧ (∀ (m : Master) (v : Word), v.toNat % 2 ^ 17 = 2 ^ 16 + 0xC3A5 → ∃ t, exec (.softwareReset m v) s = .next t ∧ s.escalatesTo t 3 5 0
          ∧ t.get R.RST_CTL_FAULTOUT = v.toNat / 2 ^ 17 % 2))
    ∧ (∀ (m : Master) (v : Word), v.toNat % 2 ^ 17 ≠ 2 ^ 16 + 0xC3A5 →
        exec (.softwareReset m v) s = .next (s.put R.RST_CTL_FAULTOUT (v.toNat / 2 ^ 17 % 2)))
    ∧ (∀ (e : Escalation) (i : StrandId), s.core.esc = some e → s.watching = true → ∃ t, exec (.registerFileParityError i) s = .next t
        ∧ s.memSame t ∧ s.regsBut t [RW.RST_STAT] ∧ (t.get R.RST_STAT_HIST).testBit 3 = true
        ∧ (s.pwr.kind ≠ 5 → t.core = { s.core with esc := some { e with more := e.more || !e.logged } } ∧ t.pwr = s.pwr)
        ∧ (s.pwr.kind = 5 → t.core = { s.core with esc := some { e with more := e.more || !e.logged, wdrsrc := 2 } }
            ∧ t.pwr = { s.pwr with kind := 4 })))
  ∧ (∀ (s : State) (e : Escalation), Memory.wf s = true → s.core.esc = some e →
    (e.snapped = false → e.atF.length ≤ 128 →
      ((∀ o ∈ s.core.ops, o.stage = .waiting) ∧ 0 < (s.time.dtime - e.doneAt).toInt) ∨ 0 ≤ (s.time.dtime - (e.f + 2048)).toInt →
      ∃ t l, exec .escalationDrainEnd s = .next t
      ∧ t.get R.SCH_SNAPHDR_NENT = e.atF.length ∧ t.get R.SCH_SNAPHDR_SRC = e.src.toNat ∧ t.get R.SCH_SNAPTIME_F = e.f.toNat
      ∧ (∀ k, e.atF.length ≤ k → k < 128 → t.get (R.SCH_SNAPE0_W k) = 0 ∧ t.get (R.SCH_SNAPE1_W k) = 0)
      ∧ t.core = { s.core with esc := some { e with snapped := true, d := s.time.dtime, outcomes := l } } ∧ l.length = e.atF.length
      ∧ s.memSame t ∧ t.mem = s.mem)
    ∧ (e.snapped = true → exec .escalationDrainEnd s = .next s)
    ∧ (e.snapped = true → e.logged = false → 0 ≤ (s.time.dtime - (e.d + 16)).toInt → ∃ p, s.escLog.mem.persists = s.mem.persists ++ [p]
        ∧ p.owner = .faultLog true ∧ p.data.length = 8 ∧ p.data.getD 1 0 = e.f)
    ∧ (e.snapped = true → 0 ≤ (s.time.dtime - (e.d + 640)).toInt → ∃ t, exec .escalationLogTimeout s = .next t
      ∧ t.pwr.kind = (if s.pwr.kind = 5 then 5 else 4) ∧ t.get R.RST_STAT_KIND = t.pwr.kind ∧ t.pwr.boot = .flow ∧ t.pwr.logLost = true
      ∧ t.get R.RST_STAT_COUNT = min (s.get R.RST_STAT_COUNT + 1) (2 ^ 16 - 1) ∧ t.core = {} ∧ s.memSame t ∧ t.time.dtime = s.time.dtime
      ∧ (s.pwr.kind ≠ 5 → t.get R.RST_STAT_WDRSRC = e.wdrsrc.toNat))
    ∧ (e.snapped = false ∨ (s.time.dtime - (e.d + 640)).toInt < 0 → exec .escalationLogTimeout s = .next s))

/-- A power-on reset and OFF (R106, R113, R114, R134, R139, R140): MRAM stays; RAM reads zero; every register word has lost its fields of
all classes but N, apart from what the reset itself records. VSUP below its threshold leads to OFF, its rise or the release of the latch to
a POR. The resets that come from outside a program (R106, R134 to R138, R143): a brown-out, the pin RESET_N and the end of the SRR hold,
each with its kind, its count and its bit of HIST; the brown-out loses RAM, the others keep it; MRAM is kept. -/
def Obligations.PowerOnAndResets : Prop :=
  (∀ s : State, Memory.wf s = true →
    let afterPor := fun t : State => t.mram = s.mram ∧ (∀ a, t.ramAt a = 0) ∧ t.core = {} ∧ t.time = {} ∧ t.sent = s.sent
      ∧ (∀ a r, regRow a = some r → a ∉ [RW.RST_KEYST, RW.RSV_SDSTAT, RW.ICONV_STAT] → t.reg a = loseFields (resetLoses 1) r.fields (s.reg a))
      ∧ t.get R.RST_KEYST_OPEN = 1 - s.get R.RST_KEYST_LOCKED ∧ t.get R.ICONV_STAT_CHG_GAP = 1
    let starts := fun c : Instr => ∃ t, exec c s = .next t ∧ afterPor t ∧ t.pwr.mode = .start ∧ t.pwr.boot = .regs ∧ t.pwr.kind = 1
      ∧ t.pwr.rstDrive = true
    (s.pwr.mode = .off → s.pwr.offLatch = false → starts .powerOn)
    ∧ (s.pwr.mode = .off → s.pwr.offLatch = true → starts .offLatchRelease)
    ∧ (∃ t, exec .supplyLossOff s = .next t ∧ afterPor t ∧ t.pwr.mode = .off ∧ t.pwr.offLatch = false ∧ t.pwr.rstDrive = false)
    ∧ (s.pwr.mode ≠ .off → ∀ b, exec (.vsupSourceSwitch b) s =
        .next (({ s with pwr := { s.pwr with vsrc := b } } : State).put R.PWR_STAT_VSRC (if b then 1 else 0)))
    ∧ (s.pwr.mode = .off → ∀ b, exec (.vsupSourceSwitch b) s = .next s))
  ∧ (∀ s : State, Memory.wf s = true → s.pwr.kind = 0 →
    let runs := fun (c : Instr) (k : Nat) => ∃ t, exec c s = .next t ∧ t.pwr.kind = k ∧ t.get R.RST_STAT_KIND = k ∧ t.core = {}
      ∧ t.get R.RST_STAT_COUNT = min (s.get R.RST_STAT_COUNT + 1) (2 ^ 16 - 1) ∧ (t.get R.RST_STAT_HIST).testBit (k - 1) = true
      ∧ t.mram = s.mram ∧ (k ≠ 2 → t.ram = s.ram ∧ t.pwr.boot = .flow ∧ t.time.dtime = s.time.dtime)
      ∧ (k = 2 → t.ram = [] ∧ t.pwr.boot = .regs ∧ t.time.beatOn = false) ∧ (t.pwr.rstDrive = true ↔ k ≠ 3)
    (s.pwr.mode = .run → (∀ src : BitVec 2, src ≠ 0 → runs (.brownout src) 2
          ∧ ∃ t, exec (.brownout src) s = .next t ∧ t.get R.RST_STAT_BORSRC = src.toNat)
        ∧ (s.pwr.rstDrive = false → s.pwr.entry = none → runs .resetPinAssert 3))
    ∧ (s.pwr.mode = .srrHold → s.get R.PWR_STAT_VBATUV = 0 → 0 ≤ (s.time.dtime - (s.rsv.vbAt + 2400000)).toInt → runs .srrHoldEnd 6)
    ∧ exec .resetPinRelease s = .next { s with pwr := { s.pwr with pinLow := false } })

/-! ## Boot -/

/-- Start-up to the first image try (R62, R66, R79, R126, R145, R146, R153, R156): valid regulators sample the straps by majority, the beat
is released once the reference is valid, device time is handed off after a stop, and the boot ROM tries the sources in the order of BOOT,
or holds for a strap error. Image tries (R146, R149, R153, R156, R157, R159): a try that ends with a fault code shows it and gives way to
the next source, or to the boot-fail hold; an accepted image of a single chip starts the user at its entry in strand 0; a header without
its magic word is fault 2. A flash try reads the header, and the body only where a copy or the CMAC needs it. RST_HOSTGO starts a host try,
and HOSTTO milliseconds end the wait with fault 9. -/
def Obligations.BootRules : Prop :=
  (∀ s : State, Memory.wf s = true → s.core.esc = none →
    (s.pwr.mode = .start → s.pwr.boot = .regs → ∀ a b c : BitVec 8, ∃ t, exec (.regulatorsValid a b c) s = .next t
      ∧ (let v := ((a &&& b) ||| (a &&& c) ||| (b &&& c)).toNat
         t.get R.RST_STRAP_ROLE = v % 4 ∧ t.get R.RST_STRAP_BOOT = v / 4 % 4 ∧ t.get R.RST_STRAP_NODE = v / 16
         ∧ t.get R.TIME_CLKCTL_REFOUT_EN = (if v % 4 = 1 ∨ v % 4 = 3 then 1 else 0))
      ∧ t.get R.PWR_STAT_VREG5_OK = 1 ∧ t.get R.PWR_STAT_VIO_OK = 1 ∧ t.get R.PWR_STAT_VCORE_OK = 1 ∧ t.pwr.boot = .beat
      ∧ t.pwr.rstDrive = false ∧ s.memSame t ∧ t.time = s.time)
    ∧ (s.pwr.mode = .standby → s.pwr.wake = some .regs → ∀ a b c : BitVec 8, ∃ t, exec (.regulatorsValid a b c) s = .next t
      ∧ t.pwr = { s.pwr with wake := some .beat } ∧ s.regsBut t [RW.PWR_STAT] ∧ t.time = s.time)
    ∧ (s.pwr.mode = .start → s.pwr.boot = .beat → s.time.refValid = true → ∃ t, exec .beatRelease s = .next t ∧ t.time.beatOn = true
      ∧ t.get R.TIME_STAT_PLL_LOCK = 1 ∧ t.time.dtime = s.time.dtime ∧ s.memSame t ∧ t.core = s.core
      ∧ (s.pwr.kind = 1 → t.pwr.mode = .run ∧ t.pwr.boot = .flow) ∧ (s.pwr.kind ≠ 1 → t.pwr.boot = .handoff ∧ t.time.handoff = true))
    ∧ (s.time.refValid = false → exec .beatRelease s = .next s)
    ∧ (s.pwr.boot = .flow → s.pwr.mode ≠ .off → (s.pwr.kind = 1 ∨ s.pwr.kind = 2 ∨ s.pwr.kind = 7) → ∀ a b c, ∃ t,
      exec (.bootFlow a b c) s = .next t ∧ (s.get R.RST_BOOTST_STRAPERR ≠ 0 → t = { s with pwr := { s.pwr with boot := .failHold, kind := 0 } })
      ∧ (s.get R.RST_BOOTST_STRAPERR = 0 → t.mem.slots = [] ∧ t.pwr.boot = (match t.get R.RST_STRAP_BOOT with
          | 0 => .trying 0 [1, 2] | 1 => .trying 1 [0, 2] | 2 => .hostWait [] | _ => .trying 0 [])))
    ∧ (s.pwr.mode = .start → s.pwr.boot = .handoff → s.time.handoff = true → s.pwr.pinPend = false → ∀ (k : Nat) (qr qb : Word),
      ∃ t, exec (.dtimeHandoff k qr qb) s = .next t ∧ t.pwr.boot = .flow ∧ t.pwr.mode = .run ∧ t.time.handoff = false
      ∧ t.time.dtime = s.time.dStop + BitVec.ofNat 48 (((s.time.aoCount + k) * s.aoK + 128) / 256)))
  ∧ (∀ (s : State) (rest : List Nat), Memory.wf s = true → s.core.esc = none →
    let next := fun (u t : State) => t.pwr.boot = (match rest with | [] => .failHold | 2 :: l => .hostWait l | k :: l => .trying k l)
      ∧ t.core = u.core ∧ t.mram = u.mram
    (∀ (g : ImageTry) (src : Nat), s.pwr.boot = .trying src rest →
      (src ≠ 1 ∨ g.timeout = some 0 ∨ s.tryWords ((g.words.take 16).map xipWord) ≤ g.words.length) →
      let r := s.tryImage g src
      (r.1 ≠ 1 → ∃ t, exec (.imageTryEnd g) s = .next t ∧ next r.2.2 t ∧ t.get (bootCode src) = r.1 ∧ t.ram = r.2.2.ram)
      ∧ (r.1 = 1 → s.get R.RST_STRAP_ROLE = 0 → ∃ t, exec (.imageTryEnd g) s = .next t ∧ t.pwr.boot = .user
          ∧ t.get R.RST_BOOTST_SRC = src % 4 ∧ t.core.issueOn = true ∧ (t.strand 0).state = .runnable
          ∧ (t.strand 0).pc = (r.2.1.getD 2 0).extractLsb' 0 24)
      ∧ (src = 0 → s.mem.mramErr = [] → (s.mramAt 0).toNat / 2 ^ 24 ≠ 0x4824B0 → r.1 = 2))
    ∧ (∀ m : Master, s.pwr.boot = .hostWait rest → exec (.hostGo m) s = .next { s with pwr := { s.pwr with boot := .trying 2 rest } })
    ∧ (s.pwr.boot = .hostWait rest → s.get R.RST_BOOTCFG_HOSTTO ≠ 0 → s.get R.RST_STRAP_BOOT ≠ 2 →
        0 ≤ (s.time.dtime - (s.pwr.stepAt + BitVec.ofNat 48 (s.get R.RST_BOOTCFG_HOSTTO * 240000))).toInt → ∃ t, exec .hostTryTimeout s = .next t
        ∧ next s t ∧ t.get R.RST_BOOTST_FHOST = 9))

/-! ## Clock and network time -/

/-- Reference, lock and delay lines (R61, R62, R64, R69, R71, R82, R83, R86, R731): a valid reference locks the beat's source; its loss
sets REFLOST, ends the lock and the network time and, where that is enabled, puts every gate off; a correction of a delay line keeps, ends
or regains its lock by the drift it finds; SYNC loads device time. -/
def Obligations.ReferenceRules : Prop :=
  ∀ s : State, Memory.wf s = true →
    (s.time.onCrystal = false → s.coreValid = true → exec .referenceValid s =
      .next (({ s with time := { s.time with refValid := true, pllLocked := true } } : State).put R.TIME_STAT_PLL_LOCK 1))
    ∧ (s.pwr.mode = .off ∨ (s.pwr.mode = .rest ∨ s.pwr.mode = .standby) ∧ s.pwr.wake = none → exec .referenceValid s = .next s)
    ∧ (s.pwr.mode = .run → s.time.refValid = true → s.get R.RST_STRAP_ROLE = 0 → ∃ t, exec .referenceLost s = .next t
      ∧ t.time.refValid = false ∧ t.time.pllLocked = false ∧ t.get R.TIME_STAT_REFLOST = 1 ∧ t.get R.TIME_STAT_PLL_LOCK = 0
      ∧ t.get R.TIME_STAT_DT_REF = 1 ∧ t.get R.TIME_STAT_NT_STATE = 0 ∧ t.get R.TIME_RATE_R = 0 ∧ s.memSame t ∧ t.time.dtime = s.time.dtime
      ∧ (s.get R.TIME_CLKCTL_REFLOST_ACT ≠ 0 → ∀ h, (t.hb h).outH = false ∧ (t.hb h).outL = false))
    ∧ (s.time.onCrystal = true → exec .pllLockRegained s =
      .next (({ s with time := { s.time with pllLocked := true } } : State).put R.TIME_STAT_PLL_LOCK 1))
    ∧ (s.time.beatOn = true → ∀ (line : Fin 2) (drift : Fin 3), ∃ t, exec (.dllCorrection line drift) s = .next t
      ∧ (let lock := if line = 0 then R.TIME_STAT_DL0_LOCK else R.TIME_STAT_DL1_LOCK
         (drift = 2 → t.get lock = 0) ∧ (drift = 1 → t.get lock = s.get lock ∧ t.time.dlGood[line] = 0)
         ∧ (drift = 0 → t.get lock = if 15 ≤ s.time.dlGood[line] then 1 else s.get lock)
         ∧ s.regsBut t [RW.TIME_STAT] ∧ t.time = { s.time with dlGood := t.time.dlGood }))
    ∧ (s.get R.TIME_STAT_REF_SRC ≠ 0 → s.time.beatOn = true → ∀ v, exec (.syncEdge v) s =
      .next { s with time := { s.time with dtime := v + BitVec.ofNat 48 (s.get R.TIME_SYNC_SYNCDLY), remark := true } })

/-- Network time (R85, R86, R88 to R92, R94, R96 to R101): a sample whose error is 1 ms or more steps NTIME and the epoch at the end of its
beat, a lesser one is slewed; either way the state is LOCKED. BTO milliseconds without a sample lead to HOLDOVER, and HOLD seconds of that
to FREE, where the rate is 0. A read of NTIME latches its state and epoch for its reader. TPULSE rises at a boundary for a time by the
state, and falls after it. -/
def Obligations.NetworkTime : Prop :=
  ∀ s : State, Memory.wf s = true →
    let nts := s.get R.TIME_STAT_NT_STATE
    (∀ (tm : BitVec 64) (d : Word) (nl : BitVec 64) rest, s.time.beacons = (tm, d, nl) :: rest → s.get R.RST_STRAP_ROLE ≠ 3 →
      ∃ t, exec (.beaconSample none) s = .next t
      ∧ t.get R.TIME_STAT_NT_STATE = 2 ∧ t.time.ageBeacon = 0 ∧ t.time.tmPrev = tm ∧ t.time.dPrev = d ∧ t.time.beacons = rest ∧ t.sent = s.sent
      ∧ t.time.dtime = s.time.dtime ∧ t.time.nt = s.time.nt ∧ t.time.epoch = s.time.epoch ∧ s.regsBut t [RW.TIME_STAT, RW.TIME_RATE]
      ∧ (let e := (tm - nl).toInt
         (65536000 ≤ |e| → t.time.ntStep = some (s.time.ntStep.getD 0 + e * 2 ^ 24) ∧ t.time.slew = 0)
         ∧ (|e| < 65536000 → t.time.ntStep = s.time.ntStep ∧ t.time.slew = e * 2 ^ 24)))
    ∧ (s.time.beacons = [] → exec (.beaconSample none) s = .next s)
    ∧ (s.time.slew = 0 → s.ntBeat.time.nt = s.time.nt + BitVec.ofInt 88
          (4581298449 * (2 ^ 32 + (BitVec.ofNat 24 (s.get R.TIME_RATE_R)).toInt) / 2 ^ 32 + s.time.ntStep.getD 0)
        ∧ s.ntBeat.time.epoch = (if s.time.ntStep = none then s.time.epoch else s.time.epoch + 1))
    ∧ (nts = 2 → (240000 * s.get R.TIME_NTLIM_BTO ≤ s.time.ageBeacon → ∃ t, exec .beaconTimeout s = .next t ∧ t.get R.TIME_STAT_NT_STATE = 1
          ∧ t.get R.TIME_RATE_R = s.get R.TIME_RATE_R ∧ t.time.ageState = 0 ∧ t.time.nt = s.time.nt)
        ∧ (s.time.ageBeacon < 240000 * s.get R.TIME_NTLIM_BTO → exec .beaconTimeout s = .next s))
    ∧ (nts = 1 → (240000000 * s.get R.TIME_NTLIM_HOLD ≤ s.time.ageState → ∃ t, exec .holdoverExpiry s = .next t ∧ t.get R.TIME_STAT_NT_STATE = 0
          ∧ t.get R.TIME_RATE_R = 0 ∧ t.time.ageState = 0 ∧ t.time.nt = s.time.nt)
        ∧ (s.time.ageState < 240000000 * s.get R.TIME_NTLIM_HOLD → exec .holdoverExpiry s = .next s))
    ∧ (∀ m : Master, ∃ t, exec (.ntimeRead m) s = .next t ∧ t.regs = s.regs ∧ (t.ntCopy m).2 = BitVec.ofNat 48 s.uncWord
      ∧ (t.ntCopy m).1 = BitVec.ofNat 48 (s.time.nt.toNat / 2 ^ 24 % 2 ^ 16 + nts * 2 ^ 16 + s.time.epoch.toNat * 2 ^ 18)
      ∧ ∀ m', readerOf m' ≠ readerOf m → t.ntCopy m' = s.ntCopy m')
    ∧ (s.time.tpDue = true → s.pwr.mode = .run →
      (s.time.tpHigh = false → s.get R.TIME_NTCTL_TP_EN ≠ 0 → exec .tpulseBoundary s = .next { s with time := { s.time with
          tpDue := false, tpHigh := true, tpLeft := (match nts with | 2 => 240000 | 1 => 480000 | _ => 720000) } })
      ∧ (s.time.tpHigh = false → s.get R.TIME_NTCTL_TP_EN = 0 → exec .tpulseBoundary s = .next { s with time := { s.time with tpDue := false } })
      ∧ (s.time.tpHigh = true → ∃ t, exec .tpulseBoundary s = .next t ∧ t.time = { s.time with tpDue := false }
          ∧ t.get R.TIME_CNT_TPSKIP = min (s.get R.TIME_CNT_TPSKIP + 1) (2 ^ R.TIME_CNT_TPSKIP.len - 1)))
    ∧ (s.time.tpDue = false → exec .tpulseBoundary s = .next s)
    ∧ (s.time.tpHigh = true → (s.time.tpLeft = 0 → exec .tpulseEnd s = .next { s with time := { s.time with tpHigh := false } })
        ∧ (s.time.tpLeft ≠ 0 → exec .tpulseEnd s = .next s))

/-! ## Power states and the rest vote -/

/-- Requests for a power state (R117, R119, R120, R121, R129, R184): DOZE stops the gate supplies; STANDBY and REST start their entry, in
which nothing issues and a position record is asked for; outputs that are on refuse all three; RUN ends DOZE; a request during an entry is
held. -/
def Obligations.PowerRequests : Prop :=
  ∀ (s : State) (m : Master), Memory.wf s = true → s.get R.DBG_STAT_MH = 0 →
    (s.pwr.entry = none → s.pwr.heldReq = none →
      (s.pwr.mode = .run → (∀ c : Course, s.get (R.PWM_OUT_OUTEN c) = 0) →
        (∃ t, exec (.reqDoze m) s = .next t ∧ t.pwr.mode = .doze ∧ t.pwr.entry = none ∧ t.get R.PWR_STAT_STATE = 1 ∧ s.memSame t ∧ t.core = s.core
          ∧ ∀ d : Dom, t.get (R.GDRV_DOM_STAT_RDY d) = 0)
        ∧ ∀ rest : Bool, ∃ t, exec (if rest then .reqRest m else .reqStandby m) s = .next t ∧ t.pwr.mode = .doze ∧ t.pwr.entry = some .e1
          ∧ t.pwr.toRest = rest ∧ t.get R.PWR_STAT_STATE = 2 ∧ t.core.issueOn = false ∧ t.mem.persists.any Persist.isJournal = true
          ∧ s.memSame t)
      ∧ (s.pwr.mode = .run → (∃ c : Course, s.get (R.PWM_OUT_OUTEN c) ≠ 0) → exec (.reqDoze m) s = .next (s.put R.PWR_STAT_ENTRY 4)
          ∧ exec (.reqStandby m) s = .next (s.put R.PWR_STAT_ENTRY 4) ∧ exec (.reqRest m) s = .next (s.put R.PWR_STAT_ENTRY 4))
      ∧ (s.pwr.mode = .doze → s.inCommit = false → ∃ t, exec (.reqRun m) s = .next t ∧ t.pwr.mode = .run ∧ t.get R.PWR_STAT_STATE = 0 ∧ s.memSame t ∧ t.core = s.core))
    ∧ (s.pwr.entry ≠ none → let held := fun q : BitVec 3 => Host.Outcome.next (ρ := Refusal) (φ := Fault) { s with pwr := { s.pwr with heldReq := some q } }
      exec (.reqRun m) s = held 0 ∧ exec (.reqDoze m) s = held 1 ∧ exec (.reqStandby m) s = held 2 ∧ exec (.reqRest m) s = held 3)

/-- The entry into STANDBY or REST (R78, R111, R121, R122, R124, R125, R139, R539): E1 ends once nothing is in flight, or is abandoned
after its 240,000 beats; E2 lasts 2,400 beats, and at P0 the beat stops with device time held, open capture starts are cleared and no
course runs; 10 periods later STANDBY is reached, which keeps RAM, or REST, which does not; a wake latched in E3 starts the wake sequence;
STANDBY deepens into REST after DEEPEN minutes. Before its time each of these rows does nothing. -/
def Obligations.EntrySteps : Prop :=
  ∀ s : State, Memory.wf s = true →
    (s.pwr.mode = .doze → s.pwr.entry = some .e1 →
      (s.core.ops = [] → s.mem.persists = [] → s.host.op = none → s.dbg.acc = none → ∃ t, exec .entryDrainEnd s = .next t ∧ t.pwr.entry = some .e2
        ∧ t.pwr.stepAt = s.time.dtime + 1 ∧ t.pwr.mode = .doze ∧ s.memSame t ∧ t.time = s.time)
      ∧ (s.core.ops ≠ [] → exec .entryDrainEnd s = .next s)
      ∧ (0 ≤ (s.time.dtime + 1 - (s.pwr.stepAt + 240000)).toInt → s.host.stream = none → ∃ t, exec .drainLimitExpiry s = .next t ∧ t.pwr.entry = none
        ∧ t.pwr.mode = .doze ∧ t.get R.PWR_STAT_STATE = 1 ∧ t.get R.PWR_STAT_ENTRY = 3 ∧ t.core.issueOn = true ∧ s.memSame t)
      ∧ ((s.time.dtime + 1 - (s.pwr.stepAt + 240000)).toInt < 0 → exec .drainLimitExpiry s = .next s))
    ∧ (s.pwr.mode = .doze → s.pwr.entry = some .e2 →
      (0 ≤ (s.time.dtime - (s.pwr.stepAt + 2400)).toInt → ∃ t, exec .pointOfNoReturn s = .next t ∧ t.pwr.entry = some .e3 ∧ t.time.beatOn = false
        ∧ t.time.dtime = s.time.dtime ∧ t.time.dStop = s.time.dtime ∧ t.time.aoCount = 0 ∧ t.get R.TIME_STAT_PLL_LOCK = 0
        ∧ (∀ n, (t.cap n).start = none) ∧ (∀ c : Course, t.get (R.PWM_STAT_RUN c) = 0) ∧ s.memSame t)
      ∧ ((s.time.dtime - (s.pwr.stepAt + 2400)).toInt < 0 → exec .pointOfNoReturn s = .next s))
    ∧ (s.pwr.mode = .doze → s.pwr.entry = some .e3 → s.pwr.pinPend = false → 10 ≤ s.time.aoCount → ∃ t, exec .entryComplete s = .next t
        ∧ t.pwr.entry = none ∧ t.get R.PWR_STAT_ENTRY = 1 ∧ t.mram = s.mram
        ∧ (s.pwr.toRest = false → t.pwr.mode = .standby ∧ t.ram = s.ram ∧ (s.pwr.lpWakes ≠ [] → t.pwr.wake = some .regs ∧ t.get R.PWR_STAT_LATCHED = 1))
        ∧ (s.pwr.toRest = true → t.ram = [] ∧ t.core = {} ∧ (s.pwr.lpWakes = [] → t.pwr.mode = .rest)
          ∧ (s.pwr.lpWakes ≠ [] → t.pwr.mode = .start ∧ t.pwr.kind = 7)))
    ∧ (s.pwr.mode = .standby → s.pwr.wake = none →
      (s.get R.PWR_LPCTL_DEEPEN ≠ 0 → s.get R.PWR_LPCTL_DEEPEN * 14400000000 ≤ aoBeats (s.time.aoCount - 10) s.aoK →
        exec .standbyDeepen s = .next { s with now := { s.now with deepen := true } })
      ∧ (s.now.deepen = true → s.deepen.pwr.mode = .rest ∧ s.deepen.ram = [] ∧ s.deepen.mram = s.mram ∧ s.deepen.core = {}))

/-- Wake sources (R80, R115 to R118, R124, R126, R128, R676, R677, R682, R727): an enabled source is noted in STANDBY with the periods
counted, and the wake sequence starts; in DOZE an enabled pin or timer logs itself, returns the device to RUN and asserts line 49; in REST
it starts up with reset kind 7. The wake from STANDBY (R77 to R81, R126, R128): the regulators, the beat, then the hand-off, which loads
device time with the stop's periods at K, returns the device to RUN and lets strands issue; RAM is kept. -/
def Obligations.WakeRules : Prop :=
  (∀ s : State, Memory.wf s = true →
    let enabled := fun code : Nat => (s.reg RW.PWR_WAKEEN).getLsbD (code - 1) = true
    let lapsed := 0 < s.get R.PWR_WTIMER_PERIOD ∧ s.get R.PWR_WTIMER_PERIOD * 240000 ≤ (s.aoTime - s.pwr.wtAt).toNat
    (s.pwr.mode = .standby → s.pwr.wake = none →
      let noted := fun (p : Power) (code : Nat) => Host.Outcome.next (ρ := Refusal) (φ := Fault) { s with pwr := { p with
        lpWakes := LpWake.insert { code := code, n := s.time.aoCount, latched := false, from' := 6 } p.lpWakes, wake := some .regs } }
      (∀ k : Fin 4, enabled (k.val + 1) → exec (.wakePinEdge k) s = noted s.pwr (k.val + 1))
      ∧ (enabled 10 → s.pwr.wtimer = true → lapsed → exec .wakeTimerExpiry s = noted { s.pwr with wtimer := false } 10)
      ∧ (enabled 11 → exec .peerActivityWake s = noted s.pwr 11) ∧ (enabled 8 → exec .linBusWake s = noted s.pwr 8)
      ∧ (enabled 6 → s.get R.PWR_LPCTL_CAN_PN = 0 → exec .canWakeupPattern s = noted s.pwr 6)
      ∧ (enabled 7 → s.get R.PWR_LPCTL_CAN_PN ≠ 0 → ∀ f : CanFrame, f.fdf = false → s.pnAccepts f = true → s.net.pnErr = 0 →
          exec (.canSelectiveWakeFrame (some f)) s = noted s.pwr 7)
      ∧ (s.get R.PWR_LPCTL_CAN_PN ≠ 0 → s.net.pnErr < 31 → exec (.canSelectiveWakeFrame none) s =
          .next { s with net := { s.net with pnErr := s.net.pnErr + 1 } }))
    ∧ (s.pwr.mode = .doze → s.pwr.entry = none → s.phaseRv = 0 → s.pwr.heldReq = none → s.pwr.rvTx ≠ 1 →
      let woken := fun (c : Instr) (code : Nat) => ∃ t, exec c s = .next t ∧ t.pwr.mode = .run ∧ t.get R.PWR_STAT_STATE = 0 ∧ s.raises t 49
        ∧ t.get R.PWR_STAT_WSRC = code ∧ t.get R.PWR_WLHDR_COUNT = (s.get R.PWR_WLHDR_COUNT + 1) % 2 ^ R.PWR_WLHDR_COUNT.len
        ∧ t.reg (RW.PWR_WLE0 (s.get R.PWR_WLHDR_COUNT % 7)) = s.time.dtime ∧ s.memSame t
      (∀ k : Fin 4, enabled (k.val + 1) → woken (.wakePinEdge k) (k.val + 1))
      ∧ (enabled 10 → s.pwr.wtimer = true → lapsed → woken .wakeTimerExpiry 10))
    ∧ (s.pwr.mode = .rest → ∀ k : Fin 4, enabled (k.val + 1) → ∃ t, exec (.wakePinEdge k) s = .next t ∧ t.pwr.mode = .start ∧ t.pwr.boot = .regs
      ∧ t.pwr.kind = 7 ∧ t.get R.RST_STAT_KIND = 7 ∧ s.memSame t)
    ∧ (¬ lapsed → exec .wakeTimerExpiry s = .next s)
    ∧ (∀ (c : Instr) (code : Nat), (c, code) ∈ [(.peerActivityWake, 11), (.linBusWake, 8), (.canWakeupPattern, 6)] → ¬ enabled code → exec c s = .next s))
  ∧ (∀ s : State, Memory.wf s = true → s.pwr.mode = .standby → s.core.esc = none →
    (s.pwr.wake = some .regs → ∀ a b c, ∃ t, exec (.regulatorsValid a b c) s = .next t ∧ t.pwr = { s.pwr with wake := some .beat }
      ∧ t.get R.PWR_STAT_VREG5_OK = 1 ∧ t.get R.PWR_STAT_VIO_OK = 1 ∧ t.get R.PWR_STAT_VCORE_OK = 1 ∧ s.regsBut t [RW.PWR_STAT])
    ∧ (s.pwr.wake = some .beat → s.time.refValid = true → s.pwr.kind = 0 → exec .beatRelease s = .next (({ s with
        time := { s.time with beatOn := true, pllLocked := true, handoff := true }
        pwr := { s.pwr with wake := some .handoff } } : State).put R.TIME_STAT_PLL_LOCK 1))
    ∧ (s.pwr.wake = some .handoff → s.time.handoff = true → s.pwr.pinPend = false → s.pwr.heldReq = none → s.host.stream = none →
      s.get R.PWR_STAT_VBATUV = 0 → ∀ (k : Nat) (qr qb : Word), ∃ t, exec (.dtimeHandoff k qr qb) s = .next t
      ∧ t.pwr.mode = .run ∧ t.pwr.wake = none ∧ t.get R.PWR_STAT_LAST = 2 ∧ t.get R.PWR_STAT_STATE = 0 ∧ t.core.issueOn = true
      ∧ t.core.wdBeats = 0 ∧ t.time.handoff = false ∧ t.time.aoCount = 0 ∧ t.get R.TIME_STAT_DT_LP = 1 ∧ s.memSame t
      ∧ t.time.dtime = s.time.dStop + BitVec.ofNat 48 (((s.time.aoCount + k) * s.aoK + 128) / 256)))

/-- The coordinator of a rest vote (R714, R715, R717, R719, R720): QUERY opens a vote with its REST_QUERY, READY from every node sends
REST_COMMIT, whose SOF stamp begins the commit interval once that frame has ended SENT; BUSY, and a node that is silent for TANS
milliseconds, cancel it. A node in a rest vote (R714, R715, R717, R718, R720 to R724): it answers READY or BUSY, enters the commit interval
at COMMIT, then HOLD and its entry, and leaves the vote by a cancel, a timeout, an abort or a wake frame. -/
def Obligations.RestVote : Prop :=
  (∀ s : State, Memory.wf s = true → s.get R.PWR_RVCFG_EN ≠ 0 → s.pwr.mode = .run → s.get R.RST_STRAP_ROLE = 0 → s.canHears = true →
    s.pwr.rvDecided = false →
    let nodes := s.get R.PWR_RVCOORD_NODES
    let ready := s.get R.PWR_RVRES_READY
    let vote := s.get R.PWR_RVSTAT_VN
    let sends := fun (t : State) (bytes : List (BitVec 8)) =>
      t.net = (s.engSend { kind := .control, desc := rcpDesc false (s.rcpId 4 0xF) bytes }).net
    (s.get R.RST_STRAP_NODE = 0xC → s.phaseRv = 0 → ∀ (m : Master) (tgt : Bool),
      (s.notReady ≠ 0 → exec (.queryRest m tgt) s = .next (s.put R.PWR_RVSTAT_OUTCOME 8))
      ∧ (s.notReady = 0 → nodes &&& 0x1000 ≠ nodes → ∃ t, exec (.queryRest m tgt) s = .next t ∧ t.phaseRv = 1
        ∧ t.get R.PWR_RVSTAT_VN = (vote + 1) % 256 ∧ t.get R.PWR_RVSTAT_TGT = tgt.toNat ∧ t.get R.PWR_RVRES_READY = 0x1000
        ∧ t.get R.PWR_RVRES_BUSY = 0 ∧ t.get R.PWR_RVRES_MISS = 0 ∧ t.pwr = { s.pwr with rvAt := none }
        ∧ sends t [1, BitVec.ofNat 8 (vote + 1), BitVec.ofNat 8 tgt.toNat]))
    ∧ (s.phaseRv = 1 → ∀ (src : BitVec 4) (vn : BitVec 8), vote = vn.toNat →
      (nodes.testBit src.toNat = true → let all := ready ||| 1 <<< src.toNat
        (nodes &&& all ≠ nodes → exec (.readyMsg src vn) s = .next (s.put R.PWR_RVRES_READY all))
        ∧ (nodes &&& all = nodes → ∃ t, exec (.readyMsg src vn) s = .next t ∧ t.pwr = { s.pwr with rvDecided := true } ∧ t.phaseRv = 1
          ∧ s.raises t 49 ∧ sends t [4, vn, BitVec.ofNat 8 (s.get R.PWR_RVSTAT_TGT), BitVec.ofNat 8 (s.get R.PWR_RVCOORD_CI / 256),
            BitVec.ofNat 8 (s.get R.PWR_RVCOORD_CI)]))
      ∧ (∃ t, exec (.busyMsg src vn) s = .next t ∧ t.phaseRv = 0 ∧ t.get R.PWR_RVSTAT_OUTCOME = 2 ∧ s.raises t 49 ∧ sends t [5, vn]
        ∧ (nodes.testBit src.toNat = true → (t.get R.PWR_RVRES_BUSY).testBit src.toNat = true)))
    ∧ (s.phaseRv = 1 → ∀ d : Word, s.pwr.rvAt = some d →
      (0 ≤ (s.time.dtime - (d + BitVec.ofNat 48 (s.get R.PWR_RVCOORD_TANS * 240000))).toInt → ∃ t, exec .answerTimeout s = .next t ∧ t.phaseRv = 0
        ∧ t.get R.PWR_RVSTAT_OUTCOME = 2 ∧ s.raises t 49
        ∧ ∀ n < 13, (t.get R.PWR_RVRES_MISS).testBit n = (nodes.testBit n && !(ready.testBit n || (s.get R.PWR_RVRES_BUSY).testBit n)))
      ∧ ((s.time.dtime - (d + BitVec.ofNat 48 (s.get R.PWR_RVCOORD_TANS * 240000))).toInt < 0 → exec .answerTimeout s = .next s))
    ∧ (s.phaseRv = 1 → (∀ c : Course, s.get (R.PWM_OUT_OUTEN c) = 0) → ∀ (x : CanTx) (sof : Word), x.isCommit = true → x.sof = some sof →
        let u := s.commitSent x
        u = s ∧ (let v := ({ s with pwr := { s.pwr with rvDecided := true } } : State).commitSent x
          v.phaseRv = 3 ∧ v.pwr.mode = .doze ∧ v.reg RW.PWR_RVEND = sof + BitVec.ofNat 48 ((descByte x.desc 3 * 256 + descByte x.desc 4) * 240000))))
  ∧ (∀ (s : State) (src : BitVec 4) (vn : BitVec 8), Memory.wf s = true → s.get R.PWR_RVCFG_EN ≠ 0 → s.get R.RST_STRAP_ROLE = 0 → s.pwr.entry = none → s.pwr.heldReq = none →
    s.canHears = true →
    let mine := s.get R.PWR_RVSTAT_VN = vn.toNat
    let quiet := ∀ c : Course, s.get (R.PWM_OUT_OUTEN c) = 0
    let sends := fun (t : State) (bytes : List (BitVec 8)) =>
      t.net = (s.engSend { kind := .control, desc := rcpDesc false (s.rcpId 4 0xC) bytes }).net
    (s.pwr.mode = .run →
      (s.phaseRv = 0 → ∀ tgt : Bool, ∃ t, exec (.restQuery src vn tgt) s = .next t ∧ s.memSame t
        ∧ (s.notReady = 0 → t.phaseRv = 2 ∧ t.get R.PWR_RVSTAT_VN = vn.toNat ∧ t.get R.PWR_RVSTAT_TGT = tgt.toNat ∧ t.pwr.rvAt = some s.time.dtime
            ∧ sends t [2, vn])
        ∧ (s.notReady ≠ 0 → t.phaseRv = 0 ∧ sends t [3, vn, BitVec.ofNat 8 s.notReady]))
      ∧ (s.phaseRv = 2 → (mine → exec (.restCancel src vn) s = .next (s.put R.PWR_RVSTAT_PHASE 0)
          ∧ (∀ cause, ∃ t, exec (.wakeAbort src vn cause) s = .next t ∧ t.phaseRv = 0 ∧ t.get R.PWR_RVSTAT_OUTCOME = 4
              ∧ t.get R.PWR_RVSTAT_ABORTS = min (s.get R.PWR_RVSTAT_ABORTS + 1) (2 ^ 16 - 1))
          ∧ (quiet → ∀ (tgt : Bool) (ci : BitVec 16) (sof : Word), ∃ t, exec (.restCommit src vn tgt ci sof) s = .next t ∧ t.phaseRv = 3
              ∧ t.pwr.mode = .doze ∧ t.get R.PWR_RVSTAT_TGT = tgt.toNat ∧ t.reg RW.PWR_RVEND = sof + BitVec.ofNat 48 (ci.toNat * 240000)))
        ∧ (∀ d, s.pwr.rvAt = some d → 0 ≤ (s.time.dtime - (d + BitVec.ofNat 48 (s.get R.PWR_RVCFG_TVOTE * 240000))).toInt →
            exec .voteTimeout s = .next ((s.put R.PWR_RVSTAT_PHASE 0).put R.PWR_RVSTAT_OUTCOME 5))))
    ∧ (s.pwr.mode = .doze →
      (s.phaseRv = 3 → (0 ≤ (s.time.dtime - s.reg RW.PWR_RVEND).toInt → exec .commitIntervalEnd s = .next (s.put R.PWR_RVSTAT_PHASE 4))
        ∧ ((s.time.dtime - s.reg RW.PWR_RVEND).toInt < 0 → exec .commitIntervalEnd s = .next s)
        ∧ ∀ m : Master, ∃ t, exec (.abortRest m) s = .next t ∧ t.phaseRv = 0 ∧ t.pwr.mode = .run ∧ t.get R.PWR_RVSTAT_OUTCOME = 3)
      ∧ (s.phaseRv = 4 →
        (0 ≤ (s.time.dtime - (s.reg RW.PWR_RVEND + BitVec.ofNat 48 (s.get R.PWR_RVCFG_THOLD * 240000))).toInt →
          (s.notReady = 0 → ∃ t, exec .holdEnd s = .next t ∧ t.phaseRv = 5 ∧ t.pwr.entry = some .e1
            ∧ (t.pwr.toRest = true ↔ s.get R.PWR_RVSTAT_TGT = 1) ∧ t.core.issueOn = false)
          ∧ (s.notReady ≠ 0 → ∃ t, exec .holdEnd s = .next t ∧ t.phaseRv = 0 ∧ t.pwr.mode = .run ∧ t.get R.PWR_RVSTAT_OUTCOME = 6))
        ∧ (s.time.dtime ≠ s.reg RW.PWR_RVEND → s.pwr.rvTx ≠ 1 → ∀ code, ∃ t, exec (.wakeFrame src code) s = .next t ∧ t.phaseRv = 0
            ∧ t.pwr.mode = .run ∧ t.get R.PWR_RVSTAT_OUTCOME = 7 ∧ s.raises t 49)))
    ∧ (s.pwr.mode = .run → s.pwr.rvTx = 2 → s.canMode = 2 → s.net.can[(7 : Fin 8)] = none → 0 ≤ (s.time.dtime - s.tLate).toInt →
        ∃ t d, exec .lateWakeRepeat s = .next t
        ∧ t.pwr.rvTx = 3 ∧ t.net.can[(7 : Fin 8)] = some { desc := d, wake := true, wupf := s.on R.CAN_WAKETX_WUPF }))

/-! ## Memories and persists -/

/-- Errors of the memories (R164, R165, R167, R177 to R179): the scrubber reads the next word; one bit in error counts as corrected and
asks for a write-back, an uncorrectable word counts, shows its address if none is shown, and asserts line 50. A write-back clears the error
of its word, CLRCNT the counts. -/
def Obligations.MemoryErrors : Prop :=
  ∀ s : State, Memory.wf s = true →
    (∀ a : BitVec 24, a.toNat ∈ s.mem.ramWb → ∃ t, exec (.ramWriteback a) s = .next t ∧ s.memSame t ∧ t.regs = s.regs ∧ t.core = s.core
      ∧ a.toNat ∉ t.mem.ramWb ∧ spGet (fun _ => 0) t.mem.ramErr a.toNat = 0 ∧ (∀ b ≠ a.toNat, spGet (fun _ => 0) t.mem.ramErr b = spGet (fun _ => 0) s.mem.ramErr b))
    ∧ (∀ a : BitVec 24, a.toNat ∈ s.mem.mramWb → s.get R.RST_STRAP_ROLE = 0 → ∃ t, exec (.mramWriteback a) s = .next t ∧ s.memSame t ∧ t.regs = s.regs
      ∧ t.core = s.core ∧ a.toNat ∉ t.mem.mramWb ∧ spGet (fun _ => 0) t.mem.mramErr a.toNat = 0
      ∧ (∀ b ≠ a.toNat, spGet (fun _ => 0) t.mem.mramErr b = spGet (fun _ => 0) s.mem.mramErr b))
    ∧ (s.pwr.mode = .run → s.get R.MEM_SCRUB_RAMEN ≠ 0 → ∀ bits : BitVec 3, ∃ t, exec (.ramScrub bits) s = .next t ∧ s.memSame t
      ∧ t.mem.ramScrub = (if s.mem.ramScrub + 1 < 0x200000 then s.mem.ramScrub + 1 else 0x100000)
      ∧ (let n := spGet (fun _ => 0) s.mem.ramErr s.mem.ramScrub + bits.toNat
         (n = 0 → t.regs = s.regs)
         ∧ (n = 1 → t.get R.MEM_ERRCNT_RAMCE = min (s.get R.MEM_ERRCNT_RAMCE + 1) (2 ^ R.MEM_ERRCNT_RAMCE.len - 1) ∧ s.mem.ramScrub ∈ t.mem.ramWb)
         ∧ (n = 2 → t.get R.MEM_ERRCNT_RAMUE = min (s.get R.MEM_ERRCNT_RAMUE + 1) (2 ^ R.MEM_ERRCNT_RAMUE.len - 1) ∧ s.raises t 50
            ∧ t.get R.MEM_ERRADDR_VALID = 1 ∧ (s.get R.MEM_ERRADDR_VALID = 0 → s.mem.ramScrub < 2 ^ 24 → t.get R.MEM_ERRADDR_ADDR = s.mem.ramScrub))))
    ∧ (s.pwr.mode = .run → s.get R.MEM_SCRUB_MRAMEN ≠ 0 → ∀ bits : BitVec 3, ∃ t, exec (.mramScrub bits) s = .next t ∧ s.memSame t
      ∧ t.mem.mramScrub = (if s.mem.mramScrub + 1 < 0x80000 then s.mem.mramScrub + 1 else 0)
      ∧ (let n := if s.slotAt s.mem.mramScrub = none then spGet (fun _ => 0) s.mem.mramErr s.mem.mramScrub + bits.toNat else 0
         (n = 0 → t.regs = s.regs)
         ∧ ((n = 1 ∨ n = 2) → t.get R.MEM_ERRCNT_MRAMCE = min (s.get R.MEM_ERRCNT_MRAMCE + 1) (2 ^ R.MEM_ERRCNT_MRAMCE.len - 1)
            ∧ (s.get R.MEM_SCRUB_MWTH ≤ n → s.mem.mramScrub ∈ t.mem.mramWb))
         ∧ (n = 3 → t.get R.MEM_ERRCNT_MRAMUE = min (s.get R.MEM_ERRCNT_MRAMUE + 1) (2 ^ R.MEM_ERRCNT_MRAMUE.len - 1) ∧ s.raises t 50)))
    ∧ (∀ m : Master, exec (.clrcnt m) s = .next (s.setReg RW.MEM_ERRCNT 0))

/-- The persist engine (R170 to R173, R289, R298 to R301): a persist of a strand begins phase 1 with the words of its source, or ends
MEMERR at a word that reads uncorrectable; its commit lists a slot whose words loads see at once and completes its operation OK; phase 2
writes the array. -/
def Obligations.PersistEngine : Prop :=
  ∀ s : State, Memory.wf s = true → s.pwr.mode = .run → s.pwr.entry = none → s.core.esc = none →
    (∀ (p : Persist) (l : List Persist) (id : Nat) (a : BitVec 24), s.mem.persists = p :: l → p.owner = .op id → p.src = some a → p.staging = false →
      (∀ q ∈ l, q.staging = false) → s.mem.slots.length < 512 →
      ((∀ k < p.data.length, spGet (fun _ => 0) s.mem.ramErr (a.toNat + k) = 0) → ∃ t, exec .persistPhase1Start s = .next t
        ∧ t.mem = { s.mem with persists := { p with staging := true } :: l } ∧ s.memSame t ∧ t.regs = s.regs
        ∧ t.core = { s.core with ops := s.core.ops.map (fun q => if q.id = id then { q with stage := .begun } else q) })
      ∧ (∀ k < p.data.length, (∀ j < k, spGet (fun _ => 0) s.mem.ramErr (a.toNat + j) = 0) → spGet (fun _ => 0) s.mem.ramErr (a.toNat + k) = 2 →
        ∃ t, exec .persistPhase1Start s = .next t ∧ t.mem = { s.mem with persists := l } ∧ s.memSame t ∧ s.raises t 50
        ∧ t.core = { s.core with ops := s.core.ops.map (fun q => if q.id = id then { q with stage := .ended 0 6 (BitVec.ofNat 8 k) } else q) }))
    ∧ (∀ (p : Persist) (l : List Persist) (id : Nat), s.mem.persists = p :: l → p.owner = .op id → p.staging = true → (∀ q ∈ l, q.staging = false) →
      ∃ t, exec .persistCommit s = .next t ∧ t.ram = s.ram ∧ t.mem.persists = l
        ∧ t.mem.slots = s.mem.slots ++ [{ seq := s.mem.stagedSeq + 1, target := p.target, data := p.data }]
        ∧ t.core.ops = s.core.ops.filter (fun q => q.id != id)
        ∧ (∀ (o : Op) rd dst src n, s.core.ops.find? (fun q => q.id == id) = some o → o.body = .persist rd dst src n →
            t.strand o.str = { (s.strand o.str).wr rd (BitVec.ofNat 48 (s.time.dtime.toNat % 2 ^ 32 * 2 ^ 16)) with opEnd := some s.time.dtime })
        ∧ (∀ k (h : k < p.data.length), t.mramAt (p.target.toNat + k) = p.data[k]))
    ∧ (∀ (z : Slot) (l : List Slot), s.mem.slots = z :: l → (∀ q ∈ s.mem.persists, q.staging = false) → ∃ t, exec .persistRetire s = .next t
        ∧ t.mem.slots = l ∧ t.ram = s.ram ∧ t.regs = s.regs
        ∧ (∀ k (h : k < z.data.length), z.target.toNat + k ≠ slotAddr z.seq → t.mramRaw (z.target.toNat + k) = z.data[k])
        ∧ (∀ a, (a < z.target.toNat ∨ z.target.toNat + z.data.length ≤ a) → a ≠ slotAddr z.seq → t.mramRaw a = s.mramRaw a))
    ∧ (∀ (p : Persist), p ∈ s.mem.persists → p.staging = true → exec .persistRetire s = .next s)

/-- The position journal and the write-once region (R183, R184, R187, R188): a request and a period in which a position has changed ask for
a record of the eight positions; an operation of MEM_WOCTL is persisted, or refused with result 2, or 3 while one runs, and clears its
operands; its commit makes it so. -/
def Obligations.JournalAndWriteOnce : Prop :=
  ∀ s : State, Memory.wf s = true →
    let asks := fun (c : Instr) (r : BitVec 8) => ∃ t p, exec c s = .next t ∧ t.mem.persists = s.mem.persists ++ [p] ∧ p.owner = .journal r
      ∧ p.data.length = 16 ∧ (∀ k : Course, p.data.getD (1 + k.val) 0 = s.reg (RW.POS_CNT k)) ∧ t.mem.jLast = s.positions ∧ s.memSame t
      ∧ t.regs = s.icSeen.regs
    (s.mem.persists.any Persist.isJournal = false → (∀ m, asks (.journalRequest m) 2)
      ∧ (s.pwr.mode = .run → s.get R.MEM_JCTL_PER ≠ 0 → s.get R.MEM_JCTL_PER * 240000 ≤ (s.time.dtime - s.mem.jAt).toNat → s.positions ≠ s.mem.jLast →
          asks .journalPeriod 1)
      ∧ ((s.time.dtime - s.mem.jAt).toNat < s.get R.MEM_JCTL_PER * 240000 → exec .journalPeriod s = .next s))
    ∧ (∀ m : Master, (s.mem.persists.any (fun p => match p.owner with | .writeOnce _ => true | _ => false) = true →
        ∀ c ∈ [Instr.programBootKey m, Instr.programUnlockCode m, Instr.setLockWord m], ∃ t, exec c s = .next t ∧ t.get R.MEM_WOCTL_RESULT = 3
          ∧ t.mem = { s.mem with woData := Vector.replicate 3 0 } ∧ s.memSame t)
      ∧ (s.mem.persists.any (fun p => match p.owner with | .writeOnce _ => true | _ => false) = false →
        let judged := fun (c : Instr) (op : BitVec 2) (refused : Prop) => ∃ t, exec c s = .next t ∧ t.mem.woData = Vector.replicate 3 0 ∧ s.memSame t
          ∧ (refused → t.get R.MEM_WOCTL_RESULT = 2 ∧ t.mem.persists = s.mem.persists)
          ∧ (¬ refused → t.get R.MEM_WOCTL_RESULT = 0 ∧ t.mem.woTaken = s.mem.woData.toList ∧ ∃ p, t.mem.persists = s.mem.persists ++ [p] ∧ p.owner = .writeOnce op)
        judged (.programBootKey m) 1 (s.get R.RST_KEYST_KEYSET ≠ 0) ∧ judged (.programUnlockCode m) 2 (s.mem.unlockCode ≠ none)
          ∧ judged (.setLockWord m) 3 (s.mem.lockWord = true ∨ s.mem.unlockCode = none)))
    ∧ (∀ (p : Persist) (l : List Persist) (op : BitVec 2), s.pwr.mode = .run → s.pwr.entry = none → s.mem.persists = p :: l → p.owner = .writeOnce op →
      p.staging = true → ∃ t, exec .persistCommit s = .next t ∧ t.get R.MEM_WOCTL_RESULT = 1
        ∧ (op = 1 → t.get R.RST_KEYST_KEYSET = 1 ∧ t.mem.bootKey ≠ none) ∧ (op = 2 → t.mem.unlockCode ≠ none)
        ∧ (op = 3 → t.get R.RST_KEYST_LOCKED = 1 ∧ t.mem.lockWord = true))

/-! ## Registers, pins and the host port -/

/-- A master's write of a plain register word acts field by field by the access codes (R16, R20, R258); a peripheral transaction of a
strand is served with the register's word, or writes it (R224, R303); a W1C bit that the hardware sets in the beat of the write stays set
(R17); a GPIO input follows its pin (R807). Nothing else changes. -/
def Obligations.RegisterAccess : Prop :=
  ∀ s : State, Memory.wf s = true → s.pwr.mode = .run → s.pwr.boot = .user → s.get R.RST_STRAP_ROLE = 0 →
    (∀ (m : Master) (a : BitVec 24) (r : RegRow) (v : Word), regRow a.toNat = some r → a.toNat / 0x1000 = 0x400 ∨ a.toNat / 0x1000 = 0x412 →
      a.toNat ≠ RW.SYS_CONFLICT →
      let v' := v &&& ~~~ spGet (fun _ => 0) s.now.w1c a.toNat
      ((m = .host ∨ (m = .debug ∧ s.get R.RST_KEYST_OPEN = 1) ∨ (∃ p, m = .remote p)
          ∨ (∃ i, m = .strand i ∧ accessFault (isSup i) .store a.toNat = none)) →
        ∃ t, exec (.registerWrite m a v) s = .next t ∧ s.regsBut t [a.toNat] ∧ s.memSame t ∧ t.core = s.core ∧ t.time = s.time
        ∧ ∀ f ∈ r.fields, let old := getBits (s.reg a.toNat) f.lo f.len
          let x := getBits v' f.lo f.len
          getBits (t.reg a.toNat) f.lo f.len = (match f.acc with
            | .ro => old | .wo => old | .w1c => old &&& ((2 ^ f.len - 1) ^^^ x) | _ => if f.legal.ok x then x else old))
      ∧ (∀ (o : Op), s.core.ops = [o] → o.stage = .waiting → o.body = .store a v → s.core.esc = none → s.host.op = none → s.dbg.acc = none →
        ∃ t, exec .peripheralService s = .next t ∧ s.regsBut t [a.toNat] ∧ s.memSame t ∧ t.reg a.toNat = writeFields r.fields (s.reg a.toNat) v'
          ∧ t.core = { s.core with ops := [{ o with stage := .ended 0 0 0 }] }))
    ∧ (∀ (m : Master) (a : BitVec 24) (v : Word), (s.mayWrite m a.toNat = false → exec (.registerWrite m a v) s = .next s)
      ∧ (s.mayWrite m a.toNat = true → exec (.registerWrite m a v) s = .next (s.writeReg m a.toNat v)))
    ∧ (∀ (o : Op) (rt : BitVec 5), s.core.ops = [o] → o.stage = .waiting → o.body = .load rt 0x401002 → s.core.esc = none → s.host.op = none →
      s.dbg.acc = none → exec .peripheralService s = .next { s with core := { s.core with ops := [{ o with stage := .ended s.time.dtime 0 0 }] } })
    ∧ (∀ (n : Fin 48) (level : Bool), exec (.gpioInputChange n level) s = .next { s with
        gpioIn := if level then s.gpioIn ||| BitVec.twoPow 48 n.val else s.gpioIn &&& ~~~ BitVec.twoPow 48 n.val })

/-- Frames of the host port (R622, R624 to R628, R630 to R633): the byte that HOST_SELECT sends; NOP ends OK; RD, RDM, WR and WRT enter the
order of transactions with RES 1; a token out of place, too few bytes and a repeated token end with RES 3, 3 and 4; a frame while one is
pending only counts in POLLS; a stream writes each whole word to RAM, and its release ends it with the count of its words. -/
def Obligations.HostPort : Prop :=
  ∀ s : State, Memory.wf s = true → s.pwr.mode = .run → s.pwr.boot = .user → s.get R.RST_STRAP_ROLE = 0 → s.pwr.entry = none →
    s.host.stream = none → s.get R.HSP_CTL_EVEN = 0 →
    let counted := fun (t : State) (op : Nat) => t.get R.HSP_STAT_FCNT = (s.get R.HSP_STAT_FCNT + 1) % 2 ^ R.HSP_STAT_FCNT.len
      ∧ t.get R.HSP_STAT_LASTOP = op ∧ t.host.sel = none ∧ s.memSame t ∧ t.time = s.time
    let entered := fun (c : Instr) (op : Nat) (o : HostOp) => ∃ t, exec c s = .next t ∧ counted t op ∧ t.host.op = some o ∧ t.host.reply = []
      ∧ t.host.ord = s.core.nextOp ∧ t.core = { s.core with nextOp := s.core.nextOp + 1 } ∧ t.get R.HSP_STAT_RES = 1 ∧ s.regsBut t [RW.HSP_STAT]
    let ended := fun (c : Instr) (op res : Nat) => ∃ t, exec c s = .next t ∧ counted t op ∧ t.host.op = none ∧ t.host.reply = [] ∧ t.core = s.core
      ∧ t.get R.HSP_STAT_RES = res ∧ s.regsBut t (if res = 4 then [RW.HSP_STAT, RW.HSP_TOKEN] else [RW.HSP_STAT])
    (s.host.op = none → let u := s.wake 9
      exec .hostSelect s = .next { u with
        host := { s.host with sel := some true }
        sent := ⟨.host, .hostData, BitVec.ofNat 48 ((u.faultLow || s.on R.HSP_CTL_ATTN).toNat * 128 + s.get R.HSP_STAT_RES * 16 + s.get R.HSP_STAT_FCNT)
          :: s.host.reply.map (fun b => b.zeroExtend 48)⟩ :: s.sent })
    ∧ (s.host.op ≠ none → (s.reg RW.PWR_WAKEEN).getLsbD 8 = false → exec .hostSelect s = .next { s with
        host := { s.host with sel := some false }
        sent := ⟨.host, .hostData, [BitVec.ofNat 48 ((s.faultLow || s.on R.HSP_CTL_ATTN).toNat * 128 + s.get R.HSP_STAT_RES * 16
          + s.get R.HSP_STAT_FCNT)]⟩ :: s.sent })
    ∧ (s.host.op = none → s.host.sel ≠ some false → ∀ bs : List (BitVec 8),
      let addr := BitVec.ofNat 24 (bytesNat 3 bs)
      let data := BitVec.ofNat 48 (bytesNat 6 (bs.drop 3))
      ended (.hostNop 0 bs) 0 0 ∧ (∀ tok, tok ≠ 0 → ended (.hostNop tok bs) 0 3 ∧ ended (.hostRd tok bs) 1 3)
      ∧ (3 ≤ bs.length → entered (.hostRd 0 bs) 1 (.rd addr)) ∧ (bs.length < 3 → ended (.hostRd 0 bs) 1 3)
      ∧ (9 ≤ bs.length → entered (.hostWr 0 bs) 2 (.wr addr data none)
        ∧ ∀ tok : BitVec 4, (s.get R.HSP_TOKEN_VALID = 0 ∨ s.get R.HSP_TOKEN_TOK ≠ tok.toNat → entered (.hostWrt tok bs) 3 (.wr addr data (some tok)))
          ∧ (s.get R.HSP_TOKEN_VALID = 1 → s.get R.HSP_TOKEN_TOK = tok.toNat → ended (.hostWrt tok bs) 3 4))
      ∧ (4 ≤ bs.length → (bs.getD 3 0).toNat < 16 → entered (.hostRdm 0 bs) 4 (.rdm addr ((bs.getD 3 0).toNat + 1)))
      ∧ (4 ≤ bs.length → 16 ≤ (bs.getD 3 0).toNat → ended (.hostRdm 0 bs) 4 3))
    ∧ (s.host.op ≠ none → s.host.sel = none → ∀ bs : List (BitVec 8), ∃ t, exec (.hostRd 0 bs) s = .next t
        ∧ t.get R.HSP_STAT_POLLS = min (s.get R.HSP_STAT_POLLS + 1) (2 ^ R.HSP_STAT_POLLS.len - 1) ∧ t.host = s.host ∧ t.core = s.core
        ∧ s.regsBut t [RW.HSP_STAT] ∧ s.memSame t)
    ∧ (s.host.op = none → s.host.sel ≠ some false → ∀ (bs : List (BitVec 8)), bs.length = 9 → let a := bytesNat 3 bs
      region a = .ram → s.fenceBars a = false → ∃ t, exec (.hostStw 0 bs none) s = .next t ∧ t.host.stream = some { words := 1 }
        ∧ t.ramAt a = BitVec.ofNat 48 (bytesNat 6 (bs.drop 3)) ∧ (∀ b, b ≠ a → t.ramAt b = s.ramAt b) ∧ t.mram = s.mram
        ∧ t.get R.HSP_STW_NEXT = a + 1 ∧ s.regsBut t [RW.HSP_STW] ∧ t.core = s.core)
    ∧ (∀ (n : Nat) (v : Word), let u : State := { s with host := { s.host with stream := some { words := n } } }
      let a := s.get R.HSP_STW_NEXT
      (region a = .ram → s.fenceBars a = false → ∃ t, exec (.hostStreamWord v none) u = .next t ∧ t.host.stream = some { words := n + 1 }
        ∧ t.ramAt a = v ∧ (∀ b, b ≠ a → t.ramAt b = s.ramAt b) ∧ t.get R.HSP_STW_NEXT = (a + 1) % 2 ^ 24 ∧ t.core = s.core ∧ s.regsBut t [RW.HSP_STW])
      ∧ (region a ≠ .ram → exec (.hostStreamWord v none) u = .next { s with host := { s.host with stream := some { words := n, res := some 2 } } })
      ∧ (region a ≠ .ram → n < 2 ^ 24 → ∃ t, exec (.hostStreamWord v (some 0)) u = .next t ∧ t.host.stream = none ∧ counted t 5 ∧ t.get R.HSP_STAT_RES = 2
        ∧ t.host.reply = [BitVec.ofNat 8 (n / 65536), BitVec.ofNat 8 (n / 256), BitVec.ofNat 8 n, 0]))

/-! ## Debug and test -/

/-- Halts, register access and trace from the debug port while debug access is open (R787, R789, R790, R792, R793, R795); no other master,
and no port while access is closed, does any of it. The test access port (R155, R782 to R785, R788): in every state but OFF each
instruction loads; EXTEST, CLAMP and HIGHZ hold or open the pins with a machine halt of cause 4; while access is closed these and
SAMPLE_PRELOAD act as BYPASS; UNLOCK opens access by the right code until three have failed. -/
def Obligations.DebugAndTestPort : Prop :=
  (∀ s : State, Memory.wf s = true →
    let load := ({ s with dbg := { s.dbg with ir := 0b10000, pinsHeld := false, pinsOff := false, gatesOff := false } } : State).refreshAll
    (s.get R.RST_KEYST_OPEN = 1 →
      exec (.mhalt .debug) s = .next (if s.get R.DBG_STAT_MH ≠ 0 ∨ s.bpNow = true then s.put R.DBG_STAT_MH 1
        else (s.put R.DBG_STAT_MH 1).put R.DBG_STAT_CAUSE 1)
      ∧ (s.stage.begin = 0 → exec (.dbgResume .debug) s = .next (s.put R.DBG_STAT_MH 0).refreshAll)
      ∧ (∃ t, exec (.dbgResume .debug) s = .next t ∧ t.get R.DBG_STAT_MH = 0 ∧ t.stage.begin = 0 ∧ s.memSame t
        ∧ ∀ c : Course, s.stage.begin.getLsbD c.val = true → s.get (R.PWM_STAT_RUN c) = 0 → t.get (R.PWM_STAT_RUN c) = 1)
      ∧ (∀ i : StrandId, (s.strand i).state = .halted →
        exec (.stepStrand .debug i) s = .next (s.setStrand i { s.strand i with stepping := true }))
      ∧ (∀ v : Word, ∃ t, exec (.strandHalt .debug false v) s = .next t ∧ t.reg RW.DBG_SHALT0 = v ∧ s.memSame t ∧ ∀ i : StrandId, let x := s.strand i
        (48 ≤ i.val → t.strand i = x)
        ∧ (i.val < 48 → v.getLsbD i.val = true → ((x.state = .free ∨ x.state = .runnable) → t.strand i = x)
            ∧ (x.state ≠ .free → x.state ≠ .runnable → x.state ≠ .halted → t.strand i = { x with state := .halted, heldFrom := x.state }))
        ∧ (i.val < 48 → v.getLsbD i.val = false → t.strand i = if x.state = .halted then { x with
            state := x.heldFrom, stepping := false, key := if x.heldFrom = .runnable then s.time.dtime else x.key } else x))
      ∧ (∀ (i : StrandId) (v : Word), s.get R.DBG_RSEL_STRAND = i.val → (s.strand i).state = .halted → let x := s.strand i
        let r := fun y : Strand => exec (.dbgRdataWrite .debug v) s = .next (s.setStrand i y)
        (∀ k : BitVec 5, s.get R.DBG_RSEL_INDEX = k.toNat → r (x.wr k v)) ∧ (s.get R.DBG_RSEL_INDEX = 36 → r { x with pc := v.setWidth 24 })
          ∧ (s.get R.DBG_RSEL_INDEX = 33 → r { x with a0 := x.a0.extractLsb' 48 48 ++ v }))
      ∧ (∀ e rest, s.dbg.trace = e :: rest → exec (.tracePop .debug) s = .next { s with dbg := { s.dbg with trace := rest } })
      ∧ (s.pwr.mode ≠ .off → s.dbg.acc = none → ∀ (a : BitVec 24) (v : Word),
        let r := fun w : Option Word => Host.Outcome.next (ρ := Refusal) (φ := Fault) { load with
          core := { load.core with nextOp := s.core.nextOp + 1 }
          dbg := { load.dbg with accStat := 1, accAddr := a, acc := some (s.core.nextOp, w) } }
        exec (.debugRead a) s = r none ∧ exec (.debugWrite a v) s = r (some v))
      ∧ (s.pwr.mode ≠ .off → exec .debugPoll s = .next { load with
          sent := ⟨.debug, .debugData, [s.dbg.accStat.zeroExtend 48, s.dbg.accAddr.zeroExtend 48, s.dbg.accData]⟩ :: s.sent }))
    ∧ (∀ (m : Master) (i : StrandId) (v : Word), (m ≠ .debug ∨ s.get R.RST_KEYST_OPEN = 0) →
      ∀ c ∈ [Instr.mhalt m, .dbgResume m, .stepStrand m i, .strandHalt m false v, .dbgRdataWrite m v, .tracePop m], exec c s = .next s)
    ∧ (s.get R.RST_KEYST_OPEN = 0 → exec .debugPoll s = .next s ∧ (s.pwr.mode ≠ .off → s.dbg.acc = none → ∀ a v,
        let r := Host.Outcome.next (ρ := Refusal) (φ := Fault) { load with dbg := { load.dbg with accStat := 3 } }
        exec (.debugWrite a v) s = r ∧ exec (.debugRead a) s = r)))
  ∧ (∀ s : State, s.pwr.mode ≠ .off →
    let onto := fun (u : State) (ir : BitVec 5) (held off : Bool) =>
      ({ u with dbg := { u.dbg with ir := ir, pinsHeld := held, pinsOff := off, gatesOff := false } } : State).refreshAll
    let load := onto s
    let halted := fun (ir : BitVec 5) (held off : Bool) =>
      Host.Outcome.next (ρ := Refusal) (φ := Fault) (onto ((s.put R.DBG_STAT_MH 1).put R.DBG_STAT_CAUSE 4) ir held off)
    exec .tapReset s = .next (load 0b00010 false false) ∧ exec .tapBypass s = .next (load 0b11111 false false)
    ∧ exec .tapIdcode s = .next { load 0b00010 false false with sent := ⟨.debug, .debugData, [0x1482456B]⟩ :: s.sent }
    ∧ (s.get R.RST_KEYST_OPEN = 1 → exec .tapExtest s = halted 0b00000 true false ∧ exec .tapClamp s = halted 0b00011 true false
      ∧ exec .tapHighz s = halted 0b00100 false true
      ∧ ∀ pins, exec (.tapSamplePreload pins) s = .next { load 0b00001 false false with dbg := { (load 0b00001 false false).dbg with boundary := pins } })
    ∧ (s.get R.RST_KEYST_OPEN = 0 → ∀ pins, ∀ c ∈ [Instr.tapExtest, .tapClamp, .tapHighz, .tapSamplePreload pins],
        exec c s = .next (load 0b11111 false false))
    ∧ (∀ code : BitVec 64, (s.get R.DBG_STAT_UFAIL < 3 → exec (.tapUnlock code) s = .next (if s.mem.unlockCode = some code
          then (load 0b10001 false false).put R.RST_KEYST_OPEN 1
          else (load 0b10001 false false).put R.DBG_STAT_UFAIL (min (s.get R.DBG_STAT_UFAIL + 1) (2 ^ R.DBG_STAT_UFAIL.len - 1))))
        ∧ (3 ≤ s.get R.DBG_STAT_UFAIL → exec (.tapUnlock code) s = .next (load 0b10001 false false))))

/-! ## Carriers and commutation -/

/-- The events of a running carrier (R341, R343, R345 to R348, R352 to R354, R379, R380, R418, R448): a boundary counts, transfers the
shadows that stood a beat before, starts the period at 0 and ends a course asked to stop; PER, the compares and the auxiliary compare set
their bits of EVSTAT, thinned by EVPRE, and assert the course's line; at a compare edge the reference falls; the auxiliary compare opens a
window or asks for conversions, and so does an instant of single-shunt sampling. What the carrier has not brought about (due) leaves all as
it is. -/
def Obligations.CarrierEvents : Prop :=
  ∀ (s : State) (c : Course), Memory.wf s = true → s.pwr.mode = .run → s.get (R.PWM_STAT_RUN c) = 1 → s.get R.DBG_STAT_MH = 0 →
    let x := s.pwm c
    let due := fun n : Nat => x.due.getLsbD n = true
    let fires := fun n : Nat => (s.get (R.PWM_CTL_EVSEL c)).testBit n = true ∧ s.get (R.PWM_CNT_PCNT c) % (x.act.evpre + 1) = 0
    let event := fun (t : State) (n : Nat) => (fires n → (t.get (R.PWM_EVSTAT_SRC c)).testBit n = true ∧ s.raises t (64 + c.val))
      ∧ (¬ fires n → t.get (R.PWM_EVSTAT_SRC c) = s.get (R.PWM_EVSTAT_SRC c) ∧ t.core = s.core ∧ t.now.lines = s.now.lines)
    let only := fun t : State => s.memSame t ∧ t.time = s.time ∧ t.get (R.PWM_CNT_CNT c) = s.get (R.PWM_CNT_CNT c)
      ∧ ∀ d, d ≠ c → t.pwm d = s.pwm d
    let asked := fun (chs : List Nat) (ss second : Bool) => s.fadc.urgent ++ chs.map (fun n =>
      { kind := 1, ch := n, f26 := ss, f27 := second, reg := s.time.dtime, crs := c.val })
    let asks := fun n : Nat => s.get R.RST_STRAP_ROLE = 0 ∧ s.get R.FADC_CTL_EN = 1 ∧ (∀ u ∈ s.fadc.urgent, u.reg ≠ s.time.dtime)
      ∧ s.fadc.urgent.length + n ≤ 32
    (due 0 → s.arr c = 2 → s.get R.RSV_SDSTAT_STEP = 0 → (∀ d : Course, d ≠ c → s.get (R.PWM_SYNC_SEN d) = 0) →
      ∃ t, exec (.periodBoundary c) s = .next t
      ∧ s.memSame t ∧ t.time = s.time ∧ t.get (R.PWM_CNT_PCNT c) = (s.get (R.PWM_CNT_PCNT c) + 1) % 2 ^ 32 ∧ t.get (R.PWM_CNT_CNT c) = 0
      ∧ (t.pwm c).act = x.shPrev.getD x.act ∧ (t.pwm c).stopReq = false ∧ (∀ d, d ≠ c → t.pwm d = s.pwm d)
      ∧ (x.stopReq = true → t.get (R.PWM_STAT_RUN c) = 0)
      ∧ (x.stopReq = false → t.get (R.PWM_STAT_RUN c) = 1 ∧ ∀ k : Fin 3, (t.pwm c).ref[k] = decide ((t.pwm c).act.effHigh k ≠ 0)))
    ∧ (due 1 → ∃ t, exec (.counterPerMatch c) s = .next t ∧ event t 1 ∧ only t ∧ t.pwm c = { x with due := x.due &&& ~~~ (1#9 <<< 1) } ∧ t.stage.hbs = s.stage.hbs)
    ∧ (∀ k : Fin 3, due (2 + k.val) ∨ due (6 + k.val) → ∃ t, exec (.compareEdge c k) s = .next t ∧ only t
      ∧ (due (2 + k.val) → event t (2 + k.val))
      ∧ (¬ due (2 + k.val) → t.get (R.PWM_EVSTAT_SRC c) = s.get (R.PWM_EVSTAT_SRC c) ∧ t.core = s.core ∧ t.now.lines = s.now.lines)
      ∧ (t.pwm c).ref[k] = (x.ref[k] && !x.due.getLsbD (6 + k.val)) ∧ (∀ j : Fin 3, j ≠ k → (t.pwm c).ref[j] = x.ref[j])
      ∧ t.stage.dlEdge[lineOf c] = (if due (6 + k.val) ∧ s.fineEdge c k = true then some s.time.dtime else s.stage.dlEdge[lineOf c]))
    ∧ (due 5 → let o := s.get (R.PWM_AUXOWN_OWNER c)
      let y := { x with due := x.due &&& ~~~ (1#9 <<< 5) }
      (o = 0 → ∃ t, exec (.auxMatch c) s = .next t ∧ event t 5 ∧ only t ∧ t.pwm c = y ∧ t.stage.hbs = s.stage.hbs ∧ t.fadc = s.fadc)
      ∧ (∀ d : Course, o = 16 + d.val → x.act.auxlen ≠ 0 → ∃ t, exec (.auxMatch c) s = .next t ∧ event t 5 ∧ only t
          ∧ t.pwm c = { y with win := some d, winLeft := x.act.auxlen })
      ∧ (o = 1 → s.get (R.PWM_SSHUNT_SSEN c) = 0 → let l := maskChannels (s.get (R.FADC_UMASK_MASK c))
        asks l.length → ∃ t, exec (.auxMatch c) s = .next t ∧ event t 5 ∧ only t ∧ t.pwm c = y ∧ t.fadc.urgent = asked l false false))
    ∧ (∀ second : Bool, s.ssDue c second = true → asks 1 →
        exec (.singleShuntSample c second) s = .next { (s.setPwm c (if second then { x with ss2 := true } else { x with ss1 := true })) with
          fadc := { s.fadc with urgent := asked [c.val] true second } })
    ∧ (¬ due 0 → exec (.periodBoundary c) s = .next s) ∧ (¬ due 1 → exec (.counterPerMatch c) s = .next s) ∧ (¬ due 5 → exec (.auxMatch c) s = .next s)
    ∧ (∀ k : Fin 3, ¬ due (2 + k.val) → ¬ due (6 + k.val) → exec (.compareEdge c k) s = .next s)

/-- Starts and stops of courses (R348 to R350, R360): a start sets RUN with the periods at 0, the counter at PHASE, or 0 where PHASE
exceeds PER, and the written values in force; a running course is left; a stop waits for the boundary; a timed start waits for its device
time; in a machine halt a start waits for its end (R361); a course that the arrangement does not give the writer only sets WREJ. -/
def Obligations.CourseStarts : Prop :=
  ∀ (s : State) (m : Master) (c : Course), Memory.wf s = true → s.get R.RSV_SDSTAT_STEP = 0 →
    let started := fun (u t : State) => t.get (R.PWM_STAT_RUN c) = 1 ∧ t.get (R.PWM_CNT_PCNT c) = 0 ∧ (t.pwm c).act = u.shadowSet c
      ∧ t.get (R.PWM_CNT_CNT c) = (if u.get (R.PWM_SYNC_PHASE c) ≤ u.get (R.PWM_PER_PER c) then u.get (R.PWM_SYNC_PHASE c) else 0)
      ∧ (t.pwm c).stopReq = false ∧ (∀ d, d ≠ c → t.pwm d = u.pwm d ∧ t.get (R.PWM_STAT_RUN d) = u.get (R.PWM_STAT_RUN d)) ∧ u.memSame t ∧ t.time = u.time
    (s.barred m c true = false →
      (s.get R.DBG_STAT_MH = 0 → s.get (R.PWM_STAT_RUN c) = 0 → (∀ d : Course, d ≠ c → s.get (R.PWM_SYNC_SEN d) = 0) →
        ∃ t, exec (.courseStart m c) s = .next t ∧ started s t)
      ∧ (s.get R.DBG_STAT_MH = 0 → s.get (R.PWM_STAT_RUN c) = 1 → exec (.courseStart m c) s = .next s)
      ∧ (s.get R.DBG_STAT_MH = 1 → exec (.courseStart m c) s = .next { s with stage := { s.stage with begin := s.stage.begin ||| 1#8 <<< c.val } })
      ∧ (s.get (R.PWM_STAT_RUN c) = 1 → exec (.courseStop m c) s = .next (s.setPwm c { s.pwm c with stopReq := true })))
    ∧ (s.barred m c true = true → exec (.courseStart m c) s = .next (s.put (R.PWM_STAT_WREJ c) 1)
        ∧ exec (.courseStop m c) s = .next (s.put (R.PWM_STAT_WREJ c) 1))
    ∧ (∀ v : Word, v.toNat < 2 ^ 8 → (∀ d, s.barred m d true = false) → (s.time.dtime - BitVec.ofNat 48 (s.get R.PWM_GAT_DT)).toInt < 0 →
        exec (.timedStart m v) s = .next { s with stage := { s.stage with timed := some (v.setWidth 8, BitVec.ofNat 48 (s.get R.PWM_GAT_DT)) } })
    ∧ (∀ dt : Word, s.stage.timed = some (BitVec.twoPow 8 c.val, dt) → s.get R.DBG_STAT_MH = 0 → 0 ≤ (s.time.dtime - dt).toInt →
        s.get (R.PWM_STAT_RUN c) = 0 → (∀ d : Course, d ≠ c → s.get (R.PWM_SYNC_SEN d) = 0) →
        ∃ t, exec .timedStartReached s = .next t ∧ started s t ∧ t.stage.timed = none)

/-- Commutation (R364 to R370, R453): SET, ADV and RET make a commutation wait with its index and the rule of its taking effect, from the
index of the one that it replaces, which MMERGE counts; from two beats on, and at the boundary or in the beat of AUX that the rule names,
it takes effect with its state in MASK and the course's line asserted; a back-EMF crossing arms the delay of CDLY and asks for its
conversion, and the delay's end commutates. -/
def Obligations.Commutation : Prop :=
  ∀ (s : State) (m : Master) (c : Course), Memory.wf s = true →
    let x := s.pwm c
    let n := s.get (R.PWM_MCFG_RLEN c) + 1
    let idx := s.get (R.PWM_MSTAT_IDX c)
    let take := if s.get (R.PWM_MCFG_MTAKE c) = 2 ∧ x.act.per < x.act.aux then 1 else s.get (R.PWM_MCFG_MTAKE c)
    let up := fun i : Nat => (i + 1) % n
    let down := fun i : Nat => (i % n + n - 1) % n
    let due := fun w : Commut => 2 ≤ (s.time.dtime - w.beat).toNat ∧ s.get R.DBG_STAT_MH = 0
      ∧ (w.take = 0 ∨ (w.take = 1 ∧ x.bndAt = some s.time.dtime) ∨ (w.take = 2 ∧ x.auxAt = some s.time.dtime ∧ x.due.getLsbD 0 = false))
    let waits := fun (k : Nat) (tk : Nat) (set : Bool) (armed : Bool) (kind : CommutKind) => Host.Outcome.next (ρ := Refusal) (φ := Fault)
      ((s.setPwm c { x with bemfArmed := armed, wait := some { idx := k, take := tk, isSet := set, beat := s.time.dtime }, raised := [kind]
                            waitOld := none }).put (R.PWM_MSTAT_PEND c) 1)
    (s.barred m c true = false → x.wait = none → exec (.maskAdvance m c) s = waits (up idx) take false x.bemfArmed (.step true)
      ∧ exec (.maskRetreat m c) s = waits (down idx) take false x.bemfArmed (.step false)
      ∧ ∀ k : BitVec 3, exec (.maskSet m c k) s = if k.toNat < n then waits k.toNat 0 true x.bemfArmed (.set k.toNat) else .next s)
    ∧ (s.barred m c true = false → ∀ w : Commut, x.wait = some w → ¬ due w → w.beat ≠ s.time.dtime →
        let replaced := fun (i : Instr) (k : Nat) => ∃ t, exec i s = .next t
          ∧ (t.pwm c).wait = some { idx := k, take := take, isSet := false, beat := s.time.dtime }
          ∧ t.get (R.PWM_MSTAT_MMERGE c) = min (s.get (R.PWM_MSTAT_MMERGE c) + 1) (2 ^ (R.PWM_MSTAT_MMERGE c).len - 1)
          ∧ t.get (R.PWM_MSTAT_PEND c) = 1 ∧ s.regsBut t [RW.PWM_MSTAT c] ∧ s.memSame t ∧ t.core = s.core
        replaced (.maskAdvance m c) (up w.idx) ∧ replaced (.maskRetreat m c) (down w.idx))
    ∧ (s.barred m c true = true → ∀ k : BitVec 3, ∀ i ∈ [Instr.maskAdvance m c, .maskRetreat m c, .maskSet m c k], exec i s = .next (s.put (R.PWM_STAT_WREJ c) 1))
    ∧ (x.wait = none → x.bemfArmed = true → x.bemfLeft = 0 → s.get (R.PWM_MCFG_MSRC c) = 2 → s.get R.DBG_STAT_MH = 0 → exec (.bemfDelayExpiry c) s =
        if s.get (R.PWM_MCFG_BDIR c) = 1 then waits (down idx) take false false (.bemf false) else waits (up idx) take false false (.bemf true))
    ∧ (x.bemfArmed = false ∨ x.bemfLeft ≠ 0 → exec (.bemfDelayExpiry c) s = .next s)
    ∧ (∀ w : Commut, x.wait = some w → w.idx < 8 → due w → ∃ t, exec (.commutationTakeEffect c) s = .next t
        ∧ (t.pwm c).wait = none ∧ (t.pwm c).floatAll = false ∧ t.get (R.PWM_MSTAT_IDX c) = w.idx ∧ t.get (R.PWM_MSTAT_PEND c) = 0
        ∧ t.get (R.PWM_MSTAT_MASK c) = s.get (R.PWM_MTAB_STATE c w.idx) ∧ s.raises t (72 + c.val) ∧ (∀ d, d ≠ c → t.pwm d = s.pwm d)
        ∧ s.memSame t ∧ t.time = s.time)
    ∧ (∀ w : Commut, x.wait = some w → ¬ due w → exec (.commutationTakeEffect c) s = .next s)
    ∧ (∀ (k : Fin 3) (rising : Bool), s.pwr.mode = .run → s.get R.RST_STRAP_ROLE = 0 →
      (s.get (R.PWM_MCFG_BBLK c) ≤ (s.time.dtime - x.lastEdge).toNat → ∃ t, exec (.bemfCrossing c k rising) s = .next t ∧ s.memSame t ∧ t.core = s.core
        ∧ (s.get (R.PWM_MCFG_MSRC c) = 2 → (∀ j : Fin 3, (s.pairState c j).1 = 0 ↔ j = k) → (t.pwm c).bemfArmed = true
            ∧ (t.pwm c).bemfLeft = if x.bemfArmed then x.bemfLeft else s.get (R.PWM_MCFG_CDLY c))
        ∧ (s.get R.FADC_CTL_EN = 1 → (s.get R.FADC_XEN_EN).testBit (hbOf c k).val = true → (s.get R.FADC_XEN_EDGE).testBit (if rising then 0 else 1) = true →
            s.fadc.cross = [] → t.fadc.cross = [{ kind := 2, ch := 8 + (hbOf c k).val, f26 := rising, reg := s.time.dtime }]))
      ∧ ((s.time.dtime - x.lastEdge).toNat < s.get (R.PWM_MCFG_BBLK c) → exec (.bemfCrossing c k rising) s = .next s))

/-! ## Gates and protection -/

/-- Gates (R356, R385, R389, R391 to R396, R400 to R404, R406 to R408): rises after dead time and those that the interlock holds; gate
supplies, their lock-outs, which put the gates of the domain off, and recovery; external pins, serial commands, the guard time; gate
faults. -/
def Obligations.GateRules : Prop :=
  ∀ s : State, Memory.wf s = true →
    (∀ (h : HB) (high : Bool), s.get R.DBG_STAT_MH = 0 → let x := s.hb h
      let only := fun (c : Instr) (y : HalfBridge) => ∃ t, exec c s = .next t ∧ t.hb h = y ∧ (∀ j, j ≠ h → t.hb j = s.hb j) ∧ t.regs = s.regs ∧ s.memSame t
        ∧ t.core = s.core
      let up := fun y : HalfBridge => if high then (if x.outH then y else { y with
            outH := true, edgeH := s.time.dtime, isrc := s.get (R.GDRV_HB_CFG_ISRC h), isnk := s.get (R.GDRV_HB_CFG_ISNK h) })
        else (if x.outL then y else { y with
            outL := true, edgeL := s.time.dtime, isrcL := s.get (R.GDRV_HB_CFG_ISRC h), isnkL := s.get (R.GDRV_HB_CFG_ISNK h) })
      let y : HalfBridge := if high then { x with dtH := false, ilH := false } else { x with dtL := false, ilL := false }
      ((if high then x.dtH else x.dtL) = true →
        ((if high then x.dtHLeft else x.dtLLeft) = 0 → only (.deadTimeRise h high false) (up y)
          ∧ only (.deadTimeRise h high true)
            (if high then { x with dtH := false, ilH := true, edgeH := s.time.dtime } else { x with dtL := false, ilL := true, edgeL := s.time.dtime }))
        ∧ ((if high then x.dtHLeft else x.dtLLeft) ≠ 0 → ∀ held, exec (.deadTimeRise h high held) s = .next s))
      ∧ ((if high then x.ilH else x.ilL) = true → only (.interlockRise h high) (up y))
      ∧ (x.guardLeft ≠ 0 → exec (.sourceGuardEnd h) s = .next s)
      ∧ (x.guard = true → x.guardLeft = 0 → ∃ t, exec (.sourceGuardEnd h) s = .next t ∧ (t.hb h).guard = false ∧ (t.hb h).src = s.get (R.SRC h) ∧ t.regs = s.regs
          ∧ (∀ j, j ≠ h → t.hb j = s.hb j) ∧ ((t.hb h).outH = true → (t.want h).1 = true) ∧ ((t.hb h).outL = true → (t.want h).2 = true))
      ∧ (∀ level : Bool, exec (.externalPinLevel h high level) s = .next (s.setHb h (if high then { x with xe := level } else { x with xp := level }))))
    ∧ (∀ (d : Dom) (m : Master), s.get (R.GDRV_DOM_CTL_EN d) = 1 → let x := s.dom d
      let still := x.latched && !decide (s.get (R.GDRV_DOM_CTL_ARST d) = 1)
      (s.pwr.mode = .run → s.get (R.GDRV_DOM_STAT_RDY d) = 0 → ∃ t, exec (.gateSupplyReady d) s = .next t ∧ t.get (R.GDRV_DOM_STAT_RDY d) = 1
          ∧ t.get (R.GDRV_DOM_STAT_LOCK d) = still.toNat ∧ t.dom d = { latched := still } ∧ s.memSame t)
      ∧ (∀ vgl : Bool, s.pwr.mode = .run → s.get R.RST_STRAP_ROLE = 0 → (if vgl then x.vglLow else x.vcpLow) = false → ∃ t, exec (.gateSupplyLockout d vgl) s = .next t
          ∧ t.get (if vgl then R.GDRV_DOM_STAT_VGLUV d else R.GDRV_DOM_STAT_VCPUV d) = 1 ∧ t.get (R.GDRV_DOM_STAT_RDY d) = 0
          ∧ t.get (R.GDRV_DOM_STAT_LOCK d) = 1 ∧ t.get (R.GDRV_DOM_STAT_UVCNT d) = min (s.get (R.GDRV_DOM_STAT_UVCNT d) + 1) (2 ^ 16 - 1)
          ∧ (t.dom d).latched = true ∧ (∀ h, domOf (courseOf h) = d → (t.hb h).outH = false ∧ (t.hb h).outL = false) ∧ s.memSame t)
      ∧ (∀ vgl : Bool, s.pwr.mode = .run → s.get R.RST_STRAP_ROLE = 0 → x.vglLow = vgl → x.vcpLow = !vgl → ∃ t,
          exec (.gateSupplyRecovery d vgl) s = .next t ∧ t.get (R.GDRV_DOM_STAT_RDY d) = 1 ∧ t.dom d = { latched := still }
          ∧ t.get (R.GDRV_DOM_STAT_LOCK d) = still.toNat ∧ s.memSame t)
      ∧ (x.latched = true → x.vglLow = false → x.vcpLow = false → s.get (R.GDRV_DOM_STAT_RDY d) = 1 → ∃ t, exec (.uvclr m d) s = .next t
          ∧ t.dom d = {} ∧ t.get (R.GDRV_DOM_STAT_LOCK d) = 0 ∧ s.memSame t))
    ∧ (∀ (m : Master) (c : Course) (v : Word), s.barred m c true = true → exec (.serialGateCommand m c v) s = .next (s.put R.GDRV_STAT_WREJ 1))
    ∧ (∀ (m : Master) (c : Course) (v : Word), s.barred m c true = false → let tok := v.extractLsb' 8 4
      ((s.pwm c).tok = some tok → exec (.serialGateCommand m c v) s =
          .next (s.put R.GDRV_STAT_SGDUP (min (s.get R.GDRV_STAT_SGDUP + 1) (2 ^ R.GDRV_STAT_SGDUP.len - 1))))
      ∧ ((s.pwm c).tok ≠ some tok → ∃ t, exec (.serialGateCommand m c v) s = .next t ∧ (t.pwm c).tok = some tok ∧ (t.pwm c).sgOff = false
          ∧ t.get (R.GDRV_SGC_TOKEN c) = tok.toNat ∧ s.memSame t
          ∧ ∀ k : Fin 3, let w := v.toNat / 2 ^ (2 * k.val) % 4
            t.get (R.SGSTATE c k.val) = if w = 1 then s.get (R.SGSTATE c k.val) else w))
    ∧ (∀ c : Course, s.get R.GDRV_SGCFG_SGTO ≠ 0 → s.get (R.PWM_OUT_OUTEN c) = 2 → s.get R.DBG_STAT_MH = 0 → (s.pwm c).sgOff = false → (∃ k, s.get (R.SRC (hbOf c k)) = 2) →
      240 * s.get R.GDRV_SGCFG_SGTO ≤ (s.pwm c).sgAge → ∃ t, exec (.serialGateTimeout c) s = .next t ∧ (t.get R.GDRV_STAT_SGTOUT).testBit c.val = true ∧ (t.pwm c).sgOff = true ∧ s.memSame t
        ∧ (s.reaction c < 2 → s.dbg.pinsHeld = false → ∀ k, (s.hb (hbOf c k)).src = 2 → (t.hb (hbOf c k)).outH = false ∧ (t.hb (hbOf c k)).outL = false))
    ∧ (∀ (h : HB) (high : Bool) (kind : BitVec 2), s.get R.RST_STRAP_ROLE = 0 → s.get (R.GDRV_HB_CFG_GFT h) ≠ 0 →
      s.get (R.GDRV_HB_CFG_GFT h) ≤ (s.time.dtime - (if high then (s.hb h).edgeH else (s.hb h).edgeL)).toNat →
      (let on := if high then (s.hb h).outH else (s.hb h).outL
        let held := if high then (s.hb h).ilH else (s.hb h).ilL
        (kind = 1 ∧ on = true) ∨ (kind = 2 ∧ on = false ∧ held = false) ∨ (kind = 3 ∧ held = true)) →
      ∃ t, exec (.gateFault h high kind) s = .next t ∧ (t.get (R.PROTC_FSTAT_SRC (courseOf h))).testBit 3 = true ∧ t.get R.GDRV_GFLT_VALID = 1 ∧ s.memSame t
        ∧ (s.get R.GDRV_GFLT_VALID = 0 → t.get R.GDRV_GFLT_KIND = kind.toNat ∧ t.get R.GDRV_GFLT_HB = h.val ∧ t.get R.GDRV_GFLT_SIDE = (!high).toNat))

/-- Protection (R412, R414 to R418, R420 to R433): a trip, once its monitor has been able to count its blanking and filter, latches its
source on the courses it covers, records the first one, and with the reaction OFF puts their gates off; a window's end, a stale NTC, the
end of a cycle-by-cycle hold, and clearing. -/
def Obligations.ProtectionRules : Prop :=
  ∀ s : State, Memory.wf s = true → s.pwr.mode = .run → s.get R.RST_STRAP_ROLE = 0 →
    let tripped := fun (c : Instr) (n : Nat) (low : Bool) (cs : List Course) (first : Course) (hb : Nat) => ∃ t, exec c s = .next t ∧ s.memSame t
      ∧ t.time = s.time
      ∧ (∀ d : Course, d ∈ cs → (t.get (R.PROTC_FSTAT_SRC d)).testBit (n - 1) = true
          ∧ (s.reactionTo d n low = 2 → ∀ h, courseOf h = d → (t.hb h).outH = false ∧ (t.hb h).outL = false))
      ∧ (∀ d : Course, d ∉ cs → t.get (R.PROTC_FSTAT_SRC d) = s.get (R.PROTC_FSTAT_SRC d) ∧ ∀ h, courseOf h = d → t.hb h = s.hb h)
      ∧ (s.get R.PROT_FREC_VALID = 0 → t.get R.PROT_FREC_VALID = 1 ∧ t.get R.PROT_FREC_SRC = n ∧ t.get R.PROT_FREC_COURSE = first.val
          ∧ t.get R.PROT_FREC_HB = hb ∧ t.get R.PROT_FTIME_T = s.time.dtime.toNat)
    (∀ (h : HB) (high : Bool), s.get (R.PROTC_VDS_VEN (courseOf h)) = 1 → (if high then (s.hb h).outH else (s.hb h).outL) = true →
        s.get (R.PROTC_VDS_VBLK (courseOf h)) + s.get (R.PROTC_VDS_VFILT (courseOf h))
          ≤ (s.time.dtime - (if high then (s.hb h).edgeH else (s.hb h).edgeL)).toNat →
        s.blanked (courseOf h) (R.PROTC_BLK_WVDS (courseOf h)) (s.get (R.PROTC_VDS_VFILT (courseOf h))) = false → tripped (.vdsTrip h high) (if high then 1 else 2) (!high) [courseOf h] (courseOf h) h.val)
    ∧ (∀ c : Course, s.get (R.PROTC_OC_OCEN c) = 1 → (s.get (R.PROTC_OC_POS c) = 1 ∨ s.get (R.PROTC_OC_NEG c) = 1) → s.get (R.PWM_OUT_OUTEN c) ≠ 0 →
        s.get (R.PROTC_OC_OCBLK c) + s.get (R.PROTC_OC_OCFILT c) ≤ (s.time.dtime - (s.pwm c).lastEdge).toNat →
        s.blanked c (R.PROTC_BLK_WOC c) (s.get (R.PROTC_OC_OCFILT c)) = false → tripped (.ocTrip c) 3 false [c] c 0)
    ∧ (s.get R.PROT_VBAT_OVEN = 1 → tripped .ovTrip 6 false allCourses 0 0) ∧ (s.get R.PROT_VBAT_UVEN = 1 → tripped .uvTrip 7 false allCourses 0 0)
    ∧ (∀ k, tripped (.thermTrip k) 8 false allCourses 0 0 ∧ tripped (.tsdTrip k) 9 false allCourses 0 0)
    ∧ (∀ c d : Course, s.get (R.PROTC_BLK_WOC c) = 1 → (s.pwm d).win = some c → (s.get (R.PROTC_BLK_WEN c)).testBit d.val = true →
        exec (.ocTrip c) s = .next s)
    ∧ (∀ c d : Course, (s.pwm c).win = some d → ((s.pwm c).winLeft = 0 → exec (.blankingWindowEnd c) s =
          .next (s.setPwm c { s.pwm c with win := none, winEnd := some (d, s.time.dtime) }))
        ∧ ((s.pwm c).winLeft ≠ 0 → exec (.blankingWindowEnd c) s = .next s))
    ∧ (∀ k : Fin 4, s.get (R.PROT_NTC_EN k) = 1 →
        (24000000 ≤ s.stage.ntcAge[k] → ∃ t, exec (.ntcStale k) s = .next t
          ∧ t.get R.PROT_STAT_NTCSTALE = s.get R.PROT_STAT_NTCSTALE ||| 2 ^ k.val ∧ t.stage = { s.stage with ntcAge := s.stage.ntcAge.set k 0 }
          ∧ s.regsBut t [RW.PROT_STAT] ∧ s.memSame t ∧ t.core = s.core)
        ∧ (s.stage.ntcAge[k] < 24000000 → exec (.ntcStale k) s = .next s))
    ∧ (∀ c : Course, ∃ t, exec (.cbcConditionAbsent c) s = .next t ∧ (∀ k, (t.hb (hbOf c k)).hold = false) ∧ (∀ h, courseOf h ≠ c → t.hb h = s.hb h)
        ∧ s.regsBut t [RW.PROTC_STAT c] ∧ s.memSame t)
    ∧ (∀ (m : Master) (c : Course) (present : BitVec 13),
      (s.barred m c false = true → exec (.protectionClear m c present) s = .next (s.put R.PROT_STAT_WREJ 1))
      ∧ (s.barred m c false = false → (∀ k : Fin 4, s.stage.ntcCond[k] = false) → let keep := s.get (R.PROTC_FSTAT_SRC c) &&& (present.toNat / 2)
        ∃ t, exec (.protectionClear m c present) s = .next t ∧ t.get (R.PROTC_FSTAT_SRC c) = keep ∧ s.memSame t ∧ t.core = s.core
          ∧ t.get R.PROT_STAT_CLRREJ = (if keep = 0 then s.get R.PROT_STAT_CLRREJ else 1)
          ∧ s.regsBut t [RW.PROTC_FSTAT c, RW.PROTC_STAT c, RW.PROT_STAT]))

/-! ## The converters -/

/-- The fast converter (R438 to R442, R444, R445, R447, R449, R454, R457 to R466): two beats before a slot it takes the first conversion of
an earlier beat that waits; 18 beats after its slot a result is offset, scaled, rounded and clamped and enters the queue for the consumers
of its route, or is dropped and counted; the rotation of the spare every 65,536 beats; a scan start; the program's pop; the clearing of the
drop count. -/
def Obligations.FastConverter : Prop :=
  ∀ s : State, Memory.wf s = true → s.pwr.mode = .run → s.get R.RST_STRAP_ROLE = 0 → s.get R.FADC_CTL_EN = 1 →
    let slot := s.time.dtime + 2
    let slice := s.fadc.active.toList.getD (slot.toNat / 4 % 4) 0
    ((s.time.dtime.toNat + 2) % 4 ≠ 0 → exec .slotAssignment s = .next s)
    ∧ ((s.time.dtime.toNat + 2) % 4 = 0 → s.fadc.lastSlot ≠ some slot →
      (s.get R.FADC_SCTL_SRUN = 0 → (∀ u rest, s.fadc.urgent = u :: rest → u.reg ≠ s.time.dtime → exec .slotAssignment s = .next { s with
          fadc := { s.fadc with urgent := rest, convs := s.fadc.convs ++ [{ u with slot := slot, slice := slice }], lastSlot := some slot } })
        ∧ (s.fadc.urgent = [] → ∀ c, s.fadc.cross = [c] → c.reg ≠ s.time.dtime → exec .slotAssignment s = .next { s with fadc := { s.fadc with
            cross := [], convs := s.fadc.convs ++ [{ c with slot := slot, slice := slice }], lastSlot := some slot } }))
      ∧ (s.fadc.urgent = [] → s.fadc.cross = [] → s.fadc.restart = none →
        (∀ n rest, s.fadc.scan = n :: rest → s.fadc.scanAt ≠ s.time.dtime → s.get R.FADC_SCTL_SRUN = 1 → let u : State := { s with
            fadc := { s.fadc with
              scan := rest, sos := false, lastSlot := some slot
              convs := s.fadc.convs ++ [{ kind := 0, ch := n, f26 := s.fadc.sos, reg := s.fadc.scanAt, slot := slot, slice := slice }] } }
          exec .slotAssignment s = .next (if rest = [] then u.put R.FADC_SCTL_SRUN 0 else u))
        ∧ (s.fadc.scan = [] → exec .slotAssignment s = .next { s with fadc := { s.fadc with lastSlot := some slot } })))
    ∧ (∀ (raw : BitVec 12) (c : Conv) (rest : List Conv), s.fadc.convs = c :: rest → 0 ≤ (s.time.dtime - (c.slot + 18)).toInt → c.ch < 48 → c.kind < 3 →
      let m := BitVec.ofNat 9 (s.get (R.ROUTE c.ch)) &&& s.consumers
      (m ≠ 0 → s.fadc.queue.length < 256 → ∃ t w q, exec (.conversionResult raw) s = .next t ∧ t.fadc.convs = rest ∧ t.fadc.gap = false
        ∧ t.fadc.queue = s.fadc.queue ++ [{ word := w, mask := m }] ∧ t.get R.FADC_QSTAT_LEVEL = s.fadc.queue.length + 1
        ∧ t.reg RW.FADC_DONE = s.reg RW.FADC_DONE + 1 ∧ s.memSame t
        ∧ Rounds 1 ((16 * (raw.toNat : Int) - (BitVec.ofNat 10 (s.get (R.FADC_COEF_OFS c.slice))).toInt) * s.get (R.FADC_COEF_GAIN c.slice)) (2 ^ 15) q
        ∧ (getBits w 0 16 : Int) = max 0 (min 65535 q) ∧ getBits w 16 6 = c.ch ∧ getBits w 22 2 = c.kind
        ∧ (w.getLsbD 24 = true ↔ (q < 0 ∨ 65535 < q ∨ raw = 0 ∨ raw = 0xFFF)) ∧ w.getLsbD 25 = s.fadc.gap ∧ w.getLsbD 26 = c.f26 ∧ w.getLsbD 27 = c.f27
        ∧ getBits w 28 20 = (c.slot.toNat + 3) % 2 ^ 20)
      ∧ ((m = 0 ∨ 256 ≤ s.fadc.queue.length) → ∃ t, exec (.conversionResult raw) s = .next t ∧ t.fadc = { s.fadc with convs := rest, gap := true }
        ∧ t.reg RW.FADC_QDROP = s.reg RW.FADC_QDROP + 1 ∧ (m = 0 → t.get R.FADC_STAT_NOROUTE = 1) ∧ s.memSame t ∧ t.core = s.core))
    ∧ (∀ (raw : BitVec 12), (∀ c ∈ s.fadc.convs, (s.time.dtime - (c.slot + 18)).toInt < 0) → exec (.conversionResult raw) s = .next s)
    ∧ (∀ (ofs : BitVec 10) (gain : BitVec 16) (skew : BitVec 7), let sp := s.get R.FADC_STAT_SPARE
      (sp < 5 → s.time.dtime.toNat % 65536 = 0 → s.fadc.rotAt ≠ some s.time.dtime → ∃ t, exec (.spareRotation ofs gain skew) s = .next t
        ∧ t.get R.FADC_STAT_SPARE = (sp + 1) % 5 ∧ t.get (R.FADC_COEF_SKEW sp) = skew.toNat
        ∧ t.get (R.FADC_COEF_OFS sp) = (if s.calHold then s.get (R.FADC_COEF_OFS sp) else ofs.toNat)
        ∧ t.get (R.FADC_COEF_GAIN sp) = (if s.calHold then s.get (R.FADC_COEF_GAIN sp) else gain.toNat)
        ∧ t.fadc.active = s.fadc.active.map (fun x => if x = (sp + 1) % 5 then sp else x) ∧ t.fadc.changes = min (s.fadc.changes + 1) 5
        ∧ t.fadc.queue = s.fadc.queue ∧ t.fadc.rotAt = some s.time.dtime ∧ (4 ≤ s.fadc.changes → t.get R.FADC_STAT_RDY = 1)
        ∧ s.regsBut t [RW.FADC_STAT, RW.FADC_COEF sp] ∧ s.memSame t ∧ t.core = s.core)
      ∧ (s.time.dtime.toNat % 65536 ≠ 0 → exec (.spareRotation ofs gain skew) s = .next s))
    ∧ (∀ m : Master, (s.get R.FADC_SCTL_SMODE = 1 → (s.get R.FADC_SCTL_SRUN = 0 → s.get R.FADC_SMASK_MASK ≠ 0 → exec (.scanGo m) s = .next
          (({ s with fadc := { s.fadc with scan := maskChannels (s.get R.FADC_SMASK_MASK), sos := true, scanAt := s.time.dtime } } : State).put
            R.FADC_SCTL_SRUN 1))
        ∧ (s.get R.FADC_SCTL_SRUN = 1 → exec (.scanGo m) s =
          .next (s.put R.FADC_SCTL_SSKIP (min (s.get R.FADC_SCTL_SSKIP + 1) (2 ^ R.FADC_SCTL_SSKIP.len - 1)))))
      ∧ (s.get R.FADC_SCTL_SMODE ≠ 1 → exec (.scanGo m) s = .next s))
    ∧ (∀ m : Master, exec (.qdclr m) s = .next ((s.setReg RW.FADC_DROPTOT (s.reg RW.FADC_DROPTOT + s.reg RW.FADC_QDROP)).setReg RW.FADC_QDROP 0))
    ∧ (∀ (m : Master) (e : QEntry) (rest : List QEntry), s.fadc.queue = e :: rest → e.mask.getLsbD 0 = true → s.now.missed = [] →
        ∃ t, exec (.qpop m) s = .next t
        ∧ t.fadc.queue = (if e.mask = 1 then rest else { e with mask := e.mask &&& ~~~1 } :: rest) ∧ t.core = s.core
        ∧ (e.mask = 1 → t.reg RW.FADC_DELIV = s.reg RW.FADC_DELIV + 1) ∧ ((∀ i, m ≠ .strand i) → s.memSame t))
    ∧ (∀ m : Master, (∀ e ∈ s.fadc.queue, e.mask.getLsbD 0 = false) → exec (.qpop m) s = .next s)

/-- The integrating converter (R471, R474, R476 to R485, R488): a window that can close does so with its count or quotient, which is on its
way for 2, 3 or 4 beats and then stands in ICONV_RESj with its clocks, and a counting modulator's counter takes what of the count it does
not hold yet; an over-range leaves a gap in the charge; a counter is loaded unless it counts; a pass starts. -/
def Obligations.IntegratingConverter : Prop :=
  ∀ s : State, Memory.wf s = true → s.pwr.mode = .run → s.get R.RST_STRAP_ROLE = 0 →
    (∀ (unit : Fin 3) (cnt : BitVec 20) (n : BitVec 19) (short : Bool), s.icCloses unit cnt.toInt n.toNat short = true →
      let way := fun (t : State) (code : Nat) (res : Int) => ∃ x : IcRes, t.iconv.due = s.iconv.due ++ [x] ∧ x.due = s.time.dtime + BitVec.ofNat 48 (2 + unit.val)
        ∧ x.closed = s.time.dtime ∧ x.unit = unit ∧ x.code = code ∧ x.res = BitVec.ofInt 20 res ∧ x.n = n.toNat ∧ (short = true → x.short = true)
      (∀ qb : Bool, unit.val = qb.toNat → let counter := if qb then RW.ICONV_QBAT else RW.ICONV_QRSV
        ∃ t, exec (.icWindowClose unit cnt n short) s = .next t ∧ way t qb.toNat cnt.toInt ∧ s.regsBut t [counter] ∧ s.memSame t ∧ t.core = s.core
          ∧ t.reg counter = (if s.icCounts qb = true then s.reg counter + BitVec.ofInt 48 (cnt.toInt - s.iconv.part[qb.toNat]'(by cases qb <;> decide))
            else s.reg counter)
          ∧ t.iconv.part[qb.toNat]'(by cases qb <;> decide) = 0)
      ∧ (∀ (j : Nat) (rest : List Nat), unit = 2 → s.iconv.pass = j :: rest → rest ≠ [] → 4 ≤ j → j < 12 → ∃ t q,
        exec (.icWindowClose 2 cnt n short) s = .next t ∧ Rounds 1 (cnt.toInt * 2 ^ 19) n.toNat q
          ∧ way t j (max (-2 ^ 19) (min (2 ^ 19 - 1) q)) ∧ t.iconv.pass = rest
          ∧ t.reg RW.ICONV_QRSV = s.reg RW.ICONV_QRSV ∧ t.reg RW.ICONV_QBAT = s.reg RW.ICONV_QBAT))
    ∧ (∀ (unit : Fin 3) (cnt : BitVec 20) (n : BitVec 19) (short : Bool), s.icCloses unit cnt.toInt n.toNat short = false →
        exec (.icWindowClose unit cnt n short) s = .next s)
    ∧ (∀ x : IcRes, s.iconv.due = [x] → 0 ≤ (s.time.dtime - x.due).toInt → x.unit ≠ 2 → x.code < 16 → x.n < 2 ^ 19 → let t := s.icArrivals
        t.iconv.due = [] ∧ t.get (R.ICONV_RES_RES x.code) = x.res.toNat ∧ t.get (R.ICONV_RES_N x.code) = x.n
        ∧ t.get (R.ICONV_RES_FLAGS x.code) = x.clip.toNat + s.fadc.gap.toNat * 2 + x.short.toNat * 4 + x.test.toNat * 8 ∧ s.memSame t)
    ∧ (∀ qb : Bool, s.get R.ICONV_IC0CFG_EN = 1 → ∃ t, exec (.icOverRange qb) s = .next t ∧ t.get (if qb then R.ICONV_STAT_ORB else R.ICONV_STAT_ORR) = 1
        ∧ t.iconv = { s.iconv with clip := s.iconv.clip.set (if qb then 1 else 0) true (by cases qb <;> decide) } ∧ s.memSame t ∧ t.core = s.core
        ∧ s.regsBut t [RW.ICONV_STAT]
        ∧ (s.get (if qb then R.ICONV_IC0CFG_BEN else R.ICONV_IC0CFG_REN) = 1 → t.get R.ICONV_STAT_CHG_GAP = 1
          ∧ t.get R.ICONV_STAT_GAPSRC = min 2 (s.now.gapSrc.getD 2)))
    ∧ (∀ (m : Master) (qb : Bool) (v : Word), exec (.counterLoad m qb v) s = .next (if s.icCounts qb then s.put R.ICONV_STAT_CFGREJ 1
        else s.setReg (if qb then RW.ICONV_QBAT else RW.ICONV_QRSV) v))
    ∧ (∀ m : Master, s.get R.ICONV_IC1CFG_EN = 1 → s.get R.ICONV_IC1CFG_CONT = 0 → s.iconv.pass = [] → ∃ t, exec (.ic1PassGo m) s = .next t
        ∧ t.iconv.pass = s.passCodes ∧ t.get R.ICONV_STAT_IC1BUSY = (if s.passCodes = [] then 0 else 1)
        ∧ s.regsBut t [RW.ICONV_STAT] ∧ s.memSame t ∧ t.core = s.core)
    ∧ (∀ m : Master, s.iconv.pass ≠ [] → exec (.ic1PassGo m) s = .next s)

/-! ## Engines, positions, capture and acquisition -/

/-- The filter engines (R494 to R506, R511): an entry's value less IOFS enters the history; the last of a decimation group starts a
computation, the rounded and clamped sum of products; its output shows, and waits for its ring; banks are loaded, copied from RAM and
swapped. -/
def Obligations.FilterEngines : Prop :=
  ∀ (s : State) (n : Engine) (m : Master), Memory.wf s = true → s.pwr.mode = .run →
    let f := s.eng n
    let other : Fin 2 := if s.get (R.FE_BANK_ACT n) = 1 then 0 else 1
    let valid := if s.get (R.FE_BANK_ACT n) = 1 then R.FE_BANK_AVALID n else R.FE_BANK_BVALID n
    (∀ w : Word, s.qFirst (n.val + 1) = some w → s.get (R.FE_CFG_EN n) = 1 →
      entryMatches w (s.get (R.FE_CFG_ICLS n)) (s.get (R.FE_CFG_ICHAN n)) = true → w.getLsbD 25 = false → s.get (R.FE_BANK_SWPEND n) = 0 →
      let h := ((entryValue w - (BitVec.ofNat 17 (s.get (R.FE_IOFS_IOFS n))).toInt) :: f.hist).take 4096
      s.get (R.FE_DCFG_DSRC n) = 0 →
      (f.dec ≠ s.get (R.FE_CFG_DEC n) → ∃ t, exec (.engineTakeEntry n) s = .next t
        ∧ t.eng n = { f with hist := h, taken := min (f.taken + 1) 4096, dec := f.dec + 1 } ∧ s.memSame t ∧ t.core = s.core)
      ∧ (f.dec = s.get (R.FE_CFG_DEC n) → f.comp = none → f.writes.length < 4 → ∃ t y sat, exec (.engineTakeEntry n) s = .next t
        ∧ t.eng n = { f with hist := h, taken := min (f.taken + 1) 4096, dec := 0, comp := some (y, sat, w.extractLsb' 28 20) } ∧ s.memSame t
        ∧ (s.get (R.FE_CFG_MODE n) = 0 → ∃ q, Rounds 1 ((((s.feCoefs n).take (s.get (R.FE_CFG_NTAPS n))).zip h).map (fun p => p.1.toInt * p.2)).sum
            (2 ^ s.get (R.FE_CFG_OSH n)) q ∧ y.toInt = max (-2 ^ 27) (min (2 ^ 27 - 1) q) ∧ (sat = true ↔ y.toInt ≠ q)))
      ∧ (f.dec = s.get (R.FE_CFG_DEC n) → (f.comp ≠ none ∨ 4 ≤ f.writes.length) → exec (.engineTakeEntry n) s =
          .next (s.put (R.FE_STAT_STALL n) (min (s.get (R.FE_STAT_STALL n) + 1) (2 ^ 16 - 1)))))
    ∧ (∀ y sat time, f.comp = some (y, sat, time) → ∃ t, exec (.engineOutput n) s = .next t ∧ (t.eng n).comp = none ∧ t.get (R.FE_Y_Y n) = y.toNat
        ∧ t.get (R.FE_Y_TIME n) = time.toNat ∧ (sat = true → t.get (R.FE_STAT_OSAT n) = 1) ∧ s.memSame t
        ∧ (t.eng n).writes = (if s.get (R.FE_CFG_OBEN n) = 1 then f.writes ++ [time.zeroExtend 48 <<< 28 ||| y.zeroExtend 48] else f.writes))
    ∧ (∀ w rest, f.writes = w :: rest → let a := s.get (R.FE_OBUF_BASE n) + (s.reg (RW.FE_OWP n)).toNat % s.get (R.FE_OBUF_LEN n)
        ∃ t, exec (.engineOutputWrite n) s = .next t ∧ t.ramAt a = w ∧ (∀ b, b ≠ a → t.ramAt b = s.ramAt b) ∧ t.mram = s.mram
          ∧ t.reg (RW.FE_OWP n) = s.reg (RW.FE_OWP n) + 1 ∧ s.regsBut t [RW.FE_OWP n] ∧ t.eng n = { f with writes := rest } ∧ t.core = s.core)
    ∧ (s.get (R.FE_BANK_LDBUSY n) = 0 → s.get (R.FE_BANK_SWPEND n) = 0 → ∃ t, exec (.bankLoad m n) s = .next t ∧ t.get (R.FE_BANK_LDBUSY n) = 1
        ∧ t.eng n = { f with copy := some ((List.range (s.get (R.FE_BANK_LCNT n))).map (fun k => s.ramAt (s.get (R.FE_BANK_LADDR n) + k))) }
        ∧ s.regsBut t [RW.FE_BANK n] ∧ s.memSame t ∧ t.core = s.core)
    ∧ (∀ ws : List Word, f.copy = some ws → (∀ k < ws.length, let a := s.get (R.FE_BANK_LADDR n) + k
          region a = .ram ∧ spGet (fun _ => 0) s.mem.ramErr a = 0 ∧ s.ramAt a = ws.getD k 0) → ∃ t, exec (.bankCopyEnd n) s = .next t
        ∧ t.eng n = { f with copy := none, banks := f.banks.set other (ws.map (·.setWidth 24)) } ∧ t.get valid = 1 ∧ t.get (R.FE_BANK_LDBUSY n) = 0
        ∧ s.memSame t ∧ s.regsBut t [RW.FE_BANK n, RW.FE_EVSTAT n])
    ∧ exec (.bankSwap m n) s = .next (if s.get (R.FE_BANK_LDBUSY n) = 0 ∧ s.get valid = 1 then s.put (R.FE_BANK_SWPEND n) 1
        else s.put (R.FE_STAT_BANKREJ n) 1)

/-- Position counters and fine capture (R515 to R525, R529, R530, R533 to R538): a Hall state registered in RUN counts by its change of
sector, a skipped state also leaves the position uncertain, an invalid one counts nothing; SET and ADD, in the order of one beat; the
low-power sampler at its instants; edges are kept to the end of their beat (log entry 64, DEDUCED), where they make records of edges and
intervals; a pop takes the oldest. -/
def Obligations.PositionAndCapture : Prop :=
  ∀ s : State, Memory.wf s = true →
    let step := fun (c : Course) (d : Nat) => (let k : Int := [0, 1, 2, 0, -2, -1].getD d 0
      if s.get (R.POS_CFG_DIR c) = 1 then -k else k)
    (∀ (c : Course) (levels : BitVec 3), s.pwr.mode = .run → s.get R.RST_STRAP_ROLE = 0 → s.get (R.POS_CFG_EN c) = 1 → (s.posn c).cmp = none →
      s.phaseRv = 0 → (s.posn c).e2 = none → s.get (R.PWM_MCFG_MSRC c) ≠ 1 → let h := levels ^^^ BitVec.ofNat 3 (s.get (R.POS_CFG_HPOL c))
      ∃ t, exec (.hallRegistration c levels) s = .next t ∧ (t.posn c).hst = h ∧ t.get (R.POS_STAT_HSTATE c) = h.toNat ∧ s.memSame t
        ∧ (sectorOf h = none → t.get (R.POS_STAT_HINV c) = 1 ∧ t.reg (RW.POS_CNT c) = s.reg (RW.POS_CNT c) ∧ (t.posn c).ref = (s.posn c).ref)
        ∧ (∀ n r, sectorOf h = some n → (s.posn c).ref = some r → r < 6 → let d := (n + 6 - r) % 6
          (t.posn c).ref = some n ∧ t.reg (RW.POS_CNT c) = s.reg (RW.POS_CNT c) + BitVec.ofInt 48 (step c d)
          ∧ ((d = 1 ∨ d = 5) → t.reg (RW.POS_LAST c) = s.time.dtime - BitVec.ofNat 48 (s.get (R.POS_CFG_HFILT c)))
          ∧ ((d = 2 ∨ d = 3 ∨ d = 4) → t.get (R.POS_STAT_UNC c) = 1 ∧ t.get (R.POS_TINT_VALID c) = 0)
          ∧ (d ≠ 0 → d ≠ 3 → (s.posn c).setBeat = some s.time.dtime → t.get (R.POS_STAT_LDHIT c) = 1)))
    ∧ (∀ (m : Master) (c : Course) (v : Word), (s.barred m c false = true →
        exec (.posSet m c v) s = .next (s.put (R.POS_STAT_WREJ c) 1) ∧ exec (.posAdd m c v) s = .next (s.put (R.POS_STAT_WREJ c) 1))
      ∧ (s.barred m c false = false → exec (.posAdd m c v) s = .next (s.setReg (RW.POS_CNT c) (s.reg (RW.POS_CNT c) + v))
        ∧ ∃ t, exec (.posSet m c v) s = .next t ∧ t.posn c = { s.posn c with setBeat := some s.time.dtime } ∧ s.memSame t ∧ t.core = s.core
          ∧ ((∀ k, (s.posn c).regBeat = some (s.time.dtime, k) → k = 0) → t.reg (RW.POS_CNT c) = v ∧ s.regsBut t [RW.POS_CNT c])
          ∧ (∀ k, (s.posn c).regBeat = some (s.time.dtime, k) → k ≠ 0 → t.reg (RW.POS_CNT c) = v + BitVec.ofInt 48 k ∧ t.get (R.POS_STAT_LDHIT c) = 1)))
    ∧ (∀ (d : Dom) (levels : BitVec 24), s.lpInstant d = false → exec (.lpHallSample d levels) s = .next s)
    ∧ (∀ (d : Dom) (levels : BitVec 24) (c : Course), s.lpInstant d = true → s.reg RW.PWR_WAKEHALL = 0 →
      c.val / 2 = d.val → s.get (R.POS_CFG_EN c) = 1 → let h := levels.extractLsb' (3 * c.val) 3 ^^^ BitVec.ofNat 3 (s.get (R.POS_CFG_HPOL c))
      h ≠ (s.posn c).lpPrev → ∀ n r, sectorOf h = some n → (s.posn c).ref = some r → r < 6 → ∃ t, exec (.lpHallSample d levels) s = .next t
        ∧ (t.posn c).lpPrev = h ∧ (t.posn c).ref = some n ∧ t.reg (RW.POS_CNT c) = s.reg (RW.POS_CNT c) ∧ s.memSame t
        ∧ (t.posn c).lpDelta = max (-2 ^ 23) (min (2 ^ 23 - 1) ((s.posn c).lpDelta + step c ((n + 6 - r) % 6))))
    ∧ (∀ (n : Fin 16) (partner rising : Bool) (tap : BitVec 5), s.pwr.mode = .run → s.get R.RST_STRAP_ROLE = 0 → s.get (R.TC_CFG_EN n) = 1 →
      (∀ e ∈ s.now.edges, ¬ (e.1 = n ∧ e.2.1 = partner)) →
        exec (.captureEdge n partner rising tap) s = .next { s with now := { s.now with edges := s.now.edges ++ [(n, partner, rising, tap.toNat)] } })
    ∧ (∀ (n : Fin 16) (partner rising : Bool) (tap : BitVec 5), s.get (R.TC_CFG_EN n) = 0 → exec (.captureEdge n partner rising tap) s = .next s)
    ∧ (∀ (n : Fin 16) (partner rising : Bool) (tap : BitVec 5), s.now.edges = [(n, partner, rising, tap.toNat)] →
      (s.get (if partner then R.TC_CFG_PEDGE n else R.TC_CFG_SEDGE n)).testBit (if rising then 0 else 1) = true →
      let t := s.tcBeat
      let coarse := s.stage.dlEdge[tcLine n] == some s.time.dtime || !s.lineLocked (tcLine n)
      let at0 := if coarse then 0 else tap.toNat
      s.memSame t ∧ t.now.edges = []
      ∧ (partner = false → s.get (R.TC_CFG_MODE n) = 0 →
        ((s.cap n).recs.length < 8 → ∃ w, (t.cap n).recs = (s.cap n).recs ++ [(s.time.dtime, w)]
          ∧ getBits w 0 5 = at0 ∧ w.getLsbD 5 = coarse ∧ w.getLsbD 8 = rising ∧ t.get (R.TC_STAT_LEVEL n) = (s.cap n).recs.length + 1)
        ∧ (8 ≤ (s.cap n).recs.length → (t.cap n).recs = (s.cap n).recs
          ∧ t.get (R.TC_STAT_OVR n) = min (s.get (R.TC_STAT_OVR n) + 1) (2 ^ (R.TC_STAT_OVR n).len - 1)))
      ∧ (s.get (R.TC_CFG_MODE n) = 1 → s.get (R.TC_CFG_SRC n) ≠ s.get (R.TC_CFG_PSRC n) →
        (partner = false → (t.cap n).start = some (s.time.dtime, at0, coarse) ∧ (t.cap n).recs = (s.cap n).recs ∧ t.get (R.TC_STAT_OPEN n) = 1)
        ∧ (∀ b t0, partner = true → coarse = false → (s.cap n).start = some (b, t0, false) → b ≠ s.time.dtime → (s.cap n).recs.length < 8 →
          ∃ w, (t.cap n).recs = (s.cap n).recs ++ [(s.time.dtime, w)] ∧ getBits w 0 5 = tap.toNat ∧ w.getLsbD 7 = true
            ∧ getBits w 10 38 = min ((s.time.dtime - b).toNat * 32 + tap.toNat - t0) (2 ^ 38 - 1)
            ∧ (t.cap n).start = if s.get (R.TC_CFG_CHAIN n) = 1 then some (s.time.dtime, tap.toNat, false) else none)))
    ∧ (∀ (m : Master) (n : Fin 16), ∃ t, exec (.capturePop m n) s = .next t ∧ (t.cap n).recs = (s.cap n).recs.drop 1
        ∧ ((s.cap n).recs.length ≤ 8 → t.get (R.TC_STAT_LEVEL n) = (s.cap n).recs.length - 1)
        ∧ (∀ e, (s.cap n).recs.head? = some e → (readerOf m, e.2) ∈ (t.cap n).aux) ∧ s.memSame t ∧ t.core = s.core ∧ s.regsBut t [RW.TC_STAT n])

/-- Acquisition and multi-chip capture (R544 to R549, R552 to R554, R557 to R562): an arm from the descriptor, samples into the ring, the
forced trigger, the words written to RAM, the end of a capture, a stop; the global arm and the fires. -/
def Obligations.AcquisitionUnits : Prop :=
  ∀ (s : State) (n : Engine) (m : Master), Memory.wf s = true → s.pwr.mode = .run →
    let q := s.unit n
    let st := s.get (R.AQ_STAT_STATE n)
    (let a := s.get (R.AQ_DESC_ADDR n)
     let w := s.ramAt a
     s.get (R.AQ_CFG_EN n) = 1 → (st = 0 ∨ st = 3) → spGet (fun _ => 0) s.mem.ramErr a = 0 →
      s.get (R.AQ_DEPTH_PRE n) + s.get (R.AQ_DEPTH_POST n) < getBits w 24 16 →
      s.fencedBy (0x10 + n.val) (getBits w 0 24) (getBits w 24 16 * (s.get (R.AQ_CFG_MODE n) + 1)) = true → ∃ t, exec (.aqArm m n) s = .next t
        ∧ t.get (R.AQ_STAT_STATE n) = 1 ∧ t.get (R.AQ_STAT_STAGE n) = 0 ∧ s.memSame t
        ∧ (t.unit n).base = getBits w 0 24 ∧ (t.unit n).len = getBits w 24 16 ∧ (t.unit n).last = w.getLsbD 47 ∧ (t.unit n).recs = 0
        ∧ (t.unit n).trig = none ∧ (t.unit n).waits = [])
    ∧ ((s.get (R.AQ_CFG_EN n) = 0 ∨ st = 1 ∨ st = 2) → exec (.aqArm m n) s = .next (s.put (R.AQ_STAT_CFGREJ n) 1))
    ∧ (st = 1 → exec (.aqForce m n) s = .next { s with acq := { s.acq with aq := s.acq.aq.set n { q with force := true } } }
      ∧ exec (.aqStop m n) s = .next (let u := s.put (R.AQ_STAT_STATE n) 0
          { u with acq := { u.acq with aq := u.acq.aq.set n { waits := q.waits } } }))
    ∧ (∀ g : AqTrig, st = 2 → q.closing = none → q.trig = some g → ∃ t, exec (.aqStop m n) s = .next t ∧ (t.unit n).closing = some true
        ∧ (t.unit n).trig = some g ∧ t.regs = s.regs ∧ s.memSame t ∧ t.core = s.core)
    ∧ (∀ w : Word, s.qFirst (n.val + 5) = some w → s.get (R.AQ_CFG_EN n) = 1 → s.get (R.AQ_CFG_SRC n) = 0 →
      entryMatches w (s.get (R.AQ_CFG_ICLS n)) (s.get (R.AQ_CFG_ICHAN n)) = true → st = 1 → q.closing = none → s.get (R.AQ_CFG_MODE n) = 0 →
      (q.waits.length < 8 → (∀ k < 4, s.get (R.AQ_COND_KIND n k) = 0) → q.trig = none →
        ∃ t, exec (.aqTakeSample n) s = .next t ∧ s.memSame t ∧ (t.unit n).waits.take (q.waits.length + 1) = q.waits ++ [(q.base + q.recs % q.len, w)]
          ∧ (t.unit n).recs = q.recs + 1
          ∧ (q.force = false → t.get (R.AQ_STAT_STATE n) = 1 ∧ (t.unit n).trig = none ∧ (t.unit n).closing = none)
          ∧ (q.force = true → t.get (R.AQ_STAT_STATE n) = 2 ∧ (∃ g, (t.unit n).trig = some g ∧ g.num = q.recs ∧ g.cause = 0x10)
              ∧ ((t.unit n).closing = if s.get (R.AQ_DEPTH_POST n) = 0 then some false else none)))
      ∧ (8 ≤ q.waits.length → exec (.aqTakeSample n) s =
          .next (s.put (R.AQ_STAT_STALL n) (min (s.get (R.AQ_STAT_STALL n) + 1) (2 ^ 8 - 1)))))
    ∧ (∀ a w rest, q.waits = (a, w) :: rest → ∃ t, exec (.aqRecordWrite n) s = .next t ∧ t.ramAt a = w ∧ (∀ b, b ≠ a → t.ramAt b = s.ramAt b)
        ∧ t.mram = s.mram ∧ t.unit n = { q with waits := rest } ∧ t.regs = s.regs ∧ t.core = s.core)
    ∧ (∀ trunc g, q.closing = some trunc → q.trig = some g → q.waits = [] → s.get (R.AQ_CFG_AUTO n) = 0 → ∃ t, exec (.aqCaptureDone n) s = .next t
        ∧ t.get (R.AQ_STAT_STATE n) = 3 ∧ t.reg (RW.AQ_TDT n) = g.tdt ∧ t.get (R.AQ_STAT_SEQ n) = (s.get (R.AQ_STAT_SEQ n) + (!trunc).toNat) % 2 ^ 16
        ∧ t.unit n = { q with closing := none, trig := none, evs := (t.unit n).evs } ∧ s.memSame t)
    ∧ (s.masterChip = false → exec (.globalArmGo m) s = .next (s.put R.AQ_MCSTAT_GREJ 1))
    ∧ (s.masterChip = true → ∃ t x, exec (.globalArmGo m) s = .next t ∧ t.sent = x :: s.sent ∧ x.kind = .globalArm ∧ x.words = [s.reg RW.AQ_GARMAT]
        ∧ ((s.time.dtime - (s.reg RW.AQ_GARMAT + 1)).toInt < 0 → t.acq = { s.acq with garm := some (s.reg RW.AQ_GARMAT) } ∧ t.regs = s.regs ∧ s.memSame t)
        ∧ (0 ≤ (s.time.dtime - (s.reg RW.AQ_GARMAT + 1)).toInt → t.get R.AQ_MCSTAT_LATEARM = 1 ∧ t.acq.garm = none))
    ∧ (∀ v : Word, s.multiChip = true →
        ((s.time.dtime - (v + 1)).toInt < 0 → exec (.globalArmReceived v) s = .next { s with acq := { s.acq with garm := some v } })
        ∧ (0 ≤ (s.time.dtime - (v + 1)).toInt → ∃ t, exec (.globalArmReceived v) s = .next t ∧ t.get R.AQ_MCSTAT_LATEARM = 1 ∧ t.acq.garm = none))
    ∧ (∀ v : Word, s.multiChip = false → exec (.globalArmReceived v) s = .next s)
    ∧ (s.acq.garm ≠ some s.time.dtime → exec .globalArmTime s = .next s)
    ∧ (s.acq.garm = some s.time.dtime → (∀ k : Engine, k ≠ n → s.get (R.AQ_MC_GRP k) = 0) →
        (s.get (R.AQ_MC_GRP n) = 0 → exec .globalArmTime s = .next { s with acq := { s.acq with garm := none } })
        ∧ (s.get (R.AQ_MC_GRP n) = 1 → s.get (R.AQ_CFG_EN n) = 1 → (st = 0 ∨ st = 3) → ∃ t u, exec (.aqArm m n) s = .next t ∧ exec .globalArmTime s = .next u
            ∧ u.unit n = t.unit n ∧ u.regs = t.regs ∧ u.acq.garm = none ∧ s.memSame u))
    ∧ exec .firePulseEnd s = .next (if s.acq.firing = true ∧ 240 ≤ (s.time.dtime - s.acq.fireAt).toNat then { s with acq := { s.acq with firing := false } } else s)
    ∧ exec .fireEdge s = .next { s with acq := { s.acq with aq := s.acq.aq.map (fun x => { x with fire := true }) } }
    ∧ (∀ (p : Chip) (dt : Word), s.multiChip = true → (s.get R.AQ_FIRESTAT_VALID).testBit p.val = false → ∃ t, exec (.fireMessage p dt) s = .next t
        ∧ t.get R.AQ_FIRESTAT_VALID = s.get R.AQ_FIRESTAT_VALID ||| 2 ^ p.val ∧ t.reg (RW.AQ_FIRET p.val) = dt ∧ s.memSame t ∧ t.core = s.core
        ∧ s.regsBut t [RW.AQ_FIRESTAT, RW.AQ_FIRET p.val])

/-! ## The drive supervisor, the reserve stack and the shutdown -/

/-- The sixteen services (R315, R572, R573, R575, R577, R578, R587, R596, R597): each, called when it is accepted, is in flight with its
answer and has its effect; of a call that the catalogue does not accept the answer is REFUSED with its reason; a call waits while another
has its answer and has not completed (log entry 73, DESIGN CHOICE), and one more while sixteen wait is BUSY (R316). -/
def Obligations.SupervisorServices : Prop :=
  ∀ (s : State) (i : StrandId) (x : FmtX) (c : Course), Memory.wf s = true →
    let y := s.supc c
    let st := s.svst c
    let ra := ((s.strand i).rd x.ra).toNat
    let rb := (s.strand i).rd x.rb
    let ok : Word → OpStage := fun v => .ended v 0 0
    s.arr c = 0 → y.take = none → s.get R.RSV_SDSTAT_STEP = 0 →
    (ra = c.val →
      (s.calls i x 1 → st = 0 → s.supEn c = true → rb = 1 → ∃ t, exec (.takeCourse i x) s = .next t ∧ s.called t i x 1 .begun 1
          ∧ (t.supc c).take = some ({ caller := .op s.core.nextOp, num := s.sup.calls }, 2) ∧ t.svst c = st)
      ∧ (s.calls i x 0x10 → st = 0 → s.supEn c = true → s.anyLatched c = false → rb.toNat < 2 → s.get (R.GDRV_DOM_STAT_RDY (domOf c)) = 1 →
          ∃ t, exec (.tuneMotor i x) s = .next t ∧ s.called t i x 0x10 (ok 0) 2 ∧ t.svst c = 1 ∧ (t.supc c).step = 1)
      ∧ (s.calls i x 0x11 → st = 0 → s.supEn c = true → s.anyLatched c = false → y.fld 0 6 1 = 0 → (y.word 6).toInt ≤ rb.toInt →
          rb.toInt ≤ (y.word 7).toInt → ∃ t, exec (.moveTo i x) s = .next t ∧ s.called t i x 0x11 (ok ((y.motions + 1).zeroExtend 48)) 2
          ∧ t.svst c = 2 ∧ (t.supc c).motions = y.motions + 1 ∧ ∃ m, (t.supc c).mot = some m ∧ m.svc = 0x11 ∧ m.arg = rb)
      ∧ (s.calls i x 0x12 → st = 0 → s.supEn c = true → s.anyLatched c = false → y.fld 0 6 1 = 0 → rb.toInt.natAbs ≤ y.fld 13 24 16 * 2 ^ 24 →
          ∃ t, exec (.moveVel i x) s = .next t ∧ s.called t i x 0x12 (ok ((y.motions + 1).zeroExtend 48)) 2
          ∧ t.svst c = 2 ∧ (t.supc c).motions = y.motions + 1 ∧ ∃ m, (t.supc c).mot = some m ∧ m.svc = 0x12 ∧ m.arg = rb)
      ∧ (s.calls i x 0x13 → (st = 2 ∨ st = 3) → ∃ t, exec (.stopMotion i x) s = .next t ∧ s.called t i x 0x13 (ok 0) 3 ∧ t.svst c = 4
          ∧ (t.supc c).mot = y.mot.map (fun m => { m with cause := 2 }))
      ∧ (s.calls i x 0x14 → st = 0 → s.supEn c = true → s.anyLatched c = false → rb = 1 → ∃ t, exec (.holdCapo i x) s = .next t
          ∧ s.called t i x 0x14 (ok 0) 3 ∧ t.svst c = 5 ∧ t.get (R.PWM_OUT_OUTEN c) = 2 ∧ t.get (R.PWM_OUT_CAPO c) = 1)
      ∧ (s.calls i x 0x15 → st = 5 → ∃ t, exec (.releaseHold i x) s = .next t ∧ s.called t i x 0x15 (ok 0) 3 ∧ t.svst c = 0
          ∧ t.get (R.PWM_OUT_OUTEN c) = 0 ∧ t.get (R.PWM_OUT_CAPO c) = 0)
      ∧ (s.calls i x 0x16 → y.fld 10 0 24 = 0 → ∃ t, exec (.profclr i x) s = .next t ∧ s.called t i x 0x16 (ok 0) 3
          ∧ (t.supc c).prof = List.replicate y.nbin 0xFFFF)
      ∧ (s.calls i x 0x17 → 0 ≤ rb.toInt → ∃ t, exec (.limitCurrent i x) s = .next t ∧ s.called t i x 0x17 (ok 0) 3 ∧ (t.supc c).limit = rb)
      ∧ (s.calls i x 0x18 → st = 8 → (∀ k : Fin 4, s.stage.ntcCond[k] = false) → ∃ t, exec (.clearFault i x 0) s = .next t
          ∧ s.called t i x 0x18 (ok 0) 3 ∧ t.svst c = 0 ∧ t.get (R.PROTC_FSTAT_SRC c) = 0)
      ∧ (s.calls i x 0x18 → st ≠ 8 → ∀ p, ∃ t, exec (.clearFault i x p) s = .next t ∧ s.called t i x 0x18 (.ended 3 1 0) 4 ∧ t.svst c = st)
      ∧ (s.calls i x 0x20 → rb.toNat < 16 → ∃ t, exec (.parget i x) s = .next t ∧ s.called t i x 0x20 (ok (y.word rb.toNat)) 3)
      ∧ (s.calls i x 0x20 → 16 ≤ rb.toNat → ∃ t, exec (.parget i x) s = .next t ∧ s.called t i x 0x20 (.ended 5 1 0) 4)
      ∧ (s.calls i x 0x22 → ∀ k : Fin 8, rb.toNat = k.val → ∃ t, exec (.mrecget i x) s = .next t ∧ s.called t i x 0x22 (ok y.mrec[k]) 3))
    ∧ (∀ k : Fin 16, s.calls i x 0x21 → st = 0 → ra = c.val + 16 * k.val → ∃ t, exec (.parset i x) s = .next t ∧ s.called t i x 0x21 (ok 0) 3
        ∧ (t.supc c).sec = y.sec.set k rb)
    ∧ (s.calls i x 3 → ra < 2 ^ 12 → ra ≠ 3 → 1 ≤ s.sup.calls → let p := (s.sup.calls - 1) % 8
        s.get (R.SYS_SVCALL_SVC p) = ra → s.get (R.SYS_SVCALL_OUTCOME p) ≠ 0 → ∃ t, exec (.queryState i x) s = .next t
          ∧ s.called t i x 3 (ok (BitVec.ofNat 48 (ra * 2 ^ 4 + s.get (R.SYS_SVCALL_COURSE p) * 2 ^ 16 + s.get (R.SYS_SVCALL_OUTCOME p) * 2 ^ 19
              + s.get (R.SYS_SVCALL_TIME p) % 2 ^ 22 * 2 ^ 22))) 3)
    ∧ (s.calls i x 0x23 → (∀ d, s.svst d = 0 ∨ s.svst d = 9) → s.sup.table = 0 → ∃ t, exec (.polreload i x) s = .next t ∧ s.called t i x 0x23 (ok 0) 3
        ∧ t.get R.SYS_SVGLB_POLSRC = 0 ∧ t.sup.hdr = supHdrDefault ∧ ∀ d, (t.supc d).sec = supSecDefault)
    ∧ (∀ d : Course, ra = d.val → s.arr d = 2 → (s.supc d).take = none → s.calls i x 2 → ∃ t, exec (.giveCourse i x) s = .next t
        ∧ s.called t i x 2 .begun 1 ∧ (t.supc d).take = some ({ caller := .op s.core.nextOp, num := s.sup.calls }, 0) ∧ t.svst d = s.svst d)
    ∧ (s.readyLong i [x.rd, x.ra, x.rb] → x.rsv = 0 → x.imm = 0x13 → isSup i = false → 16 ≤ s.svcPending →
        exec (.stopMotion i x) s = .next (s.inFlight i (.svc x.rd 0x13 ((s.strand i).rd x.ra) rb) (.ended 0 2 0)))
    ∧ (s.readyLong i [x.rd, x.ra, x.rb] → x.rsv = 0 → x.imm = 0x13 → isSup i = false → s.svcPending < 16 → s.svcBusy = true →
        exec (.stopMotion i x) s = .next (s.inFlight i (.svc x.rd 0x13 ((s.strand i).rd x.ra) rb) .waiting))

/-- What happens to a course (R572, R573, R579, R580, R582, R584, R587 to R593): a TAKE or GIVE takes effect at a boundary or with the
course stopped, a tuning step ends no sooner than its time, a motion ends, a stall is decided and retried, the limit is derated each DERMS,
and pinch is judged. -/
def Obligations.SupervisorEvents : Prop :=
  ∀ (s : State) (c : Course), Memory.wf s = true →
    let y := s.supc c
    let st := s.svst c
    let now := y.takeAt ≠ s.time.dtime ∧ (s.get (R.PWM_STAT_RUN c) = 0 ∨ (s.pwm c).bndAt = some s.time.dtime)
    let past := fun n : Nat => n ≤ (s.time.dtime - y.since).toNat
    (¬ now → exec (.arrangementChange c) s = .next s)
    ∧ (∀ k : SupCall, now → y.take = some (k, 2) → ∃ t, exec (.arrangementChange c) s = .next t ∧ t.arr c = 2 ∧ t.svst c = 9 ∧ (t.supc c).mot = none
        ∧ (t.supc c).take = none ∧ s.memSame t ∧ (∀ id, k.caller = .op id → ∀ o ∈ t.core.ops, o.id = id → o.stage = .ended 0 0 0))
    ∧ (∀ k : SupCall, now → y.take = some (k, 1) → ∃ t, exec (.arrangementChange c) s = .next t ∧ t.arr c = 1 ∧ (t.supc c).mot = none
        ∧ (t.supc c).take = none ∧ s.memSame t)
    ∧ (∀ k : SupCall, now → y.take = some (k, 0) → st ≠ 8 → ∃ t, exec (.arrangementChange c) s = .next t ∧ t.arr c = 0 ∧ (t.supc c).mot = none
        ∧ (t.supc c).take = none ∧ s.memSame t ∧ (s.get (R.PWM_OUT_CAPO c) = 0 → t.svst c = 0 ∧ t.get (R.PWM_OUT_OUTEN c) = 0)
        ∧ (s.get (R.PWM_OUT_CAPO c) ≠ 0 → t.svst c = 5 ∧ t.get (R.PWM_OUT_CAPO c) = s.get (R.PWM_OUT_CAPO c)))
    ∧ (y.step ≠ 0 → y.saving = false → st = 1 →
        (∀ v v2, ∃ t, exec (.tuningStepEnd c false v v2) s = .next t ∧ t.svst c = 0 ∧ (t.supc c).mot = none ∧ s.memSame t
          ∧ (y.mot ≠ none → t.get (R.SYS_SVST_CAUSE c) = 0xB))
        ∧ (∀ v v2, y.step = 2 → 0 < v.toInt → ¬ past 9600000 → exec (.tuningStepEnd c true v v2) s = .next s)
        ∧ (∀ v v2, y.step = 2 → 0 < v.toInt → past 9600000 → ∃ t, exec (.tuningStepEnd c true v v2) s = .next t ∧ (t.supc c).tune = y.tune.set 0 v
          ∧ (t.supc c).step = 3 ∧ t.regs = s.regs ∧ s.memSame t ∧ t.core = s.core))
    ∧ (∀ (m : SupMotion) (cause : BitVec 4), y.mot = some m → y.learnOn = false →
        (st = 4 → ∃ t, exec (.motionEnd c cause) s = .next t ∧ t.svst c = 0 ∧ t.get (R.SYS_SVST_CAUSE c) = m.cause.toNat ∧ (t.supc c).mot = none
          ∧ t.get (R.PWM_OUT_OUTEN c) = 0 ∧ t.get (R.PWM_STAT_RUN c) = 0 ∧ s.memSame t)
        ∧ (st = 3 → m.svc = 0x11 → ∃ t, exec (.motionEnd c 1) s = .next t ∧ t.svst c = 0 ∧ t.get (R.SYS_SVST_CAUSE c) = 1
          ∧ (t.supc c).mot = none ∧ t.get (R.PWM_OUT_OUTEN c) = 0 ∧ t.get (R.PWM_STAT_RUN c) = 0 ∧ s.memSame t))
    ∧ (¬ past (y.fld 4 16 16 * 240000) → exec (.stallDecision c) s = .next s) ∧ (¬ past 120000000 → exec (.stallRetry c) s = .next s)
    ∧ (∀ m : SupMotion, y.mot = some m → st = 2 → past (y.fld 4 16 16 * 240000) → ∃ t, exec (.stallDecision c) s = .next t ∧ s.memSame t
        ∧ (s.nearEnd c m.up = true → t.svst c = 4 ∧ (t.supc c).mot = some { m with cause := 4 })
        ∧ (s.nearEnd c m.up = false → t.svst c = 6 ∧ t.get (R.PWM_OUT_OUTEN c) = (if y.fld 0 11 1 = 1 then 2 else 1)))
    ∧ (∀ m : SupMotion, y.mot = some m → st = 6 → past 120000000 → ∃ t, exec (.stallRetry c) s = .next t ∧ s.memSame t
        ∧ (m.cause = 0 → m.retries < y.fld 4 40 4 → s.get R.RSV_SDSTAT_STEP = 0 → s.supEn c = true →
            t.svst c = 2 ∧ (t.supc c).mot = some { m with retries := m.retries + 1 })
        ∧ (y.fld 4 40 4 ≤ m.retries → t.svst c = 0 ∧ t.get (R.SYS_SVST_CAUSE c) = 3 ∧ (t.supc c).mot = none))
    ∧ (∀ d, y.derAt = some d → (s.time.dtime - d).toNat < s.hdrFld 3 16 8 * 240000 → exec (.deratingUpdate c) s = .next s)
    ∧ (s.supHeld c = true → s.supEn c = true → s.watching = true → (∀ d, y.derAt = some d → s.hdrFld 3 16 8 * 240000 ≤ (s.time.dtime - d).toNat) →
        ∃ t, exec (.deratingUpdate c) s = .next t ∧ s.memSame t
        ∧ t.get (R.PROTC_OC_OCEN c) = 1 ∧ t.get (R.PROTC_OC_POS c) = 1 ∧ t.get (R.PROTC_OC_NEG c) = 1 ∧ t.get (R.PROTC_REACT_OC c) = 1)
    ∧ (∀ (m : SupMotion) (ma ia : Word), let p := (s.reg (RW.POS_CNT c)).toInt
        y.mot = some m → s.supHeld c = true → s.supEn c = true → y.pinchOn = true → y.learnOn = false → (m.up = true ↔ y.fld 0 10 1 ≠ 1) →
        (y.word 8).toInt ≤ p → p ≤ (y.word 9).toInt → st = 2 → let b := y.binOf p
        let a := if s.get (R.POS_TINT_VALID c) = 1 then ia.toInt else 0
        ∃ t, exec (.pinchJudgment c ma ia) s = .next t ∧ s.memSame t
          ∧ (y.overThr b ma.toInt a = false → (t.supc c).pinch = 0 ∧ t.svst c = 2)
          ∧ (y.overThr b ma.toInt a = true → y.pinch + 1 < y.fld 5 16 4 → (t.supc c).pinch = y.pinch + 1 ∧ (t.supc c).pinched = true ∧ t.svst c = 2)
          ∧ (y.overThr b ma.toInt a = true → y.fld 5 16 4 ≤ y.pinch + 1 → t.svst c = 7 ∧ t.get (R.PWM_OUT_OUTEN c) = 2 ∧ t.get (R.PWM_OUT_CAPO c) = 1
              ∧ (t.supc c).mot = some { m with cause := 5 }))

/-- The shutdown sequence and the reserve stack (R581, R608, R612, R614, R616, R617): the sense-wire check begins and settles; VBATUV
starts S1, whose next beat begins S2, or ends them, and in the hold before a reserve reset begins S4 again; parking ends, by its limit too;
the reserve time and the stack's end; CONNECT; that hold. What comes about at a time does nothing before it. -/
def Obligations.ReserveAndShutdown : Prop :=
  ∀ s : State, Memory.wf s = true →
    let step := s.get R.RSV_SDSTAT_STEP
    let code4 := (List.range (s.get R.RSV_CFG_NCELL + 2)).map (· + 4) ++ [8]
    let past := fun (from' : Word) (n : Nat) => 0 ≤ (s.time.dtime - (from' + BitVec.ofNat 48 n)).toInt
    let good : State := { s.put R.PWR_STAT_VBATUV 0 with rsv := { s.rsv with vbAt := s.time.dtime } }
    let supply := s.rsv.connect = false ∧ ∀ d, s.rsv.connEnd = some d → past d 960000
    let held := fun t : State => t.pwr.mode = .srrHold ∧ t.get R.RSV_SDSTAT_STEP = 6 ∧ t.get R.RSV_SDSTAT_RESULT = 2 ∧ t.core.issueOn = false
      ∧ t.rsv.holdAt = s.time.dtime ∧ s.memSame t ∧ ∀ h, (t.hb h).outH = false ∧ (t.hb h).outL = false
    (∀ m : Master, s.rsv.check = none → s.get R.RSV_CFG_EN = 1 → s.get R.ICONV_IC1CFG_EN = 1 → s.pwr.mode = .run → ∃ t, exec (.senseWireCheckGo m) s = .next t
        ∧ t.get R.RSV_OWRES_BUSY = 1 ∧ t.get R.RSV_OWRES_VALID = 0 ∧ s.memSame t ∧ t.core = s.core
        ∧ (s.iconv.pass = [] → t.rsv.check = some { step := .base, since := s.time.dtime } ∧ t.iconv.pass = code4)
        ∧ (s.iconv.pass ≠ [] → t.rsv.check = some { step := .wait } ∧ t.iconv = s.iconv))
    ∧ (∀ c k, s.rsv.check = some c → c.step = .settle k →
        let due := past c.since (s.get R.RSV_OWCFG_OWSET * 240000)
        (¬ due → exec .senseWireSettleEnd s = .next s)
        ∧ (due → ∃ t, exec .senseWireSettleEnd s = .next t ∧ t.rsv = { s.rsv with check := some { c with step := .conv k, since := s.time.dtime } }
          ∧ t.iconv.pass = s.iconv.pass ∧ t.iconv.input = s.iconv.pass.head? ∧ t.iconv.due = s.iconv.due ∧ s.regsBut t [RW.ICONV_STAT]
          ∧ s.memSame t ∧ t.core = s.core))
    ∧ (s.pwr.mode = .run → s.pwr.boot = .user → step = 0 → s.get R.RST_STRAP_ROLE = 0 → s.get R.PWR_STAT_VBATUV = 0 → ∃ t, exec .vbatuvSet s = .next t
        ∧ t.get R.PWR_STAT_VBATUV = 1 ∧ t.get R.RSV_SDSTAT_STEP = 1 ∧ t.reg RW.RSV_SDTIME = s.time.dtime ∧ t.rsv.connect = false
        ∧ t.rsv.check = none ∧ s.memSame t)
    ∧ (step = 1 → s.shutdownS2.get R.RSV_SDSTAT_STEP = 2 ∧ ∀ c, s.arr c ≠ 2 → s.svst c = 3 → s.shutdownS2.svst c = 4)
    ∧ (s.pwr.mode = .srrHold → s.get R.RST_STRAP_ROLE = 0 → s.get R.PWR_STAT_VBATUV = 0 → s.get R.RSV_SDCFG_S4DOZE = 0 → ∃ t,
        exec .vbatuvSet s = .next t ∧ t.pwr.mode = .run ∧ t.get R.RSV_SDSTAT_STEP = 4 ∧ t.get R.PWR_STAT_VBATUV = 1 ∧ t.core.issueOn = true
          ∧ s.memSame t)
    ∧ (s.pwr.mode ≠ .off → s.get R.RST_STRAP_ROLE = 0 → s.get R.PWR_STAT_VBATUV = 1 →
        ((step = 1 ∨ step = 2) → exec .vbatuvClear s = .next ((good.put R.RSV_SDSTAT_STEP 0).put R.RSV_SDSTAT_RESULT 1))
        ∧ (step ≠ 1 → step ≠ 2 → (step = 4 → ¬ supply) → exec .vbatuvClear s = .next good)
        ∧ (step = 4 → supply → ∃ t, exec .vbatuvClear s = .next t ∧ t.get R.PWR_STAT_VBATUV = 0 ∧ held t))
    ∧ (step = 2 → (∀ c, s.running c = false ∧ (s.arr c ≠ 2 → s.svst c ≠ 4)) → ∃ t, exec .shutdownParkEnd s = .next t ∧ t.get R.RSV_SDSTAT_STEP = 3
        ∧ t.rsv.s3At = s.time.dtime ∧ t.rsv.movedAt = s.time.dtime ∧ t.rsv.s3Pos = s.positions ∧ s.memSame t ∧ t.ledg.open' = false)
    ∧ ((step ≠ 2 ∨ ∃ c, s.running c = true) → exec .shutdownParkEnd s = .next s)
    ∧ (¬ past (s.reg RW.RSV_SDTIME + 1) (s.get R.RSV_SDCFG_S2MAX * 240000) → exec .shutdownParkLimit s = .next s)
    ∧ (∀ c : Course, step = 2 → s.running c = true → past (s.reg RW.RSV_SDTIME + 1) (s.get R.RSV_SDCFG_S2MAX * 240000) →
        ∃ t, exec .shutdownParkLimit s = .next t ∧ t.get R.RSV_SDSTAT_FORCED = 1 ∧ t.get R.RSV_SDSTAT_STEP = 2 ∧ t.get (R.PWM_OUT_OUTEN c) = 1
          ∧ (t.pwm c).stopReq = true ∧ s.memSame t)
    ∧ (step = 4 → s.get R.RSV_SDCFG_S5 = 0 → s.pwr.mode = .run → ∀ result : Nat,
        let ends := fun t : State => t.get R.RSV_SDSTAT_RESULT = result ∧ t.get R.RSV_SDSTAT_STEP = 5 ∧ t.pwr.entry = some .e1 ∧ t.pwr.toRest = true
          ∧ t.pwr.mode = .doze ∧ t.core.issueOn = false ∧ t.rsv.connect = false ∧ s.memSame t
        (¬ past s.rsv.s4At (s.get R.RSV_SDCFG_TRSV * 240000000) → exec .reserveTimeExpiry s = .next s)
        ∧ (result = 4 → past s.rsv.s4At (s.get R.RSV_SDCFG_TRSV * 240000000) →
          ∃ t, exec .reserveTimeExpiry s = .next t ∧ ends t)
        ∧ (result = 3 → s.rcrsStopped = true → ∃ t, exec .stackBelowVend s = .next t ∧ ends t)
        ∧ (s.rcrsStopped = false → exec .stackBelowVend s = .next { s with rsv := { s.rsv with vend := true } }))
    ∧ (∀ m : Master, (step ≠ 4 → exec (.reserveConnect m) s = .next (s.put R.RSV_STAT_CFGREJ 1))
        ∧ (step = 4 → ∃ t, exec (.reserveConnect m) s = .next t ∧ t.get R.RSV_SDCTL_CONN = 1 ∧ t.rsv = { s.rsv with connect := true } ∧ s.memSame t
          ∧ s.regsBut t [RW.RSV_SDCTL] ∧ t.core = s.core))
    ∧ (¬ past s.rsv.movedAt 2400000 → exec .connectRelease s = .next s)
    ∧ (step = 4 → s.rsv.connect = true → s.rcrsStopped = true → past s.rsv.movedAt 2400000 → s.get R.RSV_SDCTL_CONN = 0 → s.get R.RSV_SDCFG_S4DOZE = 0 → s.rsv.vend = false →
        exec .connectRelease s = .next { s with rsv := { s.rsv with connect := false, connEnd := some s.time.dtime } })
    ∧ (step = 4 → supply → s.rsv.connEnd ≠ none → s.get R.PWR_STAT_VBATUV = 0 → ∃ t, exec .connectDelayExpiry s = .next t ∧ held t)
    ∧ (¬ supply → exec .connectDelayExpiry s = .next s)

/-! ## The flash port and the buses -/

/-- The flash port (R189, R646 to R657, R318): the bytes of a word of a fill enter its line, most significant first, and end the load that
waits for it; a miss whose time has run out is noted, and faults its strand at the end of the beat; INV; the lock is requested, granted in
the beat after a fill has ended, and released; a software frame runs and ends. -/
def Obligations.FlashAndXip : Prop :=
  ∀ s : State, Memory.wf s = true → s.get R.RST_STRAP_ROLE = 0 →
    let f := s.flash
    let word := fun w : FlashBytes => w[0] ++ w[1] ++ w[2] ++ w[3] ++ w[4] ++ w[5]
    (∀ (w : FlashBytes) (x : Fill), f.fill = some x → f.misses = [] → x.stale = false → ∃ t, exec (.xipWordDelivered w) s = .next t
        ∧ t.flash.hit x.next = some (word w) ∧ t.flash.fill = (if x.last ≤ x.next then none else some { x with next := x.next + 1 }) ∧ t.regs = s.regs
        ∧ s.memSame t ∧ t.core = s.core ∧ (t.now.fillEnd = true ↔ s.now.fillEnd = true ∨ x.last ≤ x.next))
    ∧ (∀ (w : FlashBytes) (x : Fill) (i : StrandId) (ea : BitVec 24) (l : FmtM), f.fill = some x → f.misses = [(i, x.next)] →
        (s.strand i).xipWait = some (ea, l) → ∃ t, exec (.xipWordDelivered w) s = .next t ∧ (t.strand i).xipWait = none ∧ t.flash.misses = []
          ∧ (l.rt ≠ 0 → (t.strand i).rd l.rt = word w) ∧ (t.strand i).pc = (s.strand i).pc + 1 ∧ s.memSame t)
    ∧ (∀ i : StrandId,
        let late := s.get R.XSP_XTO_TO ≠ 0 ∧ ∃ d, (i, d) ∈ f.missAt ∧ s.get R.XSP_XTO_TO * 240 ≤ (s.time.dtime - d).toNat
        (late → exec (.xipMissTimeout i) s = .next { s with now := { s.now with xto := i :: s.now.xto } })
        ∧ (¬ late → exec (.xipMissTimeout i) s = .next s))
    ∧ (∀ (i : StrandId) (ea : BitVec 24) (l : FmtM), (s.strand i).xipWait = some (ea, l) → (s.strand i).state = .runnable → s.core.esc = none →
        let t := s.xipFault i
        (t.strand i).state = .faulted ∧ (t.strand i).xipWait = none
          ∧ (t.strand i).flt = { cause := 5, ipc := (s.strand i).pc, ea := ea } ∧ (t.strand i).w = (s.strand i).w ∧ s.memSame t
          ∧ t.flash.misses = f.misses.filter (fun p => p.1 != i))
    ∧ (∀ m : Master, ∃ t, exec (.xspInv m) s = .next t ∧ (∀ a, t.flash.hit a = none) ∧ t.flash.misses = f.misses ∧ t.regs = s.regs ∧ s.memSame t
        ∧ t.core = s.core ∧ (∀ x, t.flash.fill = some x → x.stale = true))
    ∧ (∀ m : Master, s.get R.XSP_LOCK_HELD = 0 → f.lockReq = false → ∃ t, exec (.lockRequest m) s = .next t ∧ s.memSame t
        ∧ (f.fill = none → t.get R.XSP_LOCK_HELD = 1 ∧ t.get R.XSP_LOCK_GRANT = 1 ∧ t.flash.lockReq = false)
        ∧ (f.fill ≠ none → t.regs = s.regs ∧ t.flash.lockReq = true))
    ∧ ((f.lockReq = false ∨ f.fill ≠ none ∨ s.now.fillEnd = true) → exec .lockGrant s = .next s)
    ∧ (f.lockReq = true → f.fill = none → s.now.fillEnd = false → ∃ t, exec .lockGrant s = .next t ∧ t.get R.XSP_LOCK_HELD = 1 ∧ t.get R.XSP_LOCK_GRANT = 1
        ∧ t.flash = { f with lockReq := false, wrote := false } ∧ s.memSame t ∧ s.regsBut t [RW.XSP_LOCK])
    ∧ (∀ m : Master, s.get R.XSP_LOCK_HELD = 1 →
        (s.get R.XSP_STAT_SFBUSY = 1 → exec (.lockRelease m) s = .next { s with flash := { f with lockRel := true } })
        ∧ (s.get R.XSP_STAT_SFBUSY = 0 → ∃ t, exec (.lockRelease m) s = .next t ∧ t.get R.XSP_LOCK_HELD = 0 ∧ s.memSame t ∧ t.core = s.core
          ∧ (f.wrote = true → ∀ a, f.misses = [] → t.flash.hit a = none) ∧ (f.wrote = false → f.misses = [] → t.flash = { f with lockRel := false })))
    ∧ (∀ m : Master, (s.get R.XSP_LOCK_HELD = 0 → exec (.softwareFrameGo m) s = .next (s.put R.XSP_STAT_SFREJ 1))
        ∧ (s.get R.XSP_LOCK_HELD = 1 → s.get R.XSP_STAT_SFBUSY = 1 → exec (.softwareFrameGo m) s = .next (s.put R.XSP_STAT_SFREJ 2))
        ∧ (s.get R.XSP_LOCK_HELD = 1 → s.get R.XSP_STAT_SFBUSY = 0 → s.get R.XSP_SFCFG_DIR = 1 → s.get R.XSP_SFCFG_SEL < 0x40 →
            let base := s.get R.XSP_SFBUF_BUF
            let len := s.get R.XSP_SFBUF_LEN
            0x100000 ≤ base → base + (len + 5) / 6 ≤ 0x200000 → (∀ k < (len + 5) / 6, spGet (fun _ => 0) s.mem.ramErr (base + k) = 0) →
            ∃ t, exec (.softwareFrameGo m) s = .next t ∧ t.get R.XSP_STAT_SFBUSY = 1
              ∧ t.flash.frame = some (true, base, len) ∧ s.memSame t ∧ s.regsBut t [RW.XSP_STAT] ∧ t.sent = { port := .flash, kind := .flashFrame, words :=
                [s.reg RW.XSP_SFCFG, s.reg RW.XSP_SFCMD, BitVec.ofNat 48 len] ++ (List.range ((len + 5) / 6)).map (fun k => s.ramAt (base + k)) } :: s.sent))
    ∧ (∀ (data : List (BitVec 8)) (base len : Nat), f.frame = some (false, base, len) → data.length = len → f.lockRel = false → ∃ t,
        exec (.softwareFrameEnd data) s = .next t ∧ t.get R.XSP_STAT_SFBUSY = 0 ∧ t.get R.XSP_STAT_SFDONE = 1 ∧ t.flash = { f with frame := none }
          ∧ t.mram = s.mram ∧ (∀ k < (len + 5) / 6, t.ramAt (base + k) = (packBytes ((len + 5) / 6) data).getD k 0)
          ∧ ∀ a, (a < base ∨ base + (len + 5) / 6 ≤ a) → t.ramAt a = s.ramAt a)

/-- CAN and LIN (R89, R662, R665 to R672, R674, R678, R680 to R682, R690; the counts of R674 by ISO 11898-1, log entry 20, PRESUMED): the
start and the end of a transmission, a received frame and its record, errors, bus-off and recovery, the wake transmission; LIN frames,
headers and the wake pulse. -/
def Obligations.CanAndLin : Prop :=
  ∀ s : State, Memory.wf s = true → s.get R.RST_STRAP_ROLE = 0 → s.pwr.mode = .run →
    let open' := ∀ a, s.fenceOwner a = none
    (∀ (k : Fin 8) (x : CanTx), s.canMode = 2 → s.get R.CAN_STAT_STATE ≠ 2 → s.canNext = some k → s.net.can[k] = some x →
      (∀ j : Fin 8, ∀ y, s.net.can[j] = some y → y.sof = none) → x.wupf = false →
      let t : State := { s with
        net := { s.net with can := s.net.can.set k (some { x with sof := some s.time.dtime, nl := BitVec.ofNat 64 (s.time.nt.toNat / 2 ^ 24) }) }
        sent := { port := .can, kind := x.kind, words := x.desc } :: s.sent }
      (x.kind ≠ .control → exec (.canTransmissionStart k) s = .next t)
      ∧ (x.kind = .control → exec (.canTransmissionStart k) s =
          .next (if descByte x.desc 0 = 1 then { t with pwr := { s.pwr with rvAt := some s.time.dtime } } else t)))
    ∧ (∀ (k : Fin 8) (x : CanTx) (d : Word), s.canMode = 2 → s.net.can[k] = some x → x.sof = some d → x.wupf = false →
        x.kind = .txBuffer → s.net.engine = [] → s.pwr.rvTx = 0 →
        (∃ t, exec (.canTxEnd k true) s = .next t ∧ t.net = { s.net with can := s.net.can.set k none } ∧ t.get (R.CAN_TB_RES_RESULT k) = 1
          ∧ t.get (R.CAN_TB_RES_TS k) = d.toNat % 2 ^ 40 ∧ t.get R.CAN_STAT_TEC = s.get R.CAN_STAT_TEC - 1 ∧ s.memSame t
          ∧ s.regsBut t [RW.CAN_TB_RES k, RW.CAN_STAT])
        ∧ (getBits (x.desc.getD 0 0) 41 1 = 0 → exec (.canTxEnd k false) s =
            .next { s with net := { s.net with can := s.net.can.set k (some { x with sof := none }) } })
        ∧ (∀ m : Master, exec (.canTxAbort m (1 <<< k.val)) s = .next s))
    ∧ (∀ (k : Fin 8) (x : CanTx) (m : Master), s.net.can[k] = some x → x.sof = none → x.kind = .txBuffer → s.net.engine = [] →
        ∃ t, exec (.canTxAbort m (1 <<< k.val)) s = .next t
        ∧ t.net = { s.net with can := s.net.can.set k none } ∧ t.get (R.CAN_TB_RES_RESULT k) = 2 ∧ s.memSame t ∧ s.regsBut t [RW.CAN_TB_RES k])
    ∧ (∀ fr : CanFrame, s.canMode = 2 → s.ledgFrame fr = false → s.pnAccepts fr = false →
        let hits := fun n : Nat => s.get (R.CAN_FLT_EN n) = 1 ∧ (s.get (R.CAN_FLT_IDE n) = 1 ↔ fr.ide = true)
          ∧ (fr.id.toNat ^^^ s.get (R.CAN_FLT_ID n)) &&& s.get (R.CAN_FMSK_MASK n) = 0
        ((∀ n < 16, ¬ hits n) → exec (.canFrameValid fr) s = .next (let t := s.bump R.CAN_CNT_NOMATCH
            t.put R.CAN_STAT_REC (t.get R.CAN_STAT_REC - 1)))
        ∧ (∀ (n : Nat) (k : Fin 2), n < 16 → hits n → (∀ j < n, ¬ hits j) → s.get (R.CAN_FLT_RING n) = k.val →
            let base := s.get (R.CAN_RXR_BASE k)
            let len := s.get (R.CAN_RXR_LEN k)
            let a := base + 14 * ((s.reg (RW.CAN_RXWP k)).toNat % len)
            len ≠ 0 → 0x100000 ≤ base → base + 14 * len ≤ 0x200000 → open' → (s.get R.CAN_CTL_RXCHK).testBit k.val = false →
            ∃ t, exec (.canFrameValid fr) s = .next t ∧ t.reg (RW.CAN_RXWP k) = s.reg (RW.CAN_RXWP k) + 1
              ∧ t.ramAt a = BitVec.ofNat 48 (canWord0 fr + n * 2 ^ 37 + k.val * 2 ^ 41 + fr.esi.toNat * 2 ^ 42 + (s.net.canGap[k]).toNat * 2 ^ 43)
              ∧ t.ramAt (a + 1) = fr.sof ∧ t.ramAt (a + 2) = fr.crc.zeroExtend 48 ∧ (∀ j < 11, t.ramAt (a + 3 + j) = (packBytes 11 fr.data).getD j 0)
              ∧ (∀ b, (b < a ∨ a + 14 ≤ b) → t.ramAt b = s.ramAt b) ∧ t.mram = s.mram ∧ t.net.canGap[k] = false))
    ∧ (2 ≤ s.canMode → exec .canProtocolException s = .next (s.put R.CAN_STAT_PEXCNT (min (s.get R.CAN_STAT_PEXCNT + 1) (2 ^ R.CAN_STAT_PEXCNT.len - 1))))
    ∧ (∀ lec : BitVec 3, 2 ≤ s.canMode → s.get R.CAN_STAT_STATE = 0 → s.get R.CAN_STAT_REC < 128 → s.get R.CAN_STAT_TEC < 120 → ∃ t,
        exec (.canBusError lec true) s = .next t ∧ t.get R.CAN_STAT_LEC = lec.toNat ∧ t.get R.CAN_STAT_TEC = s.get R.CAN_STAT_TEC + 8
          ∧ t.get R.CAN_STAT_STATE = 0 ∧ s.regsBut t [RW.CAN_STAT] ∧ t.net = s.net ∧ s.memSame t ∧ t.core = s.core)
    ∧ (∀ lec : BitVec 3, 2 ≤ s.canMode → s.get R.CAN_STAT_STATE = 1 → 248 ≤ s.get R.CAN_STAT_TEC → s.get R.CAN_STAT_TEC < 256 →
        ∃ t, exec (.canBusError lec true) s = .next t ∧ t.get R.CAN_STAT_STATE = 2 ∧ s.memSame t ∧ (t.net.recover = true ↔ s.get R.CAN_CTL_AUTOREC ≠ 0))
    ∧ (s.get R.CAN_STAT_STATE = 2 → (∀ m : Master, exec (.canRecover m) s = .next { s with net := { s.net with recover := true } })
        ∧ (s.net.recover = true → ∃ t, exec .busOffRecoveryEnd s = .next t ∧ t.get R.CAN_STAT_STATE = 0 ∧ t.get R.CAN_STAT_TEC = 0
          ∧ t.get R.CAN_STAT_REC = 0 ∧ t.net = { s.net with recover := false } ∧ s.regsBut t [RW.CAN_STAT] ∧ s.memSame t))
    ∧ (∀ m : Master, s.canMode = 2 → (s.net.can[(7 : Fin 8)] ≠ none → exec (.canWakeTransmit m) s = .next (s.put R.CAN_STAT_CFGREJ 1))
        ∧ (let at' := s.get R.CAN_WAKETX_DESC
          s.net.can[(7 : Fin 8)] = none → (∀ k < 12, spGet (fun _ => 0) s.mem.ramErr (at' + k) = 0) → exec (.canWakeTransmit m) s =
            .next { s with net := { s.net with can := s.net.can.set (7 : Fin 8) (some
            { desc := (List.range (canDescLen (s.ramAt at'))).map (fun k => s.ramAt (at' + k)), wake := true, wupf := s.on R.CAN_WAKETX_WUPF }) } }))
    ∧ (∀ fr : LinFrame, s.linMode ≠ 0 → s.linRecords fr.id.toNat = true → fr.own = none → fr.err = 0 →
        let base := s.get R.LIN_RXR_BASE
        let len := s.get R.LIN_RXR_LEN
        let a := base + 4 * ((s.reg RW.LIN_RXWP).toNat % len)
        (len = 0 → exec (.linFrameReceived fr) s = .next (let t := s.bump R.CAN_CNT_RXOVR
          { t with net := { t.net with linGap := true, linCur := none } }))
        ∧ (len ≠ 0 → 0x100000 ≤ base → base + 4 * len ≤ 0x200000 → open' → ∃ t, exec (.linFrameReceived fr) s = .next t
          ∧ t.reg RW.LIN_RXWP = s.reg RW.LIN_RXWP + 1 ∧ t.ramAt (a + 1) = fr.brk
          ∧ t.ramAt a = BitVec.ofNat 48 (fr.id.toNat + fr.len.toNat * 2 ^ 6 + fr.cks.toNat * 2 ^ 10 + s.net.linGap.toNat * 2 ^ 16)
          ∧ (∀ j < 2, t.ramAt (a + 2 + j) = (packBytes 2 fr.data).getD j 0) ∧ (∀ b, (b < a ∨ a + 4 ≤ b) → t.ramAt b = s.ramAt b) ∧ t.mram = s.mram
          ∧ t.net.linGap = false ∧ t.net.linCur = none))
    ∧ (∀ id : BitVec 6, s.linMode = 2 →
        (∀ w rest, s.get R.LEDG_CFG_EN = 1 → id.toNat = s.get R.LEDG_CFG_LRPID → s.ledg.linOut = w :: rest → exec (.linHeaderReceived id) s =
            .next { s with ledg := { s.ledg with linOut := rest }, sent := { port := .lin, kind := .rcpReply, words := w } :: s.sent })
        ∧ (∀ w rest, s.get R.LEDG_CFG_EN = 0 → s.net.lin[(0 : Fin 4)] = some (w :: rest) → getBits w 0 6 = id.toNat → exec (.linHeaderReceived id) s =
            .next { s with net := { s.net with linCur := some 0 }, sent := { port := .lin, kind := .linResponse, words := w :: rest } :: s.sent }))
    ∧ (∀ m : Master, s.linMode ≠ 0 → exec (.linWake m) s = .next { s with
        sent := { port := .lin, kind := .linWake, words := [BitVec.ofNat 48 (250 + 250 * s.get R.LIN_CTL_WKLEN)] } :: s.sent })

/-! ## The ledger, the twin pair and the cascade -/

/-- The command ledger (R686 to R712): a request is a duplicate, stale, without credit, held while sealed, or accepted with its record and
reply; progress and end by the program; grants, returns and the anchoring of a window; the two frames of a time beacon, received and sent.
A frame of the ledger takes its transmit buffer when that is free, and else waits its turn, a reply of class 0 before all others. -/
def Obligations.LedgerRules : Prop :=
  ∀ s : State, Memory.wf s = true → s.get R.RST_STRAP_ROLE = 0 → s.pwr.mode = .run → s.pwr.entry = none → s.get R.LEDG_CFG_EN = 1 →
    let takes := fun (t : State) (x : EngFrame) => t.net = (s.engAdd x).net ∧ t.sent = s.sent
    let replies := fun (t : State) (o : Nat) (e : LEntry) (dup : Bool) =>
      takes t { kind := .rcpReply, desc := rcpDesc true (s.rcpId 1 o) (s.replyBytes e dup), first := decide (e.cls = 0) }
    (∀ x : EngFrame, x.seven = false → (∀ y ∈ s.net.engine, y.seven = false) →
      (s.net.engine = [] → s.net.can[s.txbuf] = none →
        s.engAdd x = { s with net := { s.net with can := s.net.can.set s.txbuf (some { desc := x.desc, kind := x.kind }) } })
      ∧ (let l := s.net.engine
        let l' := if x.first then l.takeWhile (·.first) ++ [x] ++ l.dropWhile (·.first) else l ++ [x]
        s.net.can[s.txbuf] ≠ none → s.engAdd x = { s with net := { s.net with engine := l' } }))
    ∧ (∀ (q : RcpRequest) (o : Nat) (cls : BitVec 2), s.canMode = 2 → q.lin = false → 4 ≤ q.bytes.length → s.rcpHead q = some (o, cls) →
      s.unsync o = false → s.get R.PWR_RVSTAT_PHASE = 0 →
      let b := fun k => (q.bytes.getD k 0).toNat
      let seq := BitVec.ofNat 16 (b 0 * 256 + b 1)
      let op := BitVec.ofNat 16 (b 2 * 256 + b 3)
      let x := s.orig o
      let d := (seq - x.h).toInt
      let e : LEntry := { seq := seq, state := 1, cls := cls, op := op, args := q.bytes.drop 4, t := q.t }
      (s.ledg.open' = false → s.ledg.held.length < 8 → ∃ t, exec (.rcpRequest q) s = .next t ∧ t.ledg.held = s.ledg.held ++ [q] ∧ t.sent = s.sent ∧ s.memSame t)
      ∧ (s.ledg.open' = true →
        (∀ y, s.lEntry o seq = some y → y.lin = false → -31 ≤ d → d ≤ 0 → ∃ t, exec (.rcpRequest q) s = .next t ∧ replies t o y true ∧ t.ledg = s.ledg
            ∧ t.regs = (s.bump R.LEDG_CNT_DUP).regs ∧ s.memSame t ∧ t.core = s.core)
        ∧ (d < -31 → ∃ t, exec (.rcpRequest q) s = .next t ∧ replies t o { e with state := 5, step := 1 } false ∧ t.ledg = s.ledg
            ∧ t.regs = (s.bump R.LEDG_CNT_STALE).regs ∧ s.memSame t ∧ t.core = s.core)
        ∧ (0 < d → 0x1000 ≤ op.toNat → cls ≠ 0 → s.get R.RSV_SDSTAT_STEP = 0 → s.lBusy o = false → x.hold cls.toNat = 0 → ∃ t, exec (.rcpRequest q) s = .next t
            ∧ replies t o { e with state := 5, step := 2 } false ∧ t.ledg = s.ledg ∧ t.regs = (s.bump R.LEDG_CNT_REJ).regs ∧ s.memSame t)
        ∧ (0 < d → 0x1000 ≤ op.toNat → cls ≠ 0 → s.get R.RSV_SDSTAT_STEP = 0 → s.lBusy o = false → 0 < x.hold cls.toNat → s.ringFull = false → o < 13 →
            ∃ t, exec (.rcpRequest q) s = .next t ∧ t.sent = s.sent ∧ t.regs = s.regs ∧ s.memSame t ∧ (t.orig o).h = seq
              ∧ (t.orig o).c = crAdd x.c cls.toNat 1 ∧ t.lEntry o seq = some { e with lseq := s.ledg.lseq + 1 }
              ∧ t.ledg.waits = s.ledg.waits ++ [(s.ledg.nextTag, .accept o seq)] ∧ t.mem.persists.length = s.mem.persists.length + 1)
        ∧ (0 < d → 0x1000 ≤ op.toNat → cls = 0 → s.lBusy o = false → s.ringFull = false → o < 13 →
            let a := s.get R.LEDG_RQR_BASE + 12 * ((s.reg RW.LEDG_RQWP).toNat % s.get R.LEDG_RQR_LEN)
            ∃ t, exec (.rcpRequest q) s = .next t ∧ replies t o { e with lseq := s.ledg.lseq + 1 } false ∧ (t.orig o).h = seq ∧ (t.orig o).c = x.c
              ∧ t.reg RW.LEDG_RQWP = s.reg RW.LEDG_RQWP + 1 ∧ s.regsBut t [RW.LEDG_RQWP] ∧ s.raises t 120 ∧ t.mram = s.mram
              ∧ t.ramAt a = BitVec.ofNat 48 (seq.toNat + op.toNat * 2 ^ 16 + o * 2 ^ 32) ∧ t.ramAt (a + 1) = q.t
              ∧ (∀ k < 10, t.ramAt (a + 2 + k) = (packBytes 10 (q.bytes.drop 4)).getD k 0) ∧ ∀ z, (z < a ∨ a + 12 ≤ z) → t.ramAt z = s.ramAt z)))
    ∧ (∀ (m : Master) (v : Word) (e : LEntry), let o := getBits v 0 4
        o < 13 → s.lEntry o (BitVec.ofNat 16 (getBits v 4 16)) = some e →
        (e.live = false → exec (.ledgStep m v) s = .next (s.put R.LEDG_STAT_ENDREJ 1) ∧ exec (.ledgEnd m v) s = .next (s.put R.LEDG_STAT_ENDREJ 1))
        ∧ (e.live = true → (∃ t y, exec (.ledgStep m v) s = .next t ∧ t.lEntry o e.seq = some y ∧ y.state = 2 ∧ y.step = BitVec.ofNat 8 (getBits v 20 8)
              ∧ y.lseq = s.ledg.lseq + 1 ∧ y.replied = false ∧ (v.getLsbD 31 = false → y.course = e.course)
              ∧ (∀ c : Course, v.getLsbD 31 = true → getBits v 28 3 = c.val → y.course = some c) ∧ t.regs = s.regs ∧ s.memSame t ∧ t.core = s.core)
            ∧ (getBits v 20 2 = 1 → ∃ t y, exec (.ledgEnd m v) s = .next t ∧ t.lEntry o e.seq = some y ∧ y.state = 3
              ∧ y.outcome = BitVec.ofNat 16 (getBits v 22 16) ∧ t.ledg.waits = s.ledg.waits ++ [(s.ledg.nextTag, .ending o e.seq)]
              ∧ (t.orig o).g = (if e.cls ≠ 0 ∧ e.lin = false then crAdd (s.orig o).g e.cls.toNat 1 else (s.orig o).g) ∧ t.regs = s.regs ∧ s.memSame t)
            ∧ (getBits v 20 2 = 2 → ∃ t y, exec (.ledgEnd m v) s = .next t ∧ t.lEntry o e.seq = some y ∧ y.state = 4
              ∧ (∀ c, e.course = some c → y.pos = s.reg (RW.POS_CNT c)) ∧ t.regs = s.regs ∧ s.memSame t)))
    ∧ (∀ dst : BitVec 4, dst.toNat < 13 → let n := (s.orig dst.toNat).owed
        (n.toList.all (· == 0) = true → exec (.creditGrant dst) s = .next s)
        ∧ (n.toList.all (· == 0) = false → ∃ t, exec (.creditGrant dst) s = .next t ∧ (t.orig dst.toNat).owed = Vector.replicate 3 0 ∧ t.regs = s.regs
          ∧ s.memSame t ∧ takes t { kind := .credit, desc := rcpDesc true (s.rcpId 6 dst.toNat) (1#8 :: n.toList.map (BitVec.ofNat 8)) }))
    ∧ (∀ (src : BitVec 4) (n1 n2 n3 : BitVec 8), src.toNat ≤ 12 → let x := s.orig src.toNat
        ∃ t, exec (.creditReturn src n1 n2 n3) s = .next t ∧ t.regs = s.regs ∧ s.memSame t ∧ t.sent = s.sent ∧ (t.orig src.toNat).g = x.g
          ∧ (t.orig src.toNat).c = x.c ∧ crOf (t.orig src.toNat).r 1 = crOf x.r 1 + BitVec.ofNat 16 (min n1.toNat (x.hold 1))
          ∧ crOf (t.orig src.toNat).r 2 = crOf x.r 2 + BitVec.ofNat 16 (min n2.toNat (x.hold 2))
          ∧ crOf (t.orig src.toNat).r 3 = crOf x.r 3 + BitVec.ofNat 16 (min n3.toNat (x.hold 3)))
    ∧ (∀ (src : BitVec 4) (n : BitVec 16), src.toNat ≤ 12 → s.unsync src.toNat = true → ∃ t, exec (.creditResync src n) s = .next t ∧ s.memSame t
        ∧ (t.orig src.toNat).h = n - 1 ∧ (t.orig src.toNat).floor = n ∧ t.unsync src.toNat = false
        ∧ ∀ k, 1 ≤ k → k ≤ 3 → (t.orig src.toNat).hold k = s.get (R.CRINIT k) % 2 ^ 16)
    ∧ (∀ bn : BitVec 8, exec (.timeBeaconSync bn) s = .next { s with ledg := { s.ledg with beacon := some (bn, s.time.dtime, s.ntLatch64) } })
    ∧ (∀ (bn : BitVec 8) (tm : BitVec 64) (d : Word) (nl : BitVec 64), s.ledg.beacon = some (bn, d, nl) → s.time.beacons.length < 2 →
        (s.time.dtime - d).toNat ≤ 24000000 → exec (.timeBeaconFollow bn tm) s = .next { s with
          ledg := { s.ledg with beacon := none }, time := { s.time with beacons := s.time.beacons ++ [(tm, d, nl)] } })
    ∧ (∀ (bn : BitVec 8) (tm : BitVec 64), s.ledg.beacon = none → exec (.timeBeaconFollow bn tm) s = .next (s.bump R.LEDG_CNT2_TBMISS))
    ∧ (let per := BitVec.ofNat 48 (s.get R.LEDG_TBCFG_PER * 240000)
        let may : Prop := (s.get R.LEDG_TBCFG_MASTER = 1 ∧ ∀ d, s.ledg.syncAt = some d → 0 ≤ (s.time.dtime - (d + per)).toInt)
        (¬ may → exec .beaconSend s = .next s)
        ∧ (may → ∃ t, exec .beaconSend s = .next t ∧ takes t { kind := .beacon, desc := rcpDesc true (s.rcpId 2 0xF) [1, s.ledg.bn] }
          ∧ t.ledg = { s.ledg with bn := s.ledg.bn + 1, syncAt := some s.time.dtime } ∧ t.regs = s.regs ∧ s.memSame t ∧ t.time = s.time))
    ∧ (∀ (x : CanTx) (d : Word), s.canMode = 2 → s.net.can[s.txbuf] = some x → x.sof = some d → x.wupf = false → x.kind = .beacon →
        descByte x.desc 0 = 1 → s.net.engine = [] → s.pwr.rvTx = 0 → s.time.beacons.length < 2 → ∃ t, exec (.canTxEnd s.txbuf true) s = .next t
          ∧ t.time.beacons = s.time.beacons ++ [(x.nl, d, x.nl)] ∧ s.memSame t
          ∧ t.net.can[s.txbuf] = some { kind := .beacon, desc := rcpDesc true (s.rcpId 2 0xF) ([2, BitVec.ofNat 8 (descByte x.desc 1)]
              ++ bytesOf x.nl.toNat 8 ++ bytesOf (s.get R.TIME_STAT_NT_STATE) 1 ++ bytesOf s.uncWord 4) })

/-- The twin pair (R732, R736 to R762): journal windows, frames, NAK and status on the primary; frames taken in order and their items
replayed in their beats, missing frames and claims on the shadow; the digest at a checkpoint of either; the hand-over and the pair start.
What comes about at a time does nothing before it. -/
def Obligations.TwinRules : Prop :=
  ∀ s : State, Memory.wf s = true →
    let w := s.twin
    let past := fun (from' : Word) (n : Nat) => 0 ≤ (s.time.dtime - (from' + BitVec.ofNat 48 n)).toInt
    let phys := s.time.dtime + w.pdt
    let d := if w.fedAt = some s.time.dtime then w.crc else s.digestWords.foldl crcWord w.crc
    let check := w.ckAt ≠ s.time.dtime ∧ w.rxq = [] ∧ (if s.get R.PEER_TWCFG_CKSRC ≠ 0 then past w.ckAt (s.get R.PEER_TWCFG_CKPER * 240)
      else if s.get (R.PWM_STAT_RUN 0) ≠ 0 then (s.pwm 0).bndAt = some s.time.dtime else past w.ckAt 24000)
    (s.active = true → s.halted = false →
      (¬ past w.start (960 * (w.win + 1)) → exec (.journalWindowEnd false) s = .next s)
      ∧ (let f : TwinFrame := { seq := w.seq, win := BitVec.ofNat 40 w.win, good := true, items := w.items }
       past w.start (960 * (w.win + 1)) → exec (.journalWindowEnd false) s = .next { s with
        twin := { w with seq := w.seq + 1, win := w.win + 1, items := [], held := w.held ++ [f] }
        sent := { port := .peerA, kind := .journal, words := frameWords f } :: s.sent })
      ∧ (∃ t, exec (.journalWindowEnd true) s = .next t ∧ t.get R.PEER_TWSTAT_STATE = 2 ∧ t.get R.PEER_TWSTAT_JOVF = 1 ∧ t.twin.held = []
        ∧ t.twin.items = [] ∧ s.memSame t))
    ∧ (s.shadowing = true → s.halted = false → w.ended = none → ∀ f : TwinFrame,
        let nak : Host.Outcome State Fault Refusal :=
          .next { s with sent := { port := .peerA, kind := .nak, words := [w.seq.zeroExtend 48] } :: s.sent }
        (f.good = false → exec (.journalFrame f) s = nak)
        ∧ (f.good = true → 0 < (f.seq - w.seq).toInt → exec (.journalFrame f) s = nak)
        ∧ (f.good = true → (f.seq - w.seq).toInt < 0 → exec (.journalFrame f) s = .next s)
        ∧ (f.good = true → f.seq = w.seq → f.items = [] → exec (.journalFrame f) s = .next { s with
            twin := { w with seq := w.seq + 1, win := f.win.toNat + 1, miss := 0, bEnd := w.start + BitVec.ofNat 48 (960 * f.win.toNat + 959) }
            sent := { port := .peerA, kind := .status, words := [w.seq.zeroExtend 48, 3, BitVec.ofNat 48 (s.get R.PEER_TWSTAT_DIV)] } :: s.sent })
        ∧ (∀ i : TwinItem, f.good = true → f.seq = w.seq → f.items = [i] → w.handed = none → ∃ t, exec (.journalFrame f) s = .next t
            ∧ t.twin.rxq = w.rxq ++ [(w.start + BitVec.ofNat 48 (960 * f.win.toNat + i.ofs.toNat), i)] ∧ t.twin.seq = w.seq + 1 ∧ t.time = s.time
            ∧ t.regs = s.regs ∧ s.memSame t ∧ t.core = s.core))
    ∧ (∀ (i : TwinItem) (b v : Word), w.ended = none → w.rxq = [(b, i)] →
        (¬ past b 0 → s.replayBeat = s)
        ∧ (past b 0 → i.kind = 5 → i.data = [v] → s.replayBeat = { s with twin := { w with live := w.live ++ [v], rxq := [] } })
        ∧ (past b 0 → i.kind = 0xC → i.data = [v] → s.replayBeat = { s with twin := { w with digest := some v, rxq := [] } }))
    ∧ (s.active = true → (∀ (n : BitVec 16) (f : TwinFrame), w.held = [f] → 0 ≤ (f.seq - n).toInt → exec (.twinNak n) s =
          .next ({ s with sent := { port := .peerA, kind := .journal, words := frameWords f } :: s.sent }.bump R.PEER_TWCNT_RETX))
        ∧ (∀ a : BitVec 16, w.outbox = [] → exec (.statusFrame a false) s =
          .next { s with twin := { w with held := w.held.filter (fun f => !decide (0 ≤ (a - f.seq).toInt)), statAt := s.time.dtime } })
        ∧ (∀ a : BitVec 16, s.get R.PEER_TWCFG_DIVPOL ≠ 1 → ∃ t, exec (.statusFrame a true) s = .next t ∧ t.get R.PEER_TWSTAT_DIV = 1
          ∧ t.get R.PEER_TWSTAT_STATE = 2 ∧ t.twin.held = [] ∧ s.memSame t)
        ∧ (¬ past w.statAt 2880 → exec .statusLoss s = .next s)
        ∧ (past w.statAt 2880 → ∃ t, exec .statusLoss s = .next t ∧ t.get R.PEER_TWSTAT_STATE = 2 ∧ t.get R.PEER_TWSTAT_SHLOST = 1 ∧ s.memSame t)
        ∧ (check → ∃ t, exec (.twinCheckpoint s.time.dtime) s = .next t ∧ s.memSame t ∧ s.regsBut t [RW.PEER_TWFILL] ∧ t.twin.crc = 0xFFFFFFFFFFFF
          ∧ t.twin.ckAt = s.time.dtime ∧ t.twin.items = w.items ++ [{ kind := 0xC, ofs := s.twinOfs, data := [d], rx := none }])
        ∧ (∀ m : Master, exec (.twinHandover m) s =
            .next (if w.handover = none then { s with twin := { w with handover := some (s.time.dtime + 2) } } else s))
        ∧ (w.handover = none → exec .handoverRelease s = .next s)
        ∧ (∀ h, w.handover = some h → past h 0 →
          (if s.get (R.PWM_STAT_RUN 0) ≠ 0 then (s.pwm 0).bndAt = some s.time.dtime else (s.time.dtime - w.start).toNat % 960 = 0) →
          ∃ t x, exec .handoverRelease s = .next t ∧ t.get R.PEER_TWSTAT_STATE = 4 ∧ t.sent = x :: s.sent ∧ x.port = .peerA
          ∧ x.kind = .journal ∧ t.twin.handover = none ∧ (s.core.esc = none → t.twin.tail = some s.time.dtime) ∧ t.core.issueOn = false ∧ t.time.tpHigh = false ∧ t.acq.firing = false ∧ s.memSame t))
    ∧ (s.shadowing = true → w.ended = none →
        let late := 0 ≤ (phys - (w.start + BitVec.ofNat 48 (960 * (w.win + w.miss) + s.get R.PEER_TWCFG_LAG))).toInt
        (¬ late → exec .frameMissing s = .next s)
        ∧ (late → w.miss < 2 → ∃ t, exec .frameMissing s = .next t ∧ t.twin = { w with miss := w.miss + 1 } ∧ t.regs = (s.bump R.PEER_TWCNT_MISS).regs
          ∧ s.memSame t ∧ t.core = s.core)
        ∧ (late → 2 ≤ w.miss → w.claim = none → w.twfail = none → s.get R.TIME_STAT_REFLOST = 0 → ∃ t, exec .frameMissing s = .next t
          ∧ t.get R.PEER_TWSTAT_HBLOSS = 1 ∧ t.get R.PEER_TWSTAT_STATE = 4 ∧ t.core.issueOn = false ∧ s.memSame t)
        ∧ (late → 2 ≤ w.miss → w.claim = none → w.twfail ≠ none → ∃ t, exec .frameMissing s = .next t ∧ t.get R.PEER_TWSTAT_HBLOSS = 1
          ∧ t.twin.claim = some (4, w.bEnd + 1, phys) ∧ s.memSame t)
        ∧ (∀ b : Word, ¬ check ∨ b ≠ s.time.dtime → w.rxq = [] → exec (.twinCheckpoint b) s = .next s)
        ∧ (∀ v : Word, w.digest = some v → check →
          (v = d → ∃ t, exec (.twinCheckpoint s.time.dtime) s = .next t ∧ t.twin.digest = none ∧ t.twin.own = (0, 0) ∧ t.twin.crc = 0xFFFFFFFFFFFF
            ∧ t.twin.ckAt = s.time.dtime ∧ t.regs = s.regs ∧ s.memSame t ∧ t.core = s.core)
          ∧ (v ≠ d → s.halted = false → ∃ t x, exec (.twinCheckpoint s.time.dtime) s = .next t ∧ t.get R.PEER_TWSTAT_DIV = 1 ∧ t.get R.PEER_TWSTAT_STATE = 4 ∧ t.sent = x :: s.sent
            ∧ x.kind = .status ∧ s.memSame t))
        ∧ (let heart : Word := w.bEnd + BitVec.ofNat 48 (1921 + s.get R.PEER_TWCFG_LAG)
          let b : Word := if 0 ≤ (heart - phys).toInt then heart else phys
          w.claim = none → w.twfail = none →
            exec .twfailRise s = .next { s with twin := { w with twfail := some phys, claim := some (3, w.bEnd + 1, b) } }))
    ∧ (s.shadowing = true → w.halls = [] → w.heard = [] → ∀ (trig : Nat) (c at' : Word), trig < 8 →
        let due := c + BitVec.ofNat 48 (s.get R.PEER_TWCFG_LAG)
        let p := fun x : Word => if 0 ≤ (due - x).toInt then due else x
        let took := fun t : State => t.get R.PEER_TWSTAT_STATE = 2 ∧ t.get R.PEER_TWSTAT_TAKEN = 1 ∧ t.get R.PEER_TWTAKE_TRIG = trig
          ∧ t.time.dtime = c ∧ t.twin.claim = none ∧ t.twin.outbox = [] ∧ s.memSame t
        (w.claim = some (trig, c, at') → 0 ≤ (phys - p at').toInt → ∃ t, exec .twinClaim s = .next t ∧ took t ∧ t.twin.pdt = p at' - c)
        ∧ (w.claim = some (trig, c, at') → (phys - p at').toInt < 0 → exec .twinClaim s = .next s)
        ∧ (trig = 5 → w.twfail ≠ none → w.handed = some c → past c (s.get R.PEER_TWCFG_PAIRTO * 240000) → ∃ t,
            exec .resumeTimeout s = .next t ∧ took t)
        ∧ (w.handed = some c → ¬ past c (s.get R.PEER_TWCFG_PAIRTO * 240000) → exec .resumeTimeout s = .next s))
    ∧ (s.pwr.boot = .accepted → s.get R.PEER_TWSTAT_STATE = 0 → s.pwr.image ≠ none →
        (∀ x : PairData, (s.get R.RST_STRAP_ROLE = 1 ∨ s.get R.RST_STRAP_ROLE = 2) → ∃ t, exec (.pairStart x) s = .next t ∧ t.time.dtime = x.start
          ∧ t.get R.PEER_TWSTAT_STATE = (if s.get R.RST_STRAP_ROLE = 1 then 1 else 3) ∧ t.pwr.boot = .user ∧ t.core.issueOn = true
          ∧ t.twin.start = x.start ∧ t.twin.win = 0 ∧ t.twin.seq = 0 ∧ (x.ram = [] → t.ram = s.ram) ∧ (x.mram = [] → t.mram = s.mram)
          ∧ (∀ a v, s.get R.RST_STRAP_ROLE = 2 → x.ram = [(a, v)] → region a.toNat = .ram → t.ramAt a.toNat = v))
        ∧ (¬ past s.pwr.stepAt (s.get R.PEER_TWCFG_PAIRTO * 240000) → exec .pairStartTimeout s = .next s)
        ∧ (s.get R.RST_STRAP_ROLE = 1 → past s.pwr.stepAt (s.get R.PEER_TWCFG_PAIRTO * 240000) → ∃ t, exec .pairStartTimeout s = .next t ∧ t.get R.PEER_TWSTAT_STATE = 2 ∧ t.pwr.boot = .user ∧ s.memSame t)
        ∧ (s.get R.RST_STRAP_ROLE = 2 → w.twfail = none → past s.pwr.stepAt (s.get R.PEER_TWCFG_PAIRTO * 240000) → ∃ t, exec .pairStartTimeout s = .next t ∧ t.get R.PEER_TWSTAT_STATE = 4
          ∧ t.pwr.boot = .accepted ∧ t.core.issueOn = false ∧ s.memSame t))

/-- The cascade (R305, R765 to R778, R781): the start on the lead and on a follower, its timeout, alignment again, ports trained and down,
frames sent again once, loss reports, accesses served for other chips, and remote supervisor calls. -/
def Obligations.CascadeRules : Prop :=
  ∀ s : State, Memory.wf s = true → s.get R.RST_STRAP_ROLE = 3 → s.pwr.mode = .run →
    let past := fun (from' : Word) => 0 ≤ (s.time.dtime - (from' + BitVec.ofNat 48 (s.get R.PEER_CSCFG_CHAINTO * 240000))).toInt
    let pos := s.get R.PEER_CSSTAT_POS
    let port := fun b : Bool => if b then Port.peerB else .peerA
    (∀ pres aligned : BitVec 4, (pos = 0 → s.pwr.boot = .user → s.link.realign = true → ∃ t, exec (.cascadeStart pres aligned) s = .next t
          ∧ t.get R.PEER_CSSTAT_PRES = pres.toNat ∧ t.get R.PEER_CSSTAT_ALIGNED = aligned.toNat ∧ t.link = { s.link with realign := false, served := Vector.replicate 4 none }
          ∧ s.raises t 125 ∧ s.memSame t)
        ∧ (pos = 0 → s.pwr.boot = .accepted → s.pwr.image ≠ none → ∃ t, exec (.cascadeStart pres aligned) s = .next t ∧ t.pwr.boot = .user
          ∧ t.core.issueOn = true ∧ t.get R.PEER_CSSTAT_PRES = pres.toNat ∧ t.get R.PEER_CSSTAT_ALIGNED = aligned.toNat ∧ s.memSame t)
        ∧ (pos ≠ 0 → s.pwr.boot = .user → s.get R.PEER_CSSTAT_LINKA = 1 → ∃ t x, exec (.cascadeStart pres aligned) s = .next t ∧ t.stage.lossOff = false
          ∧ t.get R.PEER_CSSTAT_ALIGNED = (if aligned.getLsbD pos then 2 ^ pos else 0) ∧ t.sent = x :: s.sent ∧ x.port = .peerA ∧ x.kind = .census
          ∧ s.memSame t))
    ∧ (s.pwr.boot = .accepted → s.pwr.image ≠ none → (¬ past s.pwr.stepAt → pos ≠ 0 → exec .chainTimeout s = .next s)
        ∧ (past s.pwr.stepAt → ∃ t, exec .chainTimeout s = .next t ∧ t.pwr.boot = .user ∧ t.core.issueOn = true ∧ s.memSame t))
    ∧ (s.pwr.boot = .user → pos = 0 → s.link.wakeAlign = true → past s.link.alignAt →
        exec .chainTimeout s = .next { s with link := { s.link with realign := true, wakeAlign := false } })
    ∧ (∀ m : Master, s.pwr.boot = .user → (pos = 0 → s.link.realign = false →
          exec (.cascadeRealign m) s = .next { s with link := { s.link with realign := true } })
        ∧ (pos ≠ 0 → exec (.cascadeRealign m) s = .next s))
    ∧ (pos ≠ 0 → exec (.portTrained false) s = .next (s.put R.PEER_CSSTAT_LINKA 1) ∧ exec (.portTrained true) s = .next (s.put R.PEER_CSSTAT_LINKB 1))
    ∧ (pos = 0 → exec (.portTrained false) s = .next s ∧ (s.link.wakeAlign = true → exec (.portTrained true) s =
          .next { s.put R.PEER_CSSTAT_LINKB 1 with link := { s.link with realign := true, wakeAlign := false } })
        ∧ (s.link.wakeAlign = false → exec (.portTrained true) s = .next (s.put R.PEER_CSSTAT_LINKB 1)))
    ∧ (∀ b : Bool, (b = true ∨ pos ≠ 0) →
        exec (.linkFrameCrcError b) s = .next { s.bump R.PEER_CSCNT_CRCERR with sent := { port := port b, kind := .nak, words := [] } :: s.sent }
        ∧ (∀ x : Sent, (if b then s.link.lastB else s.link.lastA) = some (x, false) → ∃ t, exec (.cascadeNak b) s = .next t ∧ t.sent = x :: s.sent
          ∧ t.regs = (s.bump R.PEER_CSCNT_RETX).regs ∧ (if b then t.link.lastB else t.link.lastA) = some (x, true) ∧ s.memSame t ∧ t.core = s.core)
        ∧ (∀ x : Sent, (if b then s.link.lastB else s.link.lastA) = some (x, true) → exec (.cascadeNak b) s = .next s))
    ∧ (pos ≠ 0 → ∃ t, exec (.portDown false) s = .next t ∧ t.get R.PEER_CSSTAT_LINKA = 0 ∧ s.memSame t
        ∧ (s.get R.PEER_CSCFG_LOSSACT = 0 → t.stage.lossOff = true)
        ∧ (∀ (o : Op) (rd : BitVec 5) (p : Chip) (ea : BitVec 24) (v : Word), s.core.ops = [o] → o.body = .remote rd p ea (some v) →
          o.stage = .begun → p.val ≤ pos → t.core.ops = [] ∧ (rd ≠ 0 → (t.strand o.str).rd rd = s.csw 4 0)))
    ∧ (pos ≠ 0 → ∃ t x, exec (.portDown true) s = .next t ∧ t.get R.PEER_CSSTAT_LINKB = 0 ∧ t.sent = x :: s.sent ∧ x.port = .peerA ∧ x.kind = .loss
        ∧ x.words = [BitVec.ofNat 48 (pos + 1)] ∧ s.memSame t)
    ∧ (∀ p : Chip, p.val ≠ 0 → (pos ≠ 0 → ∃ t x, exec (.lossReport p) s = .next t ∧ t.sent = x :: s.sent ∧ x.port = .peerA ∧ x.kind = .loss
          ∧ x.words = [BitVec.ofNat 48 p.val] ∧ t.regs = s.regs ∧ s.memSame t ∧ t.core = s.core)
        ∧ (pos = 0 → (s.get R.PEER_CSSTAT_PRES).testBit p.val = true → ∃ t, exec (.lossReport p) s = .next t ∧ s.raises t 125 ∧ s.memSame t
          ∧ ∀ k < 4, (t.get R.PEER_CSSTAT_PRES).testBit k = (decide (k < p.val) && (s.get R.PEER_CSSTAT_PRES).testBit k)
            ∧ (t.get R.PEER_CSSTAT_LOST).testBit k = (decide (p.val ≤ k) || (s.get R.PEER_CSSTAT_LOST).testBit k)))
    ∧ (∀ (p : Chip) (n : Nat) (a : BitVec 24) (v : Word), s.repeated p n = true → exec (.remoteAccessServe ⟨p, n⟩ a (some v)) s = .next s)
    ∧ (∀ (p : Chip) (n : Nat) (a : BitVec 24) (v : Word), s.repeated p n = false → pos ≠ p.val → s.portUp p.val = true → s.portServed = true →
        let answers := fun (t : State) (code : Nat) (v : Word) => (let ws := [BitVec.ofNat 48 p.val, BitVec.ofNat 48 code, v]
          t.sent = { port := port (decide (pos < p.val)), kind := .remoteReply, words := ws } :: s.sent ∧ t.link.served[p] = some n)
        (∀ k : Chip, a.toNat = RW.PEER_CSMB k.val → ∃ t, exec (.remoteAccessServe ⟨p, n⟩ a none) s = .next t ∧ answers t 0 (s.reg a.toNat)
            ∧ s.memSame t ∧ t.regs = s.regs ∧ t.core = s.core)
        ∧ (a.toNat = RW.PEER_CSMB p.val → ∃ t, exec (.remoteAccessServe ⟨p, n⟩ a (some v)) s = .next t ∧ answers t 0 0 ∧ t.reg a.toNat = v
            ∧ s.raises t 125 ∧ s.memSame t ∧ s.regsBut t [a.toNat])
        ∧ (region a.toNat ≠ .periph → ∀ w, ∃ t, exec (.remoteAccessServe ⟨p, n⟩ a w) s = .next t ∧ answers t 1 0 ∧ s.memSame t ∧ t.regs = s.regs
            ∧ t.core = s.core))
    ∧ (∀ v : Word, pos ≠ 0 → s.rsvcTok ≠ some (getBits v 12 4) →
        (s.get R.PEER_RSVCST_BUSY = 1 → (∀ tok x, s.sup.rsvc ≠ some (tok, some x)) →
          exec (.rsvcgo (.remote 0) v) s = .next (s.put R.PEER_CSSTAT_RSVCREJ 1))
        ∧ (s.get R.PEER_RSVCST_BUSY = 0 → s.pwr.boot = .user → 16 ≤ s.svcPending → exec (.rsvcgo (.remote 0) v) s =
            .next { s.put R.PEER_RSVCST_BUSY 1 with sup := { s.sup with rsvc := some (BitVec.ofNat 4 (getBits v 12 4), some 2) } })
        ∧ (∀ m, m ≠ .remote 0 → s.get R.PEER_RSVCST_BUSY = 0 → exec (.rsvcgo m v) s = .next s)
        ∧ (∀ c : Course, s.get R.PEER_RSVCST_BUSY = 0 → s.pwr.boot = .user → s.svcPending < 16 → getBits v 0 12 = 0x20 → (s.reg RW.PEER_RSVCA).toNat = c.val →
            (s.reg RW.PEER_RSVCB).toNat < 16 → ∃ t, exec (.rsvcgo (.remote 0) v) s = .next t ∧ t.get R.PEER_RSVCST_BUSY = 1 ∧ s.memSame t
              ∧ t.sup.rsvc = some (BitVec.ofNat 4 (getBits v 12 4), some ((s.supc c).word (s.reg RW.PEER_RSVCB).toNat <<< 4))))
    ∧ (∀ (tok : BitVec 4) (x : Word), s.get R.PEER_RSVCST_BUSY = 1 → s.sup.rsvc = some (tok, some x) → ∃ t, exec .remoteCallComplete s = .next t
        ∧ t.reg RW.PEER_RSVCRES = x ∧ t.get R.PEER_RSVCST_TOK = tok.toNat ∧ t.get R.PEER_RSVCST_DONE = 1 ∧ t.get R.PEER_RSVCST_BUSY = 0 ∧ s.raises t 125
        ∧ s.memSame t ∧ s.regsBut t [RW.PEER_RSVCRES, RW.PEER_RSVCST])
end

