-- ==== Sys2Proof/Laws/Sparse.lean ====
section
/-!
SUPPORT. Laws/Sparse.lean: reading after writing in a sparse store, and that its operations keep the canonical form.
-/
namespace Sys2Proof.Machine

theorem spAbove_iff {α : Type} {k : Nat} {t : Sparse α} : spAbove k t = true ↔ ∀ p ∈ t, k < p.1 := by
  simp [spAbove]

variable {α : Type} {d : Nat → α}

/-- Below every listed address a store reads its default. -/
theorem spGet_above {k : Nat} {t : Sparse α} (h : spAbove k t = true) : spGet d t k = d k := by
  induction t with
  | nil => rfl
  | cons p t ih =>
    rw [spAbove_iff] at h
    have hp := h p (by simp)
    have ht : spAbove k t = true := spAbove_iff.2 (fun q hq => h q (by simp [hq]))
    simp [spGet, Nat.ne_of_gt hp, ih ht]

theorem spAbove_mono {j k : Nat} {t : Sparse α} (hjk : j ≤ k) (h : spAbove k t = true) : spAbove j t = true :=
  spAbove_iff.2 (fun p hp => lt_of_le_of_lt hjk (spAbove_iff.1 h p hp))

variable [DecidableEq α]

theorem spGet_spCons_same {k : Nat} {v : α} {t : Sparse α} (h : spAbove k t = true) : spGet d (spCons d k v t) k = v := by
  unfold spCons
  split
  · rename_i e; rw [spGet_above h, e]
  · simp [spGet]

theorem spGet_spCons_ne {k a : Nat} {v : α} {t : Sparse α} (hne : a ≠ k) : spGet d (spCons d k v t) a = spGet d t a := by
  unfold spCons
  split
  · rfl
  · simp [spGet, Ne.symm hne]

theorem spWf_spCons {k : Nat} {v : α} {t : Sparse α} (ha : spAbove k t = true) (ht : spWf d t = true) :
    spWf d (spCons d k v t) = true := by
  unfold spCons
  split
  · exact ht
  · rename_i e; simp [spWf, e, ha, ht]

theorem spAbove_spCons {j k : Nat} {v : α} {t : Sparse α} (hk : j < k) (ht : spAbove j t = true) : spAbove j (spCons d k v t) = true := by
  unfold spCons
  split
  · exact ht
  · simp only [spAbove, List.all_cons, decide_eq_true_eq, Bool.and_eq_true] at ht ⊢
    exact ⟨hk, ht⟩

theorem spWf_cons {p : Nat × α} {t : Sparse α} (h : spWf d (p :: t) = true) :
    p.2 ≠ d p.1 ∧ spAbove p.1 t = true ∧ spWf d t = true := by
  obtain ⟨j, x⟩ := p
  simp only [spWf, Bool.and_eq_true, decide_eq_true_eq] at h
  exact ⟨h.1.1, h.1.2, h.2⟩

/-- Reading what was written. -/
theorem spGet_spSet_same {t : Sparse α} {k : Nat} {v : α} (h : spWf d t = true) : spGet d (spSet d t k v) k = v := by
  induction t with
  | nil => exact spGet_spCons_same rfl
  | cons p t ih =>
    obtain ⟨j, x⟩ := p
    obtain ⟨-, ha, hw⟩ := spWf_cons h
    unfold spSet
    split
    · rename_i hk
      refine spGet_spCons_same (spAbove_iff.2 ?_)
      rintro q hq
      rcases List.mem_cons.1 hq with rfl | hq
      · exact hk
      · exact lt_trans hk (spAbove_iff.1 ha q hq)
    · split
      · rename_i e; subst e; exact spGet_spCons_same ha
      · rename_i hk hn
        simp only [spGet, Ne.symm hn, if_false]
        exact ih hw

/-- Reading what was not written. -/
theorem spGet_spSet_ne {t : Sparse α} {k a : Nat} {v : α} (hne : a ≠ k) : spGet d (spSet d t k v) a = spGet d t a := by
  induction t with
  | nil => exact spGet_spCons_ne hne
  | cons p t ih =>
    obtain ⟨j, x⟩ := p
    unfold spSet
    split
    · exact spGet_spCons_ne hne
    · split
      · rename_i e; subst e; rw [spGet_spCons_ne hne]; simp [spGet, Ne.symm hne]
      · simp only [spGet, ih]

theorem spAbove_spSet {t : Sparse α} {j k : Nat} {v : α} (hk : j < k) (ht : spAbove j t = true) : spAbove j (spSet d t k v) = true := by
  induction t with
  | nil => exact spAbove_spCons hk rfl
  | cons p t ih =>
    obtain ⟨i, x⟩ := p
    have hh := spAbove_iff.1 ht
    have hi : j < i := hh (i, x) (by simp)
    have ht' : spAbove j t = true := spAbove_iff.2 (fun q hq => hh q (by simp [hq]))
    unfold spSet
    split
    · exact spAbove_spCons hk ht
    · split
      · exact spAbove_spCons hk ht'
      · simp only [spAbove, List.all_cons, decide_eq_true_eq, Bool.and_eq_true]
        exact ⟨hi, ih ht'⟩

/-- A write keeps the canonical form. -/
theorem spWf_spSet {t : Sparse α} {k : Nat} {v : α} (h : spWf d t = true) : spWf d (spSet d t k v) = true := by
  induction t with
  | nil => exact spWf_spCons rfl rfl
  | cons p t ih =>
    obtain ⟨j, x⟩ := p
    obtain ⟨hx, ha, hw⟩ := spWf_cons h
    unfold spSet
    split
    · rename_i hk
      refine spWf_spCons (spAbove_iff.2 ?_) h
      rintro q hq
      rcases List.mem_cons.1 hq with rfl | hq
      · exact hk
      · exact lt_trans hk (spAbove_iff.1 ha q hq)
    · split
      · exact spWf_spCons ((by rename_i e; exact e ▸ ha)) hw
      · rename_i hk hn
        have hjk : j < k := by omega
        simp only [spWf, Bool.and_eq_true, decide_eq_true_eq]
        exact ⟨⟨hx, spAbove_spSet hjk ha⟩, ih hw⟩

theorem spAbove_spMap {f : Nat → α → α} {j : Nat} {t : Sparse α} (h : spAbove j t = true) : spAbove j (spMap d f t) = true := by
  induction t with
  | nil => rfl
  | cons p t ih =>
    obtain ⟨i, x⟩ := p
    have hh := spAbove_iff.1 h
    exact spAbove_spCons (hh (i, x) (by simp)) (ih (spAbove_iff.2 (fun q hq => hh q (by simp [hq]))))

/-- Changing every listed value keeps the canonical form. -/
theorem spWf_spMap {f : Nat → α → α} {t : Sparse α} (h : spWf d t = true) : spWf d (spMap d f t) = true := by
  induction t with
  | nil => rfl
  | cons p t ih =>
    obtain ⟨j, x⟩ := p
    obtain ⟨-, ha, hw⟩ := spWf_cons h
    exact spWf_spCons (spAbove_spMap ha) (ih hw)

/-- Two stores in canonical form that read the same are the same list. -/
theorem sparse_ext {s t : Sparse α} (hs : spWf d s = true) (ht : spWf d t = true) (h : ∀ a, spGet d s a = spGet d t a) : s = t := by
  induction s generalizing t with
  | nil =>
    cases t with
    | nil => rfl
    | cons p t =>
      obtain ⟨hx, -, -⟩ := spWf_cons ht
      have := h p.1
      simp only [spGet, if_true] at this
      exact absurd this.symm hx
  | cons p s ih =>
    obtain ⟨hp, hpa, hpw⟩ := spWf_cons hs
    cases t with
    | nil =>
      have := h p.1
      simp only [spGet, if_true] at this
      exact absurd this hp
    | cons q t =>
      obtain ⟨hq, hqa, hqw⟩ := spWf_cons ht
      obtain ⟨i, x⟩ := p
      obtain ⟨j, y⟩ := q
      have hij : i = j := by
        rcases lt_trichotomy i j with hlt | he | hgt
        · have h1 := h i
          simp only [spGet, if_true, (Nat.ne_of_gt hlt), if_false] at h1
          rw [spGet_above (spAbove_mono (le_of_lt hlt) hqa)] at h1
          exact absurd h1 hp
        · exact he
        · have h1 := h j
          simp only [spGet, if_true, (Nat.ne_of_gt hgt), if_false] at h1
          rw [spGet_above (spAbove_mono (le_of_lt hgt) hpa)] at h1
          exact absurd h1.symm hq
      subst hij
      have hxy : x = y := by simpa [spGet] using h i
      subst hxy
      congr 1
      refine ih hpw hqw (fun a => ?_)
      rcases eq_or_ne i a with rfl | hne
      · rw [spGet_above hpa, spGet_above hqa]
      · simpa [spGet, hne] using h a

end Sys2Proof.Machine
end

