-- ==== Sys2Proof/Laws/Regs.lean ====
section
/-!
SUPPORT. Laws/Regs.lean: reading bits, fields and register words after writing them.
-/
namespace Sys2Proof.Machine

/-! ## Bits of a word -/

theorem bitMask_getLsbD (lo len i : Nat) : (bitMask lo len).getLsbD i = (decide (i < 48) && decide (lo ≤ i ∧ i < lo + len)) := by
  unfold bitMask
  rw [BitVec.getLsbD_ofNat, Nat.testBit_shiftLeft, Nat.testBit_two_pow_sub_one]
  by_cases h : lo ≤ i
  · have e : i - lo < len ↔ i < lo + len := by omega
    simp [h, e]
  · simp [h]

theorem setBits_getLsbD (w : Word) (lo len v i : Nat) : (setBits w lo len v).getLsbD i =
    (decide (i < 48) && (if lo ≤ i ∧ i < lo + len then v.testBit (i - lo) else w.getLsbD i)) := by
  unfold setBits
  rw [BitVec.getLsbD_or, BitVec.getLsbD_and, BitVec.getLsbD_not, bitMask_getLsbD, BitVec.getLsbD_ofNat, Nat.testBit_shiftLeft,
    Nat.testBit_mod_two_pow]
  by_cases h48 : i < 48
  · by_cases h1 : lo ≤ i <;> by_cases h2 : i < lo + len <;> simp [h48, h1, h2] <;> omega
  · simp [h48]

theorem getBits_testBit (w : Word) (lo len i : Nat) : (getBits w lo len).testBit i = (decide (i < len) && w.getLsbD (lo + i)) := by
  unfold getBits
  rw [Nat.testBit_mod_two_pow, Nat.testBit_shiftRight]
  rfl

/-- A field reads the low bits of what was written to it. -/
theorem getBits_setBits_same (w : Word) (lo len v : Nat) (h : lo + len ≤ 48) : getBits (setBits w lo len v) lo len = v % 2 ^ len := by
  apply Nat.eq_of_testBit_eq
  intro i
  rw [getBits_testBit, setBits_getLsbD, Nat.testBit_mod_two_pow]
  by_cases hi : i < len
  · have h48 : lo + i < 48 := by omega
    simp [hi, h48]
  · simp [hi]

/-- A field reads what it read before a write of bits it does not share. -/
theorem getBits_setBits_ne (w : Word) (lo len v lo' len' : Nat) (h : lo' + len' ≤ lo ∨ lo + len ≤ lo') :
    getBits (setBits w lo len v) lo' len' = getBits w lo' len' := by
  apply Nat.eq_of_testBit_eq
  intro i
  rw [getBits_testBit, getBits_testBit, setBits_getLsbD]
  by_cases hi : i < len'
  · have hn : ¬ (lo ≤ lo' + i ∧ lo' + i < lo + len) := by omega
    by_cases h48 : lo' + i < 48
    · simp [hi, hn, h48]
    · simp only [hi, decide_true, Bool.true_and, h48, decide_false, Bool.false_and]
      exact (BitVec.getLsbD_of_ge _ _ (by omega)).symm
  · simp [hi]

theorem getBits_lt (w : Word) (lo len : Nat) : getBits w lo len < 2 ^ len := Nat.mod_lt _ (Nat.two_pow_pos len)

/-! ## Register words and fields -/

/-- The register file in its canonical form. -/
abbrev regsWf (s : State) : Prop := spWf resetWord s.regs = true

theorem State.reg_setReg_same {s : State} (h : regsWf s) (a : Nat) (w : Word) : (s.setReg a w).reg a = w := spGet_spSet_same h

theorem State.reg_setReg_ne (s : State) {a b : Nat} (w : Word) (hne : b ≠ a) : (s.setReg a w).reg b = s.reg b := spGet_spSet_ne hne

theorem State.regsWf_setReg {s : State} (h : regsWf s) (a : Nat) (w : Word) : regsWf (s.setReg a w) := spWf_spSet h

theorem State.regsWf_put {s : State} (h : regsWf s) (f : Fld) (v : Nat) : regsWf (s.put f v) := spWf_spSet h

theorem State.reg_put_same {s : State} (h : regsWf s) (f : Fld) (v : Nat) : (s.put f v).reg f.addr = setBits (s.reg f.addr) f.lo f.len v :=
  spGet_spSet_same h

theorem State.reg_put_ne (s : State) (f : Fld) (v : Nat) {b : Nat} (hne : b ≠ f.addr) : (s.put f v).reg b = s.reg b := spGet_spSet_ne hne

/-- A field reads the low bits of what was put into it. -/
theorem State.get_put_same {s : State} (h : regsWf s) (f : Fld) (v : Nat) (hf : f.lo + f.len ≤ 48) : (s.put f v).get f = v % 2 ^ f.len := by
  unfold State.get
  rw [State.reg_put_same h, getBits_setBits_same _ _ _ _ hf]

/-- Fields that share no bit of a word. -/
def Fld.apart (f g : Fld) : Prop := f.addr ≠ g.addr ∨ f.lo + f.len ≤ g.lo ∨ g.lo + g.len ≤ f.lo

/-- A field reads what it read before another was put. -/
theorem State.get_put_ne {s : State} (h : regsWf s) (f g : Fld) (v : Nat) (hfg : Fld.apart f g) : (s.put f v).get g = s.get g := by
  unfold State.get
  by_cases ha : g.addr = f.addr
  · rw [ha, State.reg_put_same h]
    exact getBits_setBits_ne _ _ _ _ _ _ (by rcases hfg with h1 | h1 | h1 <;> [exact absurd ha.symm h1; exact Or.inr h1; exact Or.inl h1])
  · rw [State.reg_put_ne s f v ha]

/-! ## RAM and MRAM -/

theorem State.ramAt_ramSet_same {s : State} (h : spWf (fun _ => (0 : Word)) s.ram = true) (a : Nat) (v : Word) : (s.ramSet a v).ramAt a = v :=
  spGet_spSet_same h

theorem State.ramAt_ramSet_ne (s : State) {a b : Nat} (v : Word) (hne : b ≠ a) : (s.ramSet a v).ramAt b = s.ramAt b := spGet_spSet_ne hne

theorem State.ram_wf_ramSet {s : State} (h : spWf (fun _ => (0 : Word)) s.ram = true) (a : Nat) (v : Word) :
    spWf (fun _ => (0 : Word)) (s.ramSet a v).ram = true := spWf_spSet h

theorem State.mram_wf_mramSet (l : List Word) {s : State} (h : spWf (fun _ => (0 : Word)) s.mram = true) (a : Nat) :
    spWf (fun _ => (0 : Word)) (s.mramSet a l).mram = true := by
  induction l generalizing s a with
  | nil => exact h
  | cons w t ih => exact ih (spWf_spSet h) (a + 1)

end Sys2Proof.Machine
end

