-- ==== Sys2Proof/Laws/State.lean ====
section
/-!
SUPPORT. Laws/State.lean: one lemma for each field of the state and each update, so that no proof unfolds a record update.
-/
namespace Sys2Proof.Machine

variable (s : State)

@[simp] theorem State.setReg_ram (a : Nat) (w : Word) : (s.setReg a w).ram = s.ram := rfl
@[simp] theorem State.setReg_mram (a : Nat) (w : Word) : (s.setReg a w).mram = s.mram := rfl
@[simp] theorem State.setReg_core (a : Nat) (w : Word) : (s.setReg a w).core = s.core := rfl
@[simp] theorem State.setReg_time (a : Nat) (w : Word) : (s.setReg a w).time = s.time := rfl
@[simp] theorem State.setReg_mem (a : Nat) (w : Word) : (s.setReg a w).mem = s.mem := rfl
@[simp] theorem State.setReg_dbg (a : Nat) (w : Word) : (s.setReg a w).dbg = s.dbg := rfl
@[simp] theorem State.setReg_stage (a : Nat) (w : Word) : (s.setReg a w).stage = s.stage := rfl
@[simp] theorem State.setReg_pwr (a : Nat) (w : Word) : (s.setReg a w).pwr = s.pwr := rfl
@[simp] theorem State.setReg_flash (a : Nat) (w : Word) : (s.setReg a w).flash = s.flash := rfl
@[simp] theorem State.setReg_fadc (a : Nat) (w : Word) : (s.setReg a w).fadc = s.fadc := rfl
@[simp] theorem State.setReg_acq (a : Nat) (w : Word) : (s.setReg a w).acq = s.acq := rfl
@[simp] theorem State.setReg_pos (a : Nat) (w : Word) : (s.setReg a w).pos = s.pos := rfl
@[simp] theorem State.setReg_tc (a : Nat) (w : Word) : (s.setReg a w).tc = s.tc := rfl
@[simp] theorem State.setReg_iconv (a : Nat) (w : Word) : (s.setReg a w).iconv = s.iconv := rfl
@[simp] theorem State.setReg_net (a : Nat) (w : Word) : (s.setReg a w).net = s.net := rfl
@[simp] theorem State.setReg_sup (a : Nat) (w : Word) : (s.setReg a w).sup = s.sup := rfl
@[simp] theorem State.setReg_rsv (a : Nat) (w : Word) : (s.setReg a w).rsv = s.rsv := rfl
@[simp] theorem State.setReg_ledg (a : Nat) (w : Word) : (s.setReg a w).ledg = s.ledg := rfl
@[simp] theorem State.setReg_host (a : Nat) (w : Word) : (s.setReg a w).host = s.host := rfl
@[simp] theorem State.setReg_twin (a : Nat) (w : Word) : (s.setReg a w).twin = s.twin := rfl
@[simp] theorem State.setReg_link (a : Nat) (w : Word) : (s.setReg a w).link = s.link := rfl
@[simp] theorem State.setReg_now (a : Nat) (w : Word) : (s.setReg a w).now = s.now := rfl
@[simp] theorem State.setReg_gpioIn (a : Nat) (w : Word) : (s.setReg a w).gpioIn = s.gpioIn := rfl
@[simp] theorem State.setReg_sent (a : Nat) (w : Word) : (s.setReg a w).sent = s.sent := rfl
@[simp] theorem State.setReg_free (a : Nat) (w : Word) : (s.setReg a w).free = s.free := rfl
@[simp] theorem State.setReg_pending (a : Nat) (w : Word) : (s.setReg a w).pending = s.pending := rfl

@[simp] theorem State.put_ram (f : Fld) (v : Nat) : (s.put f v).ram = s.ram := rfl
@[simp] theorem State.put_mram (f : Fld) (v : Nat) : (s.put f v).mram = s.mram := rfl
@[simp] theorem State.put_core (f : Fld) (v : Nat) : (s.put f v).core = s.core := rfl
@[simp] theorem State.put_time (f : Fld) (v : Nat) : (s.put f v).time = s.time := rfl
@[simp] theorem State.put_mem (f : Fld) (v : Nat) : (s.put f v).mem = s.mem := rfl
@[simp] theorem State.put_dbg (f : Fld) (v : Nat) : (s.put f v).dbg = s.dbg := rfl
@[simp] theorem State.put_stage (f : Fld) (v : Nat) : (s.put f v).stage = s.stage := rfl
@[simp] theorem State.put_pwr (f : Fld) (v : Nat) : (s.put f v).pwr = s.pwr := rfl
@[simp] theorem State.put_flash (f : Fld) (v : Nat) : (s.put f v).flash = s.flash := rfl
@[simp] theorem State.put_fadc (f : Fld) (v : Nat) : (s.put f v).fadc = s.fadc := rfl
@[simp] theorem State.put_acq (f : Fld) (v : Nat) : (s.put f v).acq = s.acq := rfl
@[simp] theorem State.put_pos (f : Fld) (v : Nat) : (s.put f v).pos = s.pos := rfl
@[simp] theorem State.put_tc (f : Fld) (v : Nat) : (s.put f v).tc = s.tc := rfl
@[simp] theorem State.put_iconv (f : Fld) (v : Nat) : (s.put f v).iconv = s.iconv := rfl
@[simp] theorem State.put_net (f : Fld) (v : Nat) : (s.put f v).net = s.net := rfl
@[simp] theorem State.put_sup (f : Fld) (v : Nat) : (s.put f v).sup = s.sup := rfl
@[simp] theorem State.put_rsv (f : Fld) (v : Nat) : (s.put f v).rsv = s.rsv := rfl
@[simp] theorem State.put_ledg (f : Fld) (v : Nat) : (s.put f v).ledg = s.ledg := rfl
@[simp] theorem State.put_host (f : Fld) (v : Nat) : (s.put f v).host = s.host := rfl
@[simp] theorem State.put_twin (f : Fld) (v : Nat) : (s.put f v).twin = s.twin := rfl
@[simp] theorem State.put_link (f : Fld) (v : Nat) : (s.put f v).link = s.link := rfl
@[simp] theorem State.put_gpioIn (f : Fld) (v : Nat) : (s.put f v).gpioIn = s.gpioIn := rfl
@[simp] theorem State.put_sent (f : Fld) (v : Nat) : (s.put f v).sent = s.sent := rfl
@[simp] theorem State.put_free (f : Fld) (v : Nat) : (s.put f v).free = s.free := rfl
@[simp] theorem State.put_pending (f : Fld) (v : Nat) : (s.put f v).pending = s.pending := rfl

@[simp] theorem State.orF_ram (f : Fld) (m : Nat) : (s.orF f m).ram = s.ram := rfl
@[simp] theorem State.orF_mram (f : Fld) (m : Nat) : (s.orF f m).mram = s.mram := rfl
@[simp] theorem State.orF_core (f : Fld) (m : Nat) : (s.orF f m).core = s.core := rfl
@[simp] theorem State.orF_time (f : Fld) (m : Nat) : (s.orF f m).time = s.time := rfl
@[simp] theorem State.orF_mem (f : Fld) (m : Nat) : (s.orF f m).mem = s.mem := rfl
@[simp] theorem State.orF_dbg (f : Fld) (m : Nat) : (s.orF f m).dbg = s.dbg := rfl
@[simp] theorem State.orF_stage (f : Fld) (m : Nat) : (s.orF f m).stage = s.stage := rfl
@[simp] theorem State.orF_pwr (f : Fld) (m : Nat) : (s.orF f m).pwr = s.pwr := rfl
@[simp] theorem State.orF_flash (f : Fld) (m : Nat) : (s.orF f m).flash = s.flash := rfl
@[simp] theorem State.orF_fadc (f : Fld) (m : Nat) : (s.orF f m).fadc = s.fadc := rfl
@[simp] theorem State.orF_acq (f : Fld) (m : Nat) : (s.orF f m).acq = s.acq := rfl
@[simp] theorem State.orF_pos (f : Fld) (m : Nat) : (s.orF f m).pos = s.pos := rfl
@[simp] theorem State.orF_tc (f : Fld) (m : Nat) : (s.orF f m).tc = s.tc := rfl
@[simp] theorem State.orF_iconv (f : Fld) (m : Nat) : (s.orF f m).iconv = s.iconv := rfl
@[simp] theorem State.orF_net (f : Fld) (m : Nat) : (s.orF f m).net = s.net := rfl
@[simp] theorem State.orF_sup (f : Fld) (m : Nat) : (s.orF f m).sup = s.sup := rfl
@[simp] theorem State.orF_rsv (f : Fld) (m : Nat) : (s.orF f m).rsv = s.rsv := rfl
@[simp] theorem State.orF_ledg (f : Fld) (m : Nat) : (s.orF f m).ledg = s.ledg := rfl
@[simp] theorem State.orF_host (f : Fld) (m : Nat) : (s.orF f m).host = s.host := rfl
@[simp] theorem State.orF_twin (f : Fld) (m : Nat) : (s.orF f m).twin = s.twin := rfl
@[simp] theorem State.orF_link (f : Fld) (m : Nat) : (s.orF f m).link = s.link := rfl
@[simp] theorem State.orF_gpioIn (f : Fld) (m : Nat) : (s.orF f m).gpioIn = s.gpioIn := rfl
@[simp] theorem State.orF_sent (f : Fld) (m : Nat) : (s.orF f m).sent = s.sent := rfl
@[simp] theorem State.orF_free (f : Fld) (m : Nat) : (s.orF f m).free = s.free := rfl
@[simp] theorem State.orF_pending (f : Fld) (m : Nat) : (s.orF f m).pending = s.pending := rfl

@[simp] theorem State.putB_ram (f : Fld) (b : Bool) : (s.putB f b).ram = s.ram := rfl
@[simp] theorem State.putB_mram (f : Fld) (b : Bool) : (s.putB f b).mram = s.mram := rfl
@[simp] theorem State.putB_core (f : Fld) (b : Bool) : (s.putB f b).core = s.core := rfl
@[simp] theorem State.putB_time (f : Fld) (b : Bool) : (s.putB f b).time = s.time := rfl
@[simp] theorem State.putB_mem (f : Fld) (b : Bool) : (s.putB f b).mem = s.mem := rfl
@[simp] theorem State.putB_dbg (f : Fld) (b : Bool) : (s.putB f b).dbg = s.dbg := rfl
@[simp] theorem State.putB_stage (f : Fld) (b : Bool) : (s.putB f b).stage = s.stage := rfl
@[simp] theorem State.putB_pwr (f : Fld) (b : Bool) : (s.putB f b).pwr = s.pwr := rfl
@[simp] theorem State.putB_flash (f : Fld) (b : Bool) : (s.putB f b).flash = s.flash := rfl
@[simp] theorem State.putB_fadc (f : Fld) (b : Bool) : (s.putB f b).fadc = s.fadc := rfl
@[simp] theorem State.putB_acq (f : Fld) (b : Bool) : (s.putB f b).acq = s.acq := rfl
@[simp] theorem State.putB_pos (f : Fld) (b : Bool) : (s.putB f b).pos = s.pos := rfl
@[simp] theorem State.putB_tc (f : Fld) (b : Bool) : (s.putB f b).tc = s.tc := rfl
@[simp] theorem State.putB_iconv (f : Fld) (b : Bool) : (s.putB f b).iconv = s.iconv := rfl
@[simp] theorem State.putB_net (f : Fld) (b : Bool) : (s.putB f b).net = s.net := rfl
@[simp] theorem State.putB_sup (f : Fld) (b : Bool) : (s.putB f b).sup = s.sup := rfl
@[simp] theorem State.putB_rsv (f : Fld) (b : Bool) : (s.putB f b).rsv = s.rsv := rfl
@[simp] theorem State.putB_ledg (f : Fld) (b : Bool) : (s.putB f b).ledg = s.ledg := rfl
@[simp] theorem State.putB_host (f : Fld) (b : Bool) : (s.putB f b).host = s.host := rfl
@[simp] theorem State.putB_twin (f : Fld) (b : Bool) : (s.putB f b).twin = s.twin := rfl
@[simp] theorem State.putB_link (f : Fld) (b : Bool) : (s.putB f b).link = s.link := rfl
@[simp] theorem State.putB_gpioIn (f : Fld) (b : Bool) : (s.putB f b).gpioIn = s.gpioIn := rfl
@[simp] theorem State.putB_sent (f : Fld) (b : Bool) : (s.putB f b).sent = s.sent := rfl
@[simp] theorem State.putB_free (f : Fld) (b : Bool) : (s.putB f b).free = s.free := rfl
@[simp] theorem State.putB_pending (f : Fld) (b : Bool) : (s.putB f b).pending = s.pending := rfl

@[simp] theorem State.bump_ram (f : Fld) (k : Nat) : (s.bump f k).ram = s.ram := rfl
@[simp] theorem State.bump_mram (f : Fld) (k : Nat) : (s.bump f k).mram = s.mram := rfl
@[simp] theorem State.bump_core (f : Fld) (k : Nat) : (s.bump f k).core = s.core := rfl
@[simp] theorem State.bump_time (f : Fld) (k : Nat) : (s.bump f k).time = s.time := rfl
@[simp] theorem State.bump_mem (f : Fld) (k : Nat) : (s.bump f k).mem = s.mem := rfl
@[simp] theorem State.bump_dbg (f : Fld) (k : Nat) : (s.bump f k).dbg = s.dbg := rfl
@[simp] theorem State.bump_stage (f : Fld) (k : Nat) : (s.bump f k).stage = s.stage := rfl
@[simp] theorem State.bump_pwr (f : Fld) (k : Nat) : (s.bump f k).pwr = s.pwr := rfl
@[simp] theorem State.bump_flash (f : Fld) (k : Nat) : (s.bump f k).flash = s.flash := rfl
@[simp] theorem State.bump_fadc (f : Fld) (k : Nat) : (s.bump f k).fadc = s.fadc := rfl
@[simp] theorem State.bump_acq (f : Fld) (k : Nat) : (s.bump f k).acq = s.acq := rfl
@[simp] theorem State.bump_pos (f : Fld) (k : Nat) : (s.bump f k).pos = s.pos := rfl
@[simp] theorem State.bump_tc (f : Fld) (k : Nat) : (s.bump f k).tc = s.tc := rfl
@[simp] theorem State.bump_iconv (f : Fld) (k : Nat) : (s.bump f k).iconv = s.iconv := rfl
@[simp] theorem State.bump_net (f : Fld) (k : Nat) : (s.bump f k).net = s.net := rfl
@[simp] theorem State.bump_sup (f : Fld) (k : Nat) : (s.bump f k).sup = s.sup := rfl
@[simp] theorem State.bump_rsv (f : Fld) (k : Nat) : (s.bump f k).rsv = s.rsv := rfl
@[simp] theorem State.bump_ledg (f : Fld) (k : Nat) : (s.bump f k).ledg = s.ledg := rfl
@[simp] theorem State.bump_host (f : Fld) (k : Nat) : (s.bump f k).host = s.host := rfl
@[simp] theorem State.bump_twin (f : Fld) (k : Nat) : (s.bump f k).twin = s.twin := rfl
@[simp] theorem State.bump_link (f : Fld) (k : Nat) : (s.bump f k).link = s.link := rfl
@[simp] theorem State.bump_gpioIn (f : Fld) (k : Nat) : (s.bump f k).gpioIn = s.gpioIn := rfl
@[simp] theorem State.bump_sent (f : Fld) (k : Nat) : (s.bump f k).sent = s.sent := rfl
@[simp] theorem State.bump_free (f : Fld) (k : Nat) : (s.bump f k).free = s.free := rfl
@[simp] theorem State.bump_pending (f : Fld) (k : Nat) : (s.bump f k).pending = s.pending := rfl

@[simp] theorem State.useFree_regs (k : Nat) : (s.useFree k).regs = s.regs := rfl
@[simp] theorem State.useFree_ram (k : Nat) : (s.useFree k).ram = s.ram := rfl
@[simp] theorem State.useFree_mram (k : Nat) : (s.useFree k).mram = s.mram := rfl
@[simp] theorem State.useFree_core (k : Nat) : (s.useFree k).core = s.core := rfl
@[simp] theorem State.useFree_time (k : Nat) : (s.useFree k).time = s.time := rfl
@[simp] theorem State.useFree_mem (k : Nat) : (s.useFree k).mem = s.mem := rfl
@[simp] theorem State.useFree_dbg (k : Nat) : (s.useFree k).dbg = s.dbg := rfl
@[simp] theorem State.useFree_stage (k : Nat) : (s.useFree k).stage = s.stage := rfl
@[simp] theorem State.useFree_pwr (k : Nat) : (s.useFree k).pwr = s.pwr := rfl
@[simp] theorem State.useFree_flash (k : Nat) : (s.useFree k).flash = s.flash := rfl
@[simp] theorem State.useFree_fadc (k : Nat) : (s.useFree k).fadc = s.fadc := rfl
@[simp] theorem State.useFree_acq (k : Nat) : (s.useFree k).acq = s.acq := rfl
@[simp] theorem State.useFree_pos (k : Nat) : (s.useFree k).pos = s.pos := rfl
@[simp] theorem State.useFree_tc (k : Nat) : (s.useFree k).tc = s.tc := rfl
@[simp] theorem State.useFree_iconv (k : Nat) : (s.useFree k).iconv = s.iconv := rfl
@[simp] theorem State.useFree_net (k : Nat) : (s.useFree k).net = s.net := rfl
@[simp] theorem State.useFree_sup (k : Nat) : (s.useFree k).sup = s.sup := rfl
@[simp] theorem State.useFree_rsv (k : Nat) : (s.useFree k).rsv = s.rsv := rfl
@[simp] theorem State.useFree_ledg (k : Nat) : (s.useFree k).ledg = s.ledg := rfl
@[simp] theorem State.useFree_host (k : Nat) : (s.useFree k).host = s.host := rfl
@[simp] theorem State.useFree_twin (k : Nat) : (s.useFree k).twin = s.twin := rfl
@[simp] theorem State.useFree_link (k : Nat) : (s.useFree k).link = s.link := rfl
@[simp] theorem State.useFree_now (k : Nat) : (s.useFree k).now = s.now := rfl
@[simp] theorem State.useFree_gpioIn (k : Nat) : (s.useFree k).gpioIn = s.gpioIn := rfl
@[simp] theorem State.useFree_sent (k : Nat) : (s.useFree k).sent = s.sent := rfl
@[simp] theorem State.useFree_free (k : Nat) : (s.useFree k).free = s.free + k := rfl
@[simp] theorem State.useFree_pending (k : Nat) : (s.useFree k).pending = s.pending := rfl

@[simp] theorem State.setStrand_regs (i : StrandId) (x : Strand) : (s.setStrand i x).regs = s.regs := rfl
@[simp] theorem State.setStrand_ram (i : StrandId) (x : Strand) : (s.setStrand i x).ram = s.ram := rfl
@[simp] theorem State.setStrand_mram (i : StrandId) (x : Strand) : (s.setStrand i x).mram = s.mram := rfl
@[simp] theorem State.setStrand_core (i : StrandId) (x : Strand) : (s.setStrand i x).core = { s.core with strands := s.core.strands.set i x } := rfl
@[simp] theorem State.setStrand_time (i : StrandId) (x : Strand) : (s.setStrand i x).time = s.time := rfl
@[simp] theorem State.setStrand_mem (i : StrandId) (x : Strand) : (s.setStrand i x).mem = s.mem := rfl
@[simp] theorem State.setStrand_dbg (i : StrandId) (x : Strand) : (s.setStrand i x).dbg = s.dbg := rfl
@[simp] theorem State.setStrand_stage (i : StrandId) (x : Strand) : (s.setStrand i x).stage = s.stage := rfl
@[simp] theorem State.setStrand_pwr (i : StrandId) (x : Strand) : (s.setStrand i x).pwr = s.pwr := rfl
@[simp] theorem State.setStrand_flash (i : StrandId) (x : Strand) : (s.setStrand i x).flash = s.flash := rfl
@[simp] theorem State.setStrand_fadc (i : StrandId) (x : Strand) : (s.setStrand i x).fadc = s.fadc := rfl
@[simp] theorem State.setStrand_acq (i : StrandId) (x : Strand) : (s.setStrand i x).acq = s.acq := rfl
@[simp] theorem State.setStrand_pos (i : StrandId) (x : Strand) : (s.setStrand i x).pos = s.pos := rfl
@[simp] theorem State.setStrand_tc (i : StrandId) (x : Strand) : (s.setStrand i x).tc = s.tc := rfl
@[simp] theorem State.setStrand_iconv (i : StrandId) (x : Strand) : (s.setStrand i x).iconv = s.iconv := rfl
@[simp] theorem State.setStrand_net (i : StrandId) (x : Strand) : (s.setStrand i x).net = s.net := rfl
@[simp] theorem State.setStrand_sup (i : StrandId) (x : Strand) : (s.setStrand i x).sup = s.sup := rfl
@[simp] theorem State.setStrand_rsv (i : StrandId) (x : Strand) : (s.setStrand i x).rsv = s.rsv := rfl
@[simp] theorem State.setStrand_ledg (i : StrandId) (x : Strand) : (s.setStrand i x).ledg = s.ledg := rfl
@[simp] theorem State.setStrand_host (i : StrandId) (x : Strand) : (s.setStrand i x).host = s.host := rfl
@[simp] theorem State.setStrand_twin (i : StrandId) (x : Strand) : (s.setStrand i x).twin = s.twin := rfl
@[simp] theorem State.setStrand_link (i : StrandId) (x : Strand) : (s.setStrand i x).link = s.link := rfl
@[simp] theorem State.setStrand_now (i : StrandId) (x : Strand) : (s.setStrand i x).now = s.now := rfl
@[simp] theorem State.setStrand_gpioIn (i : StrandId) (x : Strand) : (s.setStrand i x).gpioIn = s.gpioIn := rfl
@[simp] theorem State.setStrand_sent (i : StrandId) (x : Strand) : (s.setStrand i x).sent = s.sent := rfl
@[simp] theorem State.setStrand_free (i : StrandId) (x : Strand) : (s.setStrand i x).free = s.free := rfl
@[simp] theorem State.setStrand_pending (i : StrandId) (x : Strand) : (s.setStrand i x).pending = s.pending := rfl

@[simp] theorem State.modStrand_regs (i : StrandId) (f : Strand → Strand) : (s.modStrand i f).regs = s.regs := rfl
@[simp] theorem State.modStrand_ram (i : StrandId) (f : Strand → Strand) : (s.modStrand i f).ram = s.ram := rfl
@[simp] theorem State.modStrand_mram (i : StrandId) (f : Strand → Strand) : (s.modStrand i f).mram = s.mram := rfl
@[simp] theorem State.modStrand_core (i : StrandId) (f : Strand → Strand) : (s.modStrand i f).core = { s.core with strands := s.core.strands.set i (f (s.strand i)) } := rfl
@[simp] theorem State.modStrand_time (i : StrandId) (f : Strand → Strand) : (s.modStrand i f).time = s.time := rfl
@[simp] theorem State.modStrand_mem (i : StrandId) (f : Strand → Strand) : (s.modStrand i f).mem = s.mem := rfl
@[simp] theorem State.modStrand_dbg (i : StrandId) (f : Strand → Strand) : (s.modStrand i f).dbg = s.dbg := rfl
@[simp] theorem State.modStrand_stage (i : StrandId) (f : Strand → Strand) : (s.modStrand i f).stage = s.stage := rfl
@[simp] theorem State.modStrand_pwr (i : StrandId) (f : Strand → Strand) : (s.modStrand i f).pwr = s.pwr := rfl
@[simp] theorem State.modStrand_flash (i : StrandId) (f : Strand → Strand) : (s.modStrand i f).flash = s.flash := rfl
@[simp] theorem State.modStrand_fadc (i : StrandId) (f : Strand → Strand) : (s.modStrand i f).fadc = s.fadc := rfl
@[simp] theorem State.modStrand_acq (i : StrandId) (f : Strand → Strand) : (s.modStrand i f).acq = s.acq := rfl
@[simp] theorem State.modStrand_pos (i : StrandId) (f : Strand → Strand) : (s.modStrand i f).pos = s.pos := rfl
@[simp] theorem State.modStrand_tc (i : StrandId) (f : Strand → Strand) : (s.modStrand i f).tc = s.tc := rfl
@[simp] theorem State.modStrand_iconv (i : StrandId) (f : Strand → Strand) : (s.modStrand i f).iconv = s.iconv := rfl
@[simp] theorem State.modStrand_net (i : StrandId) (f : Strand → Strand) : (s.modStrand i f).net = s.net := rfl
@[simp] theorem State.modStrand_sup (i : StrandId) (f : Strand → Strand) : (s.modStrand i f).sup = s.sup := rfl
@[simp] theorem State.modStrand_rsv (i : StrandId) (f : Strand → Strand) : (s.modStrand i f).rsv = s.rsv := rfl
@[simp] theorem State.modStrand_ledg (i : StrandId) (f : Strand → Strand) : (s.modStrand i f).ledg = s.ledg := rfl
@[simp] theorem State.modStrand_host (i : StrandId) (f : Strand → Strand) : (s.modStrand i f).host = s.host := rfl
@[simp] theorem State.modStrand_twin (i : StrandId) (f : Strand → Strand) : (s.modStrand i f).twin = s.twin := rfl
@[simp] theorem State.modStrand_link (i : StrandId) (f : Strand → Strand) : (s.modStrand i f).link = s.link := rfl
@[simp] theorem State.modStrand_now (i : StrandId) (f : Strand → Strand) : (s.modStrand i f).now = s.now := rfl
@[simp] theorem State.modStrand_gpioIn (i : StrandId) (f : Strand → Strand) : (s.modStrand i f).gpioIn = s.gpioIn := rfl
@[simp] theorem State.modStrand_sent (i : StrandId) (f : Strand → Strand) : (s.modStrand i f).sent = s.sent := rfl
@[simp] theorem State.modStrand_free (i : StrandId) (f : Strand → Strand) : (s.modStrand i f).free = s.free := rfl
@[simp] theorem State.modStrand_pending (i : StrandId) (f : Strand → Strand) : (s.modStrand i f).pending = s.pending := rfl

@[simp] theorem State.ramSet_regs (a : Nat) (v : Word) : (s.ramSet a v).regs = s.regs := rfl
@[simp] theorem State.ramSet_ram (a : Nat) (v : Word) : (s.ramSet a v).ram = spSet (fun _ => 0) s.ram a v := rfl
@[simp] theorem State.ramSet_mram (a : Nat) (v : Word) : (s.ramSet a v).mram = s.mram := rfl
@[simp] theorem State.ramSet_core (a : Nat) (v : Word) : (s.ramSet a v).core = s.core := rfl
@[simp] theorem State.ramSet_time (a : Nat) (v : Word) : (s.ramSet a v).time = s.time := rfl
@[simp] theorem State.ramSet_dbg (a : Nat) (v : Word) : (s.ramSet a v).dbg = s.dbg := rfl
@[simp] theorem State.ramSet_stage (a : Nat) (v : Word) : (s.ramSet a v).stage = s.stage := rfl
@[simp] theorem State.ramSet_pwr (a : Nat) (v : Word) : (s.ramSet a v).pwr = s.pwr := rfl
@[simp] theorem State.ramSet_flash (a : Nat) (v : Word) : (s.ramSet a v).flash = s.flash := rfl
@[simp] theorem State.ramSet_fadc (a : Nat) (v : Word) : (s.ramSet a v).fadc = s.fadc := rfl
@[simp] theorem State.ramSet_acq (a : Nat) (v : Word) : (s.ramSet a v).acq = s.acq := rfl
@[simp] theorem State.ramSet_pos (a : Nat) (v : Word) : (s.ramSet a v).pos = s.pos := rfl
@[simp] theorem State.ramSet_tc (a : Nat) (v : Word) : (s.ramSet a v).tc = s.tc := rfl
@[simp] theorem State.ramSet_iconv (a : Nat) (v : Word) : (s.ramSet a v).iconv = s.iconv := rfl
@[simp] theorem State.ramSet_net (a : Nat) (v : Word) : (s.ramSet a v).net = s.net := rfl
@[simp] theorem State.ramSet_sup (a : Nat) (v : Word) : (s.ramSet a v).sup = s.sup := rfl
@[simp] theorem State.ramSet_rsv (a : Nat) (v : Word) : (s.ramSet a v).rsv = s.rsv := rfl
@[simp] theorem State.ramSet_ledg (a : Nat) (v : Word) : (s.ramSet a v).ledg = s.ledg := rfl
@[simp] theorem State.ramSet_host (a : Nat) (v : Word) : (s.ramSet a v).host = s.host := rfl
@[simp] theorem State.ramSet_twin (a : Nat) (v : Word) : (s.ramSet a v).twin = s.twin := rfl
@[simp] theorem State.ramSet_link (a : Nat) (v : Word) : (s.ramSet a v).link = s.link := rfl
@[simp] theorem State.ramSet_now (a : Nat) (v : Word) : (s.ramSet a v).now = s.now := rfl
@[simp] theorem State.ramSet_gpioIn (a : Nat) (v : Word) : (s.ramSet a v).gpioIn = s.gpioIn := rfl
@[simp] theorem State.ramSet_sent (a : Nat) (v : Word) : (s.ramSet a v).sent = s.sent := rfl
@[simp] theorem State.ramSet_pending (a : Nat) (v : Word) : (s.ramSet a v).pending = s.pending := rfl

@[simp] theorem State.modMem_regs (f : Mem → Mem) : (s.modMem f).regs = s.regs := rfl
@[simp] theorem State.modMem_ram (f : Mem → Mem) : (s.modMem f).ram = s.ram := rfl
@[simp] theorem State.modMem_mram (f : Mem → Mem) : (s.modMem f).mram = s.mram := rfl
@[simp] theorem State.modMem_core (f : Mem → Mem) : (s.modMem f).core = s.core := rfl
@[simp] theorem State.modMem_time (f : Mem → Mem) : (s.modMem f).time = s.time := rfl
@[simp] theorem State.modMem_mem (f : Mem → Mem) : (s.modMem f).mem = f s.mem := rfl
@[simp] theorem State.modMem_dbg (f : Mem → Mem) : (s.modMem f).dbg = s.dbg := rfl
@[simp] theorem State.modMem_stage (f : Mem → Mem) : (s.modMem f).stage = s.stage := rfl
@[simp] theorem State.modMem_pwr (f : Mem → Mem) : (s.modMem f).pwr = s.pwr := rfl
@[simp] theorem State.modMem_flash (f : Mem → Mem) : (s.modMem f).flash = s.flash := rfl
@[simp] theorem State.modMem_fadc (f : Mem → Mem) : (s.modMem f).fadc = s.fadc := rfl
@[simp] theorem State.modMem_acq (f : Mem → Mem) : (s.modMem f).acq = s.acq := rfl
@[simp] theorem State.modMem_pos (f : Mem → Mem) : (s.modMem f).pos = s.pos := rfl
@[simp] theorem State.modMem_tc (f : Mem → Mem) : (s.modMem f).tc = s.tc := rfl
@[simp] theorem State.modMem_iconv (f : Mem → Mem) : (s.modMem f).iconv = s.iconv := rfl
@[simp] theorem State.modMem_net (f : Mem → Mem) : (s.modMem f).net = s.net := rfl
@[simp] theorem State.modMem_sup (f : Mem → Mem) : (s.modMem f).sup = s.sup := rfl
@[simp] theorem State.modMem_rsv (f : Mem → Mem) : (s.modMem f).rsv = s.rsv := rfl
@[simp] theorem State.modMem_ledg (f : Mem → Mem) : (s.modMem f).ledg = s.ledg := rfl
@[simp] theorem State.modMem_host (f : Mem → Mem) : (s.modMem f).host = s.host := rfl
@[simp] theorem State.modMem_twin (f : Mem → Mem) : (s.modMem f).twin = s.twin := rfl
@[simp] theorem State.modMem_link (f : Mem → Mem) : (s.modMem f).link = s.link := rfl
@[simp] theorem State.modMem_now (f : Mem → Mem) : (s.modMem f).now = s.now := rfl
@[simp] theorem State.modMem_gpioIn (f : Mem → Mem) : (s.modMem f).gpioIn = s.gpioIn := rfl
@[simp] theorem State.modMem_sent (f : Mem → Mem) : (s.modMem f).sent = s.sent := rfl
@[simp] theorem State.modMem_free (f : Mem → Mem) : (s.modMem f).free = s.free := rfl
@[simp] theorem State.modMem_pending (f : Mem → Mem) : (s.modMem f).pending = s.pending := rfl

@[simp] theorem State.modTime_regs (f : Time → Time) : (s.modTime f).regs = s.regs := rfl
@[simp] theorem State.modTime_ram (f : Time → Time) : (s.modTime f).ram = s.ram := rfl
@[simp] theorem State.modTime_mram (f : Time → Time) : (s.modTime f).mram = s.mram := rfl
@[simp] theorem State.modTime_core (f : Time → Time) : (s.modTime f).core = s.core := rfl
@[simp] theorem State.modTime_time (f : Time → Time) : (s.modTime f).time = f s.time := rfl
@[simp] theorem State.modTime_mem (f : Time → Time) : (s.modTime f).mem = s.mem := rfl
@[simp] theorem State.modTime_dbg (f : Time → Time) : (s.modTime f).dbg = s.dbg := rfl
@[simp] theorem State.modTime_stage (f : Time → Time) : (s.modTime f).stage = s.stage := rfl
@[simp] theorem State.modTime_pwr (f : Time → Time) : (s.modTime f).pwr = s.pwr := rfl
@[simp] theorem State.modTime_flash (f : Time → Time) : (s.modTime f).flash = s.flash := rfl
@[simp] theorem State.modTime_fadc (f : Time → Time) : (s.modTime f).fadc = s.fadc := rfl
@[simp] theorem State.modTime_acq (f : Time → Time) : (s.modTime f).acq = s.acq := rfl
@[simp] theorem State.modTime_pos (f : Time → Time) : (s.modTime f).pos = s.pos := rfl
@[simp] theorem State.modTime_tc (f : Time → Time) : (s.modTime f).tc = s.tc := rfl
@[simp] theorem State.modTime_iconv (f : Time → Time) : (s.modTime f).iconv = s.iconv := rfl
@[simp] theorem State.modTime_net (f : Time → Time) : (s.modTime f).net = s.net := rfl
@[simp] theorem State.modTime_sup (f : Time → Time) : (s.modTime f).sup = s.sup := rfl
@[simp] theorem State.modTime_rsv (f : Time → Time) : (s.modTime f).rsv = s.rsv := rfl
@[simp] theorem State.modTime_ledg (f : Time → Time) : (s.modTime f).ledg = s.ledg := rfl
@[simp] theorem State.modTime_host (f : Time → Time) : (s.modTime f).host = s.host := rfl
@[simp] theorem State.modTime_twin (f : Time → Time) : (s.modTime f).twin = s.twin := rfl
@[simp] theorem State.modTime_link (f : Time → Time) : (s.modTime f).link = s.link := rfl
@[simp] theorem State.modTime_now (f : Time → Time) : (s.modTime f).now = s.now := rfl
@[simp] theorem State.modTime_gpioIn (f : Time → Time) : (s.modTime f).gpioIn = s.gpioIn := rfl
@[simp] theorem State.modTime_sent (f : Time → Time) : (s.modTime f).sent = s.sent := rfl
@[simp] theorem State.modTime_free (f : Time → Time) : (s.modTime f).free = s.free := rfl
@[simp] theorem State.modTime_pending (f : Time → Time) : (s.modTime f).pending = s.pending := rfl

@[simp] theorem State.modPwr_regs (f : Power → Power) : (s.modPwr f).regs = s.regs := rfl
@[simp] theorem State.modPwr_ram (f : Power → Power) : (s.modPwr f).ram = s.ram := rfl
@[simp] theorem State.modPwr_mram (f : Power → Power) : (s.modPwr f).mram = s.mram := rfl
@[simp] theorem State.modPwr_core (f : Power → Power) : (s.modPwr f).core = s.core := rfl
@[simp] theorem State.modPwr_time (f : Power → Power) : (s.modPwr f).time = s.time := rfl
@[simp] theorem State.modPwr_mem (f : Power → Power) : (s.modPwr f).mem = s.mem := rfl
@[simp] theorem State.modPwr_dbg (f : Power → Power) : (s.modPwr f).dbg = s.dbg := rfl
@[simp] theorem State.modPwr_stage (f : Power → Power) : (s.modPwr f).stage = s.stage := rfl
@[simp] theorem State.modPwr_pwr (f : Power → Power) : (s.modPwr f).pwr = f s.pwr := rfl
@[simp] theorem State.modPwr_flash (f : Power → Power) : (s.modPwr f).flash = s.flash := rfl
@[simp] theorem State.modPwr_fadc (f : Power → Power) : (s.modPwr f).fadc = s.fadc := rfl
@[simp] theorem State.modPwr_acq (f : Power → Power) : (s.modPwr f).acq = s.acq := rfl
@[simp] theorem State.modPwr_pos (f : Power → Power) : (s.modPwr f).pos = s.pos := rfl
@[simp] theorem State.modPwr_tc (f : Power → Power) : (s.modPwr f).tc = s.tc := rfl
@[simp] theorem State.modPwr_iconv (f : Power → Power) : (s.modPwr f).iconv = s.iconv := rfl
@[simp] theorem State.modPwr_net (f : Power → Power) : (s.modPwr f).net = s.net := rfl
@[simp] theorem State.modPwr_sup (f : Power → Power) : (s.modPwr f).sup = s.sup := rfl
@[simp] theorem State.modPwr_rsv (f : Power → Power) : (s.modPwr f).rsv = s.rsv := rfl
@[simp] theorem State.modPwr_ledg (f : Power → Power) : (s.modPwr f).ledg = s.ledg := rfl
@[simp] theorem State.modPwr_host (f : Power → Power) : (s.modPwr f).host = s.host := rfl
@[simp] theorem State.modPwr_twin (f : Power → Power) : (s.modPwr f).twin = s.twin := rfl
@[simp] theorem State.modPwr_link (f : Power → Power) : (s.modPwr f).link = s.link := rfl
@[simp] theorem State.modPwr_now (f : Power → Power) : (s.modPwr f).now = s.now := rfl
@[simp] theorem State.modPwr_gpioIn (f : Power → Power) : (s.modPwr f).gpioIn = s.gpioIn := rfl
@[simp] theorem State.modPwr_sent (f : Power → Power) : (s.modPwr f).sent = s.sent := rfl
@[simp] theorem State.modPwr_free (f : Power → Power) : (s.modPwr f).free = s.free := rfl
@[simp] theorem State.modPwr_pending (f : Power → Power) : (s.modPwr f).pending = s.pending := rfl

@[simp] theorem State.modDbg_regs (f : Debug → Debug) : (s.modDbg f).regs = s.regs := rfl
@[simp] theorem State.modDbg_ram (f : Debug → Debug) : (s.modDbg f).ram = s.ram := rfl
@[simp] theorem State.modDbg_mram (f : Debug → Debug) : (s.modDbg f).mram = s.mram := rfl
@[simp] theorem State.modDbg_core (f : Debug → Debug) : (s.modDbg f).core = s.core := rfl
@[simp] theorem State.modDbg_time (f : Debug → Debug) : (s.modDbg f).time = s.time := rfl
@[simp] theorem State.modDbg_mem (f : Debug → Debug) : (s.modDbg f).mem = s.mem := rfl
@[simp] theorem State.modDbg_dbg (f : Debug → Debug) : (s.modDbg f).dbg = f s.dbg := rfl
@[simp] theorem State.modDbg_stage (f : Debug → Debug) : (s.modDbg f).stage = s.stage := rfl
@[simp] theorem State.modDbg_pwr (f : Debug → Debug) : (s.modDbg f).pwr = s.pwr := rfl
@[simp] theorem State.modDbg_flash (f : Debug → Debug) : (s.modDbg f).flash = s.flash := rfl
@[simp] theorem State.modDbg_fadc (f : Debug → Debug) : (s.modDbg f).fadc = s.fadc := rfl
@[simp] theorem State.modDbg_acq (f : Debug → Debug) : (s.modDbg f).acq = s.acq := rfl
@[simp] theorem State.modDbg_pos (f : Debug → Debug) : (s.modDbg f).pos = s.pos := rfl
@[simp] theorem State.modDbg_tc (f : Debug → Debug) : (s.modDbg f).tc = s.tc := rfl
@[simp] theorem State.modDbg_iconv (f : Debug → Debug) : (s.modDbg f).iconv = s.iconv := rfl
@[simp] theorem State.modDbg_net (f : Debug → Debug) : (s.modDbg f).net = s.net := rfl
@[simp] theorem State.modDbg_sup (f : Debug → Debug) : (s.modDbg f).sup = s.sup := rfl
@[simp] theorem State.modDbg_rsv (f : Debug → Debug) : (s.modDbg f).rsv = s.rsv := rfl
@[simp] theorem State.modDbg_ledg (f : Debug → Debug) : (s.modDbg f).ledg = s.ledg := rfl
@[simp] theorem State.modDbg_host (f : Debug → Debug) : (s.modDbg f).host = s.host := rfl
@[simp] theorem State.modDbg_twin (f : Debug → Debug) : (s.modDbg f).twin = s.twin := rfl
@[simp] theorem State.modDbg_link (f : Debug → Debug) : (s.modDbg f).link = s.link := rfl
@[simp] theorem State.modDbg_now (f : Debug → Debug) : (s.modDbg f).now = s.now := rfl
@[simp] theorem State.modDbg_gpioIn (f : Debug → Debug) : (s.modDbg f).gpioIn = s.gpioIn := rfl
@[simp] theorem State.modDbg_sent (f : Debug → Debug) : (s.modDbg f).sent = s.sent := rfl
@[simp] theorem State.modDbg_free (f : Debug → Debug) : (s.modDbg f).free = s.free := rfl
@[simp] theorem State.modDbg_pending (f : Debug → Debug) : (s.modDbg f).pending = s.pending := rfl

@[simp] theorem State.modHost_regs (f : HostPort → HostPort) : (s.modHost f).regs = s.regs := rfl
@[simp] theorem State.modHost_ram (f : HostPort → HostPort) : (s.modHost f).ram = s.ram := rfl
@[simp] theorem State.modHost_mram (f : HostPort → HostPort) : (s.modHost f).mram = s.mram := rfl
@[simp] theorem State.modHost_core (f : HostPort → HostPort) : (s.modHost f).core = s.core := rfl
@[simp] theorem State.modHost_time (f : HostPort → HostPort) : (s.modHost f).time = s.time := rfl
@[simp] theorem State.modHost_mem (f : HostPort → HostPort) : (s.modHost f).mem = s.mem := rfl
@[simp] theorem State.modHost_dbg (f : HostPort → HostPort) : (s.modHost f).dbg = s.dbg := rfl
@[simp] theorem State.modHost_stage (f : HostPort → HostPort) : (s.modHost f).stage = s.stage := rfl
@[simp] theorem State.modHost_pwr (f : HostPort → HostPort) : (s.modHost f).pwr = s.pwr := rfl
@[simp] theorem State.modHost_flash (f : HostPort → HostPort) : (s.modHost f).flash = s.flash := rfl
@[simp] theorem State.modHost_fadc (f : HostPort → HostPort) : (s.modHost f).fadc = s.fadc := rfl
@[simp] theorem State.modHost_acq (f : HostPort → HostPort) : (s.modHost f).acq = s.acq := rfl
@[simp] theorem State.modHost_pos (f : HostPort → HostPort) : (s.modHost f).pos = s.pos := rfl
@[simp] theorem State.modHost_tc (f : HostPort → HostPort) : (s.modHost f).tc = s.tc := rfl
@[simp] theorem State.modHost_iconv (f : HostPort → HostPort) : (s.modHost f).iconv = s.iconv := rfl
@[simp] theorem State.modHost_net (f : HostPort → HostPort) : (s.modHost f).net = s.net := rfl
@[simp] theorem State.modHost_sup (f : HostPort → HostPort) : (s.modHost f).sup = s.sup := rfl
@[simp] theorem State.modHost_rsv (f : HostPort → HostPort) : (s.modHost f).rsv = s.rsv := rfl
@[simp] theorem State.modHost_ledg (f : HostPort → HostPort) : (s.modHost f).ledg = s.ledg := rfl
@[simp] theorem State.modHost_host (f : HostPort → HostPort) : (s.modHost f).host = f s.host := rfl
@[simp] theorem State.modHost_twin (f : HostPort → HostPort) : (s.modHost f).twin = s.twin := rfl
@[simp] theorem State.modHost_link (f : HostPort → HostPort) : (s.modHost f).link = s.link := rfl
@[simp] theorem State.modHost_now (f : HostPort → HostPort) : (s.modHost f).now = s.now := rfl
@[simp] theorem State.modHost_gpioIn (f : HostPort → HostPort) : (s.modHost f).gpioIn = s.gpioIn := rfl
@[simp] theorem State.modHost_sent (f : HostPort → HostPort) : (s.modHost f).sent = s.sent := rfl
@[simp] theorem State.modHost_free (f : HostPort → HostPort) : (s.modHost f).free = s.free := rfl
@[simp] theorem State.modHost_pending (f : HostPort → HostPort) : (s.modHost f).pending = s.pending := rfl

@[simp] theorem State.modAcq_regs (f : Acq → Acq) : (s.modAcq f).regs = s.regs := rfl
@[simp] theorem State.modAcq_ram (f : Acq → Acq) : (s.modAcq f).ram = s.ram := rfl
@[simp] theorem State.modAcq_mram (f : Acq → Acq) : (s.modAcq f).mram = s.mram := rfl
@[simp] theorem State.modAcq_core (f : Acq → Acq) : (s.modAcq f).core = s.core := rfl
@[simp] theorem State.modAcq_time (f : Acq → Acq) : (s.modAcq f).time = s.time := rfl
@[simp] theorem State.modAcq_mem (f : Acq → Acq) : (s.modAcq f).mem = s.mem := rfl
@[simp] theorem State.modAcq_dbg (f : Acq → Acq) : (s.modAcq f).dbg = s.dbg := rfl
@[simp] theorem State.modAcq_stage (f : Acq → Acq) : (s.modAcq f).stage = s.stage := rfl
@[simp] theorem State.modAcq_pwr (f : Acq → Acq) : (s.modAcq f).pwr = s.pwr := rfl
@[simp] theorem State.modAcq_flash (f : Acq → Acq) : (s.modAcq f).flash = s.flash := rfl
@[simp] theorem State.modAcq_fadc (f : Acq → Acq) : (s.modAcq f).fadc = s.fadc := rfl
@[simp] theorem State.modAcq_acq (f : Acq → Acq) : (s.modAcq f).acq = f s.acq := rfl
@[simp] theorem State.modAcq_pos (f : Acq → Acq) : (s.modAcq f).pos = s.pos := rfl
@[simp] theorem State.modAcq_tc (f : Acq → Acq) : (s.modAcq f).tc = s.tc := rfl
@[simp] theorem State.modAcq_iconv (f : Acq → Acq) : (s.modAcq f).iconv = s.iconv := rfl
@[simp] theorem State.modAcq_net (f : Acq → Acq) : (s.modAcq f).net = s.net := rfl
@[simp] theorem State.modAcq_sup (f : Acq → Acq) : (s.modAcq f).sup = s.sup := rfl
@[simp] theorem State.modAcq_rsv (f : Acq → Acq) : (s.modAcq f).rsv = s.rsv := rfl
@[simp] theorem State.modAcq_ledg (f : Acq → Acq) : (s.modAcq f).ledg = s.ledg := rfl
@[simp] theorem State.modAcq_host (f : Acq → Acq) : (s.modAcq f).host = s.host := rfl
@[simp] theorem State.modAcq_twin (f : Acq → Acq) : (s.modAcq f).twin = s.twin := rfl
@[simp] theorem State.modAcq_link (f : Acq → Acq) : (s.modAcq f).link = s.link := rfl
@[simp] theorem State.modAcq_now (f : Acq → Acq) : (s.modAcq f).now = s.now := rfl
@[simp] theorem State.modAcq_gpioIn (f : Acq → Acq) : (s.modAcq f).gpioIn = s.gpioIn := rfl
@[simp] theorem State.modAcq_sent (f : Acq → Acq) : (s.modAcq f).sent = s.sent := rfl
@[simp] theorem State.modAcq_free (f : Acq → Acq) : (s.modAcq f).free = s.free := rfl
@[simp] theorem State.modAcq_pending (f : Acq → Acq) : (s.modAcq f).pending = s.pending := rfl

@[simp] theorem State.modAq_regs (n : Engine) (f : Aq → Aq) : (s.modAq n f).regs = s.regs := rfl
@[simp] theorem State.modAq_ram (n : Engine) (f : Aq → Aq) : (s.modAq n f).ram = s.ram := rfl
@[simp] theorem State.modAq_mram (n : Engine) (f : Aq → Aq) : (s.modAq n f).mram = s.mram := rfl
@[simp] theorem State.modAq_core (n : Engine) (f : Aq → Aq) : (s.modAq n f).core = s.core := rfl
@[simp] theorem State.modAq_time (n : Engine) (f : Aq → Aq) : (s.modAq n f).time = s.time := rfl
@[simp] theorem State.modAq_mem (n : Engine) (f : Aq → Aq) : (s.modAq n f).mem = s.mem := rfl
@[simp] theorem State.modAq_dbg (n : Engine) (f : Aq → Aq) : (s.modAq n f).dbg = s.dbg := rfl
@[simp] theorem State.modAq_stage (n : Engine) (f : Aq → Aq) : (s.modAq n f).stage = s.stage := rfl
@[simp] theorem State.modAq_pwr (n : Engine) (f : Aq → Aq) : (s.modAq n f).pwr = s.pwr := rfl
@[simp] theorem State.modAq_flash (n : Engine) (f : Aq → Aq) : (s.modAq n f).flash = s.flash := rfl
@[simp] theorem State.modAq_fadc (n : Engine) (f : Aq → Aq) : (s.modAq n f).fadc = s.fadc := rfl
@[simp] theorem State.modAq_pos (n : Engine) (f : Aq → Aq) : (s.modAq n f).pos = s.pos := rfl
@[simp] theorem State.modAq_tc (n : Engine) (f : Aq → Aq) : (s.modAq n f).tc = s.tc := rfl
@[simp] theorem State.modAq_iconv (n : Engine) (f : Aq → Aq) : (s.modAq n f).iconv = s.iconv := rfl
@[simp] theorem State.modAq_net (n : Engine) (f : Aq → Aq) : (s.modAq n f).net = s.net := rfl
@[simp] theorem State.modAq_sup (n : Engine) (f : Aq → Aq) : (s.modAq n f).sup = s.sup := rfl
@[simp] theorem State.modAq_rsv (n : Engine) (f : Aq → Aq) : (s.modAq n f).rsv = s.rsv := rfl
@[simp] theorem State.modAq_ledg (n : Engine) (f : Aq → Aq) : (s.modAq n f).ledg = s.ledg := rfl
@[simp] theorem State.modAq_host (n : Engine) (f : Aq → Aq) : (s.modAq n f).host = s.host := rfl
@[simp] theorem State.modAq_twin (n : Engine) (f : Aq → Aq) : (s.modAq n f).twin = s.twin := rfl
@[simp] theorem State.modAq_link (n : Engine) (f : Aq → Aq) : (s.modAq n f).link = s.link := rfl
@[simp] theorem State.modAq_now (n : Engine) (f : Aq → Aq) : (s.modAq n f).now = s.now := rfl
@[simp] theorem State.modAq_gpioIn (n : Engine) (f : Aq → Aq) : (s.modAq n f).gpioIn = s.gpioIn := rfl
@[simp] theorem State.modAq_sent (n : Engine) (f : Aq → Aq) : (s.modAq n f).sent = s.sent := rfl
@[simp] theorem State.modAq_free (n : Engine) (f : Aq → Aq) : (s.modAq n f).free = s.free := rfl
@[simp] theorem State.modAq_pending (n : Engine) (f : Aq → Aq) : (s.modAq n f).pending = s.pending := rfl

@[simp] theorem State.modFe_regs (n : Engine) (f : Fe → Fe) : (s.modFe n f).regs = s.regs := rfl
@[simp] theorem State.modFe_ram (n : Engine) (f : Fe → Fe) : (s.modFe n f).ram = s.ram := rfl
@[simp] theorem State.modFe_mram (n : Engine) (f : Fe → Fe) : (s.modFe n f).mram = s.mram := rfl
@[simp] theorem State.modFe_core (n : Engine) (f : Fe → Fe) : (s.modFe n f).core = s.core := rfl
@[simp] theorem State.modFe_time (n : Engine) (f : Fe → Fe) : (s.modFe n f).time = s.time := rfl
@[simp] theorem State.modFe_mem (n : Engine) (f : Fe → Fe) : (s.modFe n f).mem = s.mem := rfl
@[simp] theorem State.modFe_dbg (n : Engine) (f : Fe → Fe) : (s.modFe n f).dbg = s.dbg := rfl
@[simp] theorem State.modFe_stage (n : Engine) (f : Fe → Fe) : (s.modFe n f).stage = s.stage := rfl
@[simp] theorem State.modFe_pwr (n : Engine) (f : Fe → Fe) : (s.modFe n f).pwr = s.pwr := rfl
@[simp] theorem State.modFe_flash (n : Engine) (f : Fe → Fe) : (s.modFe n f).flash = s.flash := rfl
@[simp] theorem State.modFe_fadc (n : Engine) (f : Fe → Fe) : (s.modFe n f).fadc = s.fadc := rfl
@[simp] theorem State.modFe_pos (n : Engine) (f : Fe → Fe) : (s.modFe n f).pos = s.pos := rfl
@[simp] theorem State.modFe_tc (n : Engine) (f : Fe → Fe) : (s.modFe n f).tc = s.tc := rfl
@[simp] theorem State.modFe_iconv (n : Engine) (f : Fe → Fe) : (s.modFe n f).iconv = s.iconv := rfl
@[simp] theorem State.modFe_net (n : Engine) (f : Fe → Fe) : (s.modFe n f).net = s.net := rfl
@[simp] theorem State.modFe_sup (n : Engine) (f : Fe → Fe) : (s.modFe n f).sup = s.sup := rfl
@[simp] theorem State.modFe_rsv (n : Engine) (f : Fe → Fe) : (s.modFe n f).rsv = s.rsv := rfl
@[simp] theorem State.modFe_ledg (n : Engine) (f : Fe → Fe) : (s.modFe n f).ledg = s.ledg := rfl
@[simp] theorem State.modFe_host (n : Engine) (f : Fe → Fe) : (s.modFe n f).host = s.host := rfl
@[simp] theorem State.modFe_twin (n : Engine) (f : Fe → Fe) : (s.modFe n f).twin = s.twin := rfl
@[simp] theorem State.modFe_link (n : Engine) (f : Fe → Fe) : (s.modFe n f).link = s.link := rfl
@[simp] theorem State.modFe_now (n : Engine) (f : Fe → Fe) : (s.modFe n f).now = s.now := rfl
@[simp] theorem State.modFe_gpioIn (n : Engine) (f : Fe → Fe) : (s.modFe n f).gpioIn = s.gpioIn := rfl
@[simp] theorem State.modFe_sent (n : Engine) (f : Fe → Fe) : (s.modFe n f).sent = s.sent := rfl
@[simp] theorem State.modFe_free (n : Engine) (f : Fe → Fe) : (s.modFe n f).free = s.free := rfl
@[simp] theorem State.modFe_pending (n : Engine) (f : Fe → Fe) : (s.modFe n f).pending = s.pending := rfl

@[simp] theorem State.modNet_regs (f : Net → Net) : (s.modNet f).regs = s.regs := rfl
@[simp] theorem State.modNet_ram (f : Net → Net) : (s.modNet f).ram = s.ram := rfl
@[simp] theorem State.modNet_mram (f : Net → Net) : (s.modNet f).mram = s.mram := rfl
@[simp] theorem State.modNet_core (f : Net → Net) : (s.modNet f).core = s.core := rfl
@[simp] theorem State.modNet_time (f : Net → Net) : (s.modNet f).time = s.time := rfl
@[simp] theorem State.modNet_mem (f : Net → Net) : (s.modNet f).mem = s.mem := rfl
@[simp] theorem State.modNet_dbg (f : Net → Net) : (s.modNet f).dbg = s.dbg := rfl
@[simp] theorem State.modNet_stage (f : Net → Net) : (s.modNet f).stage = s.stage := rfl
@[simp] theorem State.modNet_pwr (f : Net → Net) : (s.modNet f).pwr = s.pwr := rfl
@[simp] theorem State.modNet_flash (f : Net → Net) : (s.modNet f).flash = s.flash := rfl
@[simp] theorem State.modNet_fadc (f : Net → Net) : (s.modNet f).fadc = s.fadc := rfl
@[simp] theorem State.modNet_acq (f : Net → Net) : (s.modNet f).acq = s.acq := rfl
@[simp] theorem State.modNet_pos (f : Net → Net) : (s.modNet f).pos = s.pos := rfl
@[simp] theorem State.modNet_tc (f : Net → Net) : (s.modNet f).tc = s.tc := rfl
@[simp] theorem State.modNet_iconv (f : Net → Net) : (s.modNet f).iconv = s.iconv := rfl
@[simp] theorem State.modNet_net (f : Net → Net) : (s.modNet f).net = f s.net := rfl
@[simp] theorem State.modNet_sup (f : Net → Net) : (s.modNet f).sup = s.sup := rfl
@[simp] theorem State.modNet_rsv (f : Net → Net) : (s.modNet f).rsv = s.rsv := rfl
@[simp] theorem State.modNet_ledg (f : Net → Net) : (s.modNet f).ledg = s.ledg := rfl
@[simp] theorem State.modNet_host (f : Net → Net) : (s.modNet f).host = s.host := rfl
@[simp] theorem State.modNet_twin (f : Net → Net) : (s.modNet f).twin = s.twin := rfl
@[simp] theorem State.modNet_link (f : Net → Net) : (s.modNet f).link = s.link := rfl
@[simp] theorem State.modNet_now (f : Net → Net) : (s.modNet f).now = s.now := rfl
@[simp] theorem State.modNet_gpioIn (f : Net → Net) : (s.modNet f).gpioIn = s.gpioIn := rfl
@[simp] theorem State.modNet_sent (f : Net → Net) : (s.modNet f).sent = s.sent := rfl
@[simp] theorem State.modNet_free (f : Net → Net) : (s.modNet f).free = s.free := rfl
@[simp] theorem State.modNet_pending (f : Net → Net) : (s.modNet f).pending = s.pending := rfl

@[simp] theorem State.modLink_regs (f : Link → Link) : (s.modLink f).regs = s.regs := rfl
@[simp] theorem State.modLink_ram (f : Link → Link) : (s.modLink f).ram = s.ram := rfl
@[simp] theorem State.modLink_mram (f : Link → Link) : (s.modLink f).mram = s.mram := rfl
@[simp] theorem State.modLink_core (f : Link → Link) : (s.modLink f).core = s.core := rfl
@[simp] theorem State.modLink_time (f : Link → Link) : (s.modLink f).time = s.time := rfl
@[simp] theorem State.modLink_mem (f : Link → Link) : (s.modLink f).mem = s.mem := rfl
@[simp] theorem State.modLink_dbg (f : Link → Link) : (s.modLink f).dbg = s.dbg := rfl
@[simp] theorem State.modLink_stage (f : Link → Link) : (s.modLink f).stage = s.stage := rfl
@[simp] theorem State.modLink_pwr (f : Link → Link) : (s.modLink f).pwr = s.pwr := rfl
@[simp] theorem State.modLink_flash (f : Link → Link) : (s.modLink f).flash = s.flash := rfl
@[simp] theorem State.modLink_fadc (f : Link → Link) : (s.modLink f).fadc = s.fadc := rfl
@[simp] theorem State.modLink_acq (f : Link → Link) : (s.modLink f).acq = s.acq := rfl
@[simp] theorem State.modLink_pos (f : Link → Link) : (s.modLink f).pos = s.pos := rfl
@[simp] theorem State.modLink_tc (f : Link → Link) : (s.modLink f).tc = s.tc := rfl
@[simp] theorem State.modLink_iconv (f : Link → Link) : (s.modLink f).iconv = s.iconv := rfl
@[simp] theorem State.modLink_net (f : Link → Link) : (s.modLink f).net = s.net := rfl
@[simp] theorem State.modLink_sup (f : Link → Link) : (s.modLink f).sup = s.sup := rfl
@[simp] theorem State.modLink_rsv (f : Link → Link) : (s.modLink f).rsv = s.rsv := rfl
@[simp] theorem State.modLink_ledg (f : Link → Link) : (s.modLink f).ledg = s.ledg := rfl
@[simp] theorem State.modLink_host (f : Link → Link) : (s.modLink f).host = s.host := rfl
@[simp] theorem State.modLink_twin (f : Link → Link) : (s.modLink f).twin = s.twin := rfl
@[simp] theorem State.modLink_link (f : Link → Link) : (s.modLink f).link = f s.link := rfl
@[simp] theorem State.modLink_now (f : Link → Link) : (s.modLink f).now = s.now := rfl
@[simp] theorem State.modLink_gpioIn (f : Link → Link) : (s.modLink f).gpioIn = s.gpioIn := rfl
@[simp] theorem State.modLink_sent (f : Link → Link) : (s.modLink f).sent = s.sent := rfl
@[simp] theorem State.modLink_free (f : Link → Link) : (s.modLink f).free = s.free := rfl
@[simp] theorem State.modLink_pending (f : Link → Link) : (s.modLink f).pending = s.pending := rfl

@[simp] theorem State.modFadc_regs (f : Fadc → Fadc) : (s.modFadc f).regs = s.regs := rfl
@[simp] theorem State.modFadc_ram (f : Fadc → Fadc) : (s.modFadc f).ram = s.ram := rfl
@[simp] theorem State.modFadc_mram (f : Fadc → Fadc) : (s.modFadc f).mram = s.mram := rfl
@[simp] theorem State.modFadc_core (f : Fadc → Fadc) : (s.modFadc f).core = s.core := rfl
@[simp] theorem State.modFadc_time (f : Fadc → Fadc) : (s.modFadc f).time = s.time := rfl
@[simp] theorem State.modFadc_mem (f : Fadc → Fadc) : (s.modFadc f).mem = s.mem := rfl
@[simp] theorem State.modFadc_dbg (f : Fadc → Fadc) : (s.modFadc f).dbg = s.dbg := rfl
@[simp] theorem State.modFadc_stage (f : Fadc → Fadc) : (s.modFadc f).stage = s.stage := rfl
@[simp] theorem State.modFadc_pwr (f : Fadc → Fadc) : (s.modFadc f).pwr = s.pwr := rfl
@[simp] theorem State.modFadc_flash (f : Fadc → Fadc) : (s.modFadc f).flash = s.flash := rfl
@[simp] theorem State.modFadc_fadc (f : Fadc → Fadc) : (s.modFadc f).fadc = f s.fadc := rfl
@[simp] theorem State.modFadc_acq (f : Fadc → Fadc) : (s.modFadc f).acq = s.acq := rfl
@[simp] theorem State.modFadc_pos (f : Fadc → Fadc) : (s.modFadc f).pos = s.pos := rfl
@[simp] theorem State.modFadc_tc (f : Fadc → Fadc) : (s.modFadc f).tc = s.tc := rfl
@[simp] theorem State.modFadc_iconv (f : Fadc → Fadc) : (s.modFadc f).iconv = s.iconv := rfl
@[simp] theorem State.modFadc_net (f : Fadc → Fadc) : (s.modFadc f).net = s.net := rfl
@[simp] theorem State.modFadc_sup (f : Fadc → Fadc) : (s.modFadc f).sup = s.sup := rfl
@[simp] theorem State.modFadc_rsv (f : Fadc → Fadc) : (s.modFadc f).rsv = s.rsv := rfl
@[simp] theorem State.modFadc_ledg (f : Fadc → Fadc) : (s.modFadc f).ledg = s.ledg := rfl
@[simp] theorem State.modFadc_host (f : Fadc → Fadc) : (s.modFadc f).host = s.host := rfl
@[simp] theorem State.modFadc_twin (f : Fadc → Fadc) : (s.modFadc f).twin = s.twin := rfl
@[simp] theorem State.modFadc_link (f : Fadc → Fadc) : (s.modFadc f).link = s.link := rfl
@[simp] theorem State.modFadc_now (f : Fadc → Fadc) : (s.modFadc f).now = s.now := rfl
@[simp] theorem State.modFadc_gpioIn (f : Fadc → Fadc) : (s.modFadc f).gpioIn = s.gpioIn := rfl
@[simp] theorem State.modFadc_sent (f : Fadc → Fadc) : (s.modFadc f).sent = s.sent := rfl
@[simp] theorem State.modFadc_free (f : Fadc → Fadc) : (s.modFadc f).free = s.free := rfl
@[simp] theorem State.modFadc_pending (f : Fadc → Fadc) : (s.modFadc f).pending = s.pending := rfl

@[simp] theorem State.setQueue_ram (q : List QEntry) : (s.setQueue q).ram = s.ram := rfl
@[simp] theorem State.setQueue_mram (q : List QEntry) : (s.setQueue q).mram = s.mram := rfl
@[simp] theorem State.setQueue_core (q : List QEntry) : (s.setQueue q).core = s.core := rfl
@[simp] theorem State.setQueue_time (q : List QEntry) : (s.setQueue q).time = s.time := rfl
@[simp] theorem State.setQueue_mem (q : List QEntry) : (s.setQueue q).mem = s.mem := rfl
@[simp] theorem State.setQueue_dbg (q : List QEntry) : (s.setQueue q).dbg = s.dbg := rfl
@[simp] theorem State.setQueue_stage (q : List QEntry) : (s.setQueue q).stage = s.stage := rfl
@[simp] theorem State.setQueue_pwr (q : List QEntry) : (s.setQueue q).pwr = s.pwr := rfl
@[simp] theorem State.setQueue_flash (q : List QEntry) : (s.setQueue q).flash = s.flash := rfl
@[simp] theorem State.setQueue_acq (q : List QEntry) : (s.setQueue q).acq = s.acq := rfl
@[simp] theorem State.setQueue_pos (q : List QEntry) : (s.setQueue q).pos = s.pos := rfl
@[simp] theorem State.setQueue_tc (q : List QEntry) : (s.setQueue q).tc = s.tc := rfl
@[simp] theorem State.setQueue_iconv (q : List QEntry) : (s.setQueue q).iconv = s.iconv := rfl
@[simp] theorem State.setQueue_net (q : List QEntry) : (s.setQueue q).net = s.net := rfl
@[simp] theorem State.setQueue_sup (q : List QEntry) : (s.setQueue q).sup = s.sup := rfl
@[simp] theorem State.setQueue_rsv (q : List QEntry) : (s.setQueue q).rsv = s.rsv := rfl
@[simp] theorem State.setQueue_ledg (q : List QEntry) : (s.setQueue q).ledg = s.ledg := rfl
@[simp] theorem State.setQueue_host (q : List QEntry) : (s.setQueue q).host = s.host := rfl
@[simp] theorem State.setQueue_twin (q : List QEntry) : (s.setQueue q).twin = s.twin := rfl
@[simp] theorem State.setQueue_link (q : List QEntry) : (s.setQueue q).link = s.link := rfl
@[simp] theorem State.setQueue_gpioIn (q : List QEntry) : (s.setQueue q).gpioIn = s.gpioIn := rfl
@[simp] theorem State.setQueue_sent (q : List QEntry) : (s.setQueue q).sent = s.sent := rfl
@[simp] theorem State.setQueue_free (q : List QEntry) : (s.setQueue q).free = s.free := rfl
@[simp] theorem State.setQueue_pending (q : List QEntry) : (s.setQueue q).pending = s.pending := rfl

@[simp] theorem State.setFlash_regs (f : Flash) : (s.setFlash f).regs = s.regs := rfl
@[simp] theorem State.setFlash_ram (f : Flash) : (s.setFlash f).ram = s.ram := rfl
@[simp] theorem State.setFlash_mram (f : Flash) : (s.setFlash f).mram = s.mram := rfl
@[simp] theorem State.setFlash_core (f : Flash) : (s.setFlash f).core = s.core := rfl
@[simp] theorem State.setFlash_time (f : Flash) : (s.setFlash f).time = s.time := rfl
@[simp] theorem State.setFlash_mem (f : Flash) : (s.setFlash f).mem = s.mem := rfl
@[simp] theorem State.setFlash_dbg (f : Flash) : (s.setFlash f).dbg = s.dbg := rfl
@[simp] theorem State.setFlash_stage (f : Flash) : (s.setFlash f).stage = s.stage := rfl
@[simp] theorem State.setFlash_pwr (f : Flash) : (s.setFlash f).pwr = s.pwr := rfl
@[simp] theorem State.setFlash_flash (f : Flash) : (s.setFlash f).flash = f := rfl
@[simp] theorem State.setFlash_fadc (f : Flash) : (s.setFlash f).fadc = s.fadc := rfl
@[simp] theorem State.setFlash_acq (f : Flash) : (s.setFlash f).acq = s.acq := rfl
@[simp] theorem State.setFlash_pos (f : Flash) : (s.setFlash f).pos = s.pos := rfl
@[simp] theorem State.setFlash_tc (f : Flash) : (s.setFlash f).tc = s.tc := rfl
@[simp] theorem State.setFlash_iconv (f : Flash) : (s.setFlash f).iconv = s.iconv := rfl
@[simp] theorem State.setFlash_net (f : Flash) : (s.setFlash f).net = s.net := rfl
@[simp] theorem State.setFlash_sup (f : Flash) : (s.setFlash f).sup = s.sup := rfl
@[simp] theorem State.setFlash_rsv (f : Flash) : (s.setFlash f).rsv = s.rsv := rfl
@[simp] theorem State.setFlash_ledg (f : Flash) : (s.setFlash f).ledg = s.ledg := rfl
@[simp] theorem State.setFlash_host (f : Flash) : (s.setFlash f).host = s.host := rfl
@[simp] theorem State.setFlash_twin (f : Flash) : (s.setFlash f).twin = s.twin := rfl
@[simp] theorem State.setFlash_link (f : Flash) : (s.setFlash f).link = s.link := rfl
@[simp] theorem State.setFlash_now (f : Flash) : (s.setFlash f).now = s.now := rfl
@[simp] theorem State.setFlash_gpioIn (f : Flash) : (s.setFlash f).gpioIn = s.gpioIn := rfl
@[simp] theorem State.setFlash_sent (f : Flash) : (s.setFlash f).sent = s.sent := rfl
@[simp] theorem State.setFlash_free (f : Flash) : (s.setFlash f).free = s.free := rfl
@[simp] theorem State.setFlash_pending (f : Flash) : (s.setFlash f).pending = s.pending := rfl

@[simp] theorem State.modFlash_regs (f : Flash → Flash) : (s.modFlash f).regs = s.regs := rfl
@[simp] theorem State.modFlash_ram (f : Flash → Flash) : (s.modFlash f).ram = s.ram := rfl
@[simp] theorem State.modFlash_mram (f : Flash → Flash) : (s.modFlash f).mram = s.mram := rfl
@[simp] theorem State.modFlash_core (f : Flash → Flash) : (s.modFlash f).core = s.core := rfl
@[simp] theorem State.modFlash_time (f : Flash → Flash) : (s.modFlash f).time = s.time := rfl
@[simp] theorem State.modFlash_mem (f : Flash → Flash) : (s.modFlash f).mem = s.mem := rfl
@[simp] theorem State.modFlash_dbg (f : Flash → Flash) : (s.modFlash f).dbg = s.dbg := rfl
@[simp] theorem State.modFlash_stage (f : Flash → Flash) : (s.modFlash f).stage = s.stage := rfl
@[simp] theorem State.modFlash_pwr (f : Flash → Flash) : (s.modFlash f).pwr = s.pwr := rfl
@[simp] theorem State.modFlash_flash (f : Flash → Flash) : (s.modFlash f).flash = f s.flash := rfl
@[simp] theorem State.modFlash_fadc (f : Flash → Flash) : (s.modFlash f).fadc = s.fadc := rfl
@[simp] theorem State.modFlash_acq (f : Flash → Flash) : (s.modFlash f).acq = s.acq := rfl
@[simp] theorem State.modFlash_pos (f : Flash → Flash) : (s.modFlash f).pos = s.pos := rfl
@[simp] theorem State.modFlash_tc (f : Flash → Flash) : (s.modFlash f).tc = s.tc := rfl
@[simp] theorem State.modFlash_iconv (f : Flash → Flash) : (s.modFlash f).iconv = s.iconv := rfl
@[simp] theorem State.modFlash_net (f : Flash → Flash) : (s.modFlash f).net = s.net := rfl
@[simp] theorem State.modFlash_sup (f : Flash → Flash) : (s.modFlash f).sup = s.sup := rfl
@[simp] theorem State.modFlash_rsv (f : Flash → Flash) : (s.modFlash f).rsv = s.rsv := rfl
@[simp] theorem State.modFlash_ledg (f : Flash → Flash) : (s.modFlash f).ledg = s.ledg := rfl
@[simp] theorem State.modFlash_host (f : Flash → Flash) : (s.modFlash f).host = s.host := rfl
@[simp] theorem State.modFlash_twin (f : Flash → Flash) : (s.modFlash f).twin = s.twin := rfl
@[simp] theorem State.modFlash_link (f : Flash → Flash) : (s.modFlash f).link = s.link := rfl
@[simp] theorem State.modFlash_now (f : Flash → Flash) : (s.modFlash f).now = s.now := rfl
@[simp] theorem State.modFlash_gpioIn (f : Flash → Flash) : (s.modFlash f).gpioIn = s.gpioIn := rfl
@[simp] theorem State.modFlash_sent (f : Flash → Flash) : (s.modFlash f).sent = s.sent := rfl
@[simp] theorem State.modFlash_free (f : Flash → Flash) : (s.modFlash f).free = s.free := rfl
@[simp] theorem State.modFlash_pending (f : Flash → Flash) : (s.modFlash f).pending = s.pending := rfl

@[simp] theorem State.setPwm_regs (c : Course) (x : PwmCourse) : (s.setPwm c x).regs = s.regs := rfl
@[simp] theorem State.setPwm_ram (c : Course) (x : PwmCourse) : (s.setPwm c x).ram = s.ram := rfl
@[simp] theorem State.setPwm_mram (c : Course) (x : PwmCourse) : (s.setPwm c x).mram = s.mram := rfl
@[simp] theorem State.setPwm_core (c : Course) (x : PwmCourse) : (s.setPwm c x).core = s.core := rfl
@[simp] theorem State.setPwm_time (c : Course) (x : PwmCourse) : (s.setPwm c x).time = s.time := rfl
@[simp] theorem State.setPwm_mem (c : Course) (x : PwmCourse) : (s.setPwm c x).mem = s.mem := rfl
@[simp] theorem State.setPwm_dbg (c : Course) (x : PwmCourse) : (s.setPwm c x).dbg = s.dbg := rfl
@[simp] theorem State.setPwm_pwr (c : Course) (x : PwmCourse) : (s.setPwm c x).pwr = s.pwr := rfl
@[simp] theorem State.setPwm_flash (c : Course) (x : PwmCourse) : (s.setPwm c x).flash = s.flash := rfl
@[simp] theorem State.setPwm_fadc (c : Course) (x : PwmCourse) : (s.setPwm c x).fadc = s.fadc := rfl
@[simp] theorem State.setPwm_acq (c : Course) (x : PwmCourse) : (s.setPwm c x).acq = s.acq := rfl
@[simp] theorem State.setPwm_pos (c : Course) (x : PwmCourse) : (s.setPwm c x).pos = s.pos := rfl
@[simp] theorem State.setPwm_tc (c : Course) (x : PwmCourse) : (s.setPwm c x).tc = s.tc := rfl
@[simp] theorem State.setPwm_iconv (c : Course) (x : PwmCourse) : (s.setPwm c x).iconv = s.iconv := rfl
@[simp] theorem State.setPwm_net (c : Course) (x : PwmCourse) : (s.setPwm c x).net = s.net := rfl
@[simp] theorem State.setPwm_sup (c : Course) (x : PwmCourse) : (s.setPwm c x).sup = s.sup := rfl
@[simp] theorem State.setPwm_rsv (c : Course) (x : PwmCourse) : (s.setPwm c x).rsv = s.rsv := rfl
@[simp] theorem State.setPwm_ledg (c : Course) (x : PwmCourse) : (s.setPwm c x).ledg = s.ledg := rfl
@[simp] theorem State.setPwm_host (c : Course) (x : PwmCourse) : (s.setPwm c x).host = s.host := rfl
@[simp] theorem State.setPwm_twin (c : Course) (x : PwmCourse) : (s.setPwm c x).twin = s.twin := rfl
@[simp] theorem State.setPwm_link (c : Course) (x : PwmCourse) : (s.setPwm c x).link = s.link := rfl
@[simp] theorem State.setPwm_now (c : Course) (x : PwmCourse) : (s.setPwm c x).now = s.now := rfl
@[simp] theorem State.setPwm_gpioIn (c : Course) (x : PwmCourse) : (s.setPwm c x).gpioIn = s.gpioIn := rfl
@[simp] theorem State.setPwm_sent (c : Course) (x : PwmCourse) : (s.setPwm c x).sent = s.sent := rfl
@[simp] theorem State.setPwm_free (c : Course) (x : PwmCourse) : (s.setPwm c x).free = s.free := rfl
@[simp] theorem State.setPwm_pending (c : Course) (x : PwmCourse) : (s.setPwm c x).pending = s.pending := rfl

@[simp] theorem State.modPwm_regs (c : Course) (f : PwmCourse → PwmCourse) : (s.modPwm c f).regs = s.regs := rfl
@[simp] theorem State.modPwm_ram (c : Course) (f : PwmCourse → PwmCourse) : (s.modPwm c f).ram = s.ram := rfl
@[simp] theorem State.modPwm_mram (c : Course) (f : PwmCourse → PwmCourse) : (s.modPwm c f).mram = s.mram := rfl
@[simp] theorem State.modPwm_core (c : Course) (f : PwmCourse → PwmCourse) : (s.modPwm c f).core = s.core := rfl
@[simp] theorem State.modPwm_time (c : Course) (f : PwmCourse → PwmCourse) : (s.modPwm c f).time = s.time := rfl
@[simp] theorem State.modPwm_mem (c : Course) (f : PwmCourse → PwmCourse) : (s.modPwm c f).mem = s.mem := rfl
@[simp] theorem State.modPwm_dbg (c : Course) (f : PwmCourse → PwmCourse) : (s.modPwm c f).dbg = s.dbg := rfl
@[simp] theorem State.modPwm_pwr (c : Course) (f : PwmCourse → PwmCourse) : (s.modPwm c f).pwr = s.pwr := rfl
@[simp] theorem State.modPwm_flash (c : Course) (f : PwmCourse → PwmCourse) : (s.modPwm c f).flash = s.flash := rfl
@[simp] theorem State.modPwm_fadc (c : Course) (f : PwmCourse → PwmCourse) : (s.modPwm c f).fadc = s.fadc := rfl
@[simp] theorem State.modPwm_acq (c : Course) (f : PwmCourse → PwmCourse) : (s.modPwm c f).acq = s.acq := rfl
@[simp] theorem State.modPwm_pos (c : Course) (f : PwmCourse → PwmCourse) : (s.modPwm c f).pos = s.pos := rfl
@[simp] theorem State.modPwm_tc (c : Course) (f : PwmCourse → PwmCourse) : (s.modPwm c f).tc = s.tc := rfl
@[simp] theorem State.modPwm_iconv (c : Course) (f : PwmCourse → PwmCourse) : (s.modPwm c f).iconv = s.iconv := rfl
@[simp] theorem State.modPwm_net (c : Course) (f : PwmCourse → PwmCourse) : (s.modPwm c f).net = s.net := rfl
@[simp] theorem State.modPwm_sup (c : Course) (f : PwmCourse → PwmCourse) : (s.modPwm c f).sup = s.sup := rfl
@[simp] theorem State.modPwm_rsv (c : Course) (f : PwmCourse → PwmCourse) : (s.modPwm c f).rsv = s.rsv := rfl
@[simp] theorem State.modPwm_ledg (c : Course) (f : PwmCourse → PwmCourse) : (s.modPwm c f).ledg = s.ledg := rfl
@[simp] theorem State.modPwm_host (c : Course) (f : PwmCourse → PwmCourse) : (s.modPwm c f).host = s.host := rfl
@[simp] theorem State.modPwm_twin (c : Course) (f : PwmCourse → PwmCourse) : (s.modPwm c f).twin = s.twin := rfl
@[simp] theorem State.modPwm_link (c : Course) (f : PwmCourse → PwmCourse) : (s.modPwm c f).link = s.link := rfl
@[simp] theorem State.modPwm_now (c : Course) (f : PwmCourse → PwmCourse) : (s.modPwm c f).now = s.now := rfl
@[simp] theorem State.modPwm_gpioIn (c : Course) (f : PwmCourse → PwmCourse) : (s.modPwm c f).gpioIn = s.gpioIn := rfl
@[simp] theorem State.modPwm_sent (c : Course) (f : PwmCourse → PwmCourse) : (s.modPwm c f).sent = s.sent := rfl
@[simp] theorem State.modPwm_free (c : Course) (f : PwmCourse → PwmCourse) : (s.modPwm c f).free = s.free := rfl
@[simp] theorem State.modPwm_pending (c : Course) (f : PwmCourse → PwmCourse) : (s.modPwm c f).pending = s.pending := rfl

@[simp] theorem State.setHb_regs (h : HB) (x : HalfBridge) : (s.setHb h x).regs = s.regs := rfl
@[simp] theorem State.setHb_ram (h : HB) (x : HalfBridge) : (s.setHb h x).ram = s.ram := rfl
@[simp] theorem State.setHb_mram (h : HB) (x : HalfBridge) : (s.setHb h x).mram = s.mram := rfl
@[simp] theorem State.setHb_core (h : HB) (x : HalfBridge) : (s.setHb h x).core = s.core := rfl
@[simp] theorem State.setHb_time (h : HB) (x : HalfBridge) : (s.setHb h x).time = s.time := rfl
@[simp] theorem State.setHb_mem (h : HB) (x : HalfBridge) : (s.setHb h x).mem = s.mem := rfl
@[simp] theorem State.setHb_dbg (h : HB) (x : HalfBridge) : (s.setHb h x).dbg = s.dbg := rfl
@[simp] theorem State.setHb_pwr (h : HB) (x : HalfBridge) : (s.setHb h x).pwr = s.pwr := rfl
@[simp] theorem State.setHb_flash (h : HB) (x : HalfBridge) : (s.setHb h x).flash = s.flash := rfl
@[simp] theorem State.setHb_fadc (h : HB) (x : HalfBridge) : (s.setHb h x).fadc = s.fadc := rfl
@[simp] theorem State.setHb_acq (h : HB) (x : HalfBridge) : (s.setHb h x).acq = s.acq := rfl
@[simp] theorem State.setHb_pos (h : HB) (x : HalfBridge) : (s.setHb h x).pos = s.pos := rfl
@[simp] theorem State.setHb_tc (h : HB) (x : HalfBridge) : (s.setHb h x).tc = s.tc := rfl
@[simp] theorem State.setHb_iconv (h : HB) (x : HalfBridge) : (s.setHb h x).iconv = s.iconv := rfl
@[simp] theorem State.setHb_net (h : HB) (x : HalfBridge) : (s.setHb h x).net = s.net := rfl
@[simp] theorem State.setHb_sup (h : HB) (x : HalfBridge) : (s.setHb h x).sup = s.sup := rfl
@[simp] theorem State.setHb_rsv (h : HB) (x : HalfBridge) : (s.setHb h x).rsv = s.rsv := rfl
@[simp] theorem State.setHb_ledg (h : HB) (x : HalfBridge) : (s.setHb h x).ledg = s.ledg := rfl
@[simp] theorem State.setHb_host (h : HB) (x : HalfBridge) : (s.setHb h x).host = s.host := rfl
@[simp] theorem State.setHb_twin (h : HB) (x : HalfBridge) : (s.setHb h x).twin = s.twin := rfl
@[simp] theorem State.setHb_link (h : HB) (x : HalfBridge) : (s.setHb h x).link = s.link := rfl
@[simp] theorem State.setHb_now (h : HB) (x : HalfBridge) : (s.setHb h x).now = s.now := rfl
@[simp] theorem State.setHb_gpioIn (h : HB) (x : HalfBridge) : (s.setHb h x).gpioIn = s.gpioIn := rfl
@[simp] theorem State.setHb_sent (h : HB) (x : HalfBridge) : (s.setHb h x).sent = s.sent := rfl
@[simp] theorem State.setHb_free (h : HB) (x : HalfBridge) : (s.setHb h x).free = s.free := rfl
@[simp] theorem State.setHb_pending (h : HB) (x : HalfBridge) : (s.setHb h x).pending = s.pending := rfl

@[simp] theorem State.modHb_regs (h : HB) (f : HalfBridge → HalfBridge) : (s.modHb h f).regs = s.regs := rfl
@[simp] theorem State.modHb_ram (h : HB) (f : HalfBridge → HalfBridge) : (s.modHb h f).ram = s.ram := rfl
@[simp] theorem State.modHb_mram (h : HB) (f : HalfBridge → HalfBridge) : (s.modHb h f).mram = s.mram := rfl
@[simp] theorem State.modHb_core (h : HB) (f : HalfBridge → HalfBridge) : (s.modHb h f).core = s.core := rfl
@[simp] theorem State.modHb_time (h : HB) (f : HalfBridge → HalfBridge) : (s.modHb h f).time = s.time := rfl
@[simp] theorem State.modHb_mem (h : HB) (f : HalfBridge → HalfBridge) : (s.modHb h f).mem = s.mem := rfl
@[simp] theorem State.modHb_dbg (h : HB) (f : HalfBridge → HalfBridge) : (s.modHb h f).dbg = s.dbg := rfl
@[simp] theorem State.modHb_pwr (h : HB) (f : HalfBridge → HalfBridge) : (s.modHb h f).pwr = s.pwr := rfl
@[simp] theorem State.modHb_flash (h : HB) (f : HalfBridge → HalfBridge) : (s.modHb h f).flash = s.flash := rfl
@[simp] theorem State.modHb_fadc (h : HB) (f : HalfBridge → HalfBridge) : (s.modHb h f).fadc = s.fadc := rfl
@[simp] theorem State.modHb_acq (h : HB) (f : HalfBridge → HalfBridge) : (s.modHb h f).acq = s.acq := rfl
@[simp] theorem State.modHb_pos (h : HB) (f : HalfBridge → HalfBridge) : (s.modHb h f).pos = s.pos := rfl
@[simp] theorem State.modHb_tc (h : HB) (f : HalfBridge → HalfBridge) : (s.modHb h f).tc = s.tc := rfl
@[simp] theorem State.modHb_iconv (h : HB) (f : HalfBridge → HalfBridge) : (s.modHb h f).iconv = s.iconv := rfl
@[simp] theorem State.modHb_net (h : HB) (f : HalfBridge → HalfBridge) : (s.modHb h f).net = s.net := rfl
@[simp] theorem State.modHb_sup (h : HB) (f : HalfBridge → HalfBridge) : (s.modHb h f).sup = s.sup := rfl
@[simp] theorem State.modHb_rsv (h : HB) (f : HalfBridge → HalfBridge) : (s.modHb h f).rsv = s.rsv := rfl
@[simp] theorem State.modHb_ledg (h : HB) (f : HalfBridge → HalfBridge) : (s.modHb h f).ledg = s.ledg := rfl
@[simp] theorem State.modHb_host (h : HB) (f : HalfBridge → HalfBridge) : (s.modHb h f).host = s.host := rfl
@[simp] theorem State.modHb_twin (h : HB) (f : HalfBridge → HalfBridge) : (s.modHb h f).twin = s.twin := rfl
@[simp] theorem State.modHb_link (h : HB) (f : HalfBridge → HalfBridge) : (s.modHb h f).link = s.link := rfl
@[simp] theorem State.modHb_now (h : HB) (f : HalfBridge → HalfBridge) : (s.modHb h f).now = s.now := rfl
@[simp] theorem State.modHb_gpioIn (h : HB) (f : HalfBridge → HalfBridge) : (s.modHb h f).gpioIn = s.gpioIn := rfl
@[simp] theorem State.modHb_sent (h : HB) (f : HalfBridge → HalfBridge) : (s.modHb h f).sent = s.sent := rfl
@[simp] theorem State.modHb_free (h : HB) (f : HalfBridge → HalfBridge) : (s.modHb h f).free = s.free := rfl
@[simp] theorem State.modHb_pending (h : HB) (f : HalfBridge → HalfBridge) : (s.modHb h f).pending = s.pending := rfl

@[simp] theorem State.modDom_regs (d : Dom) (f : GateDom → GateDom) : (s.modDom d f).regs = s.regs := rfl
@[simp] theorem State.modDom_ram (d : Dom) (f : GateDom → GateDom) : (s.modDom d f).ram = s.ram := rfl
@[simp] theorem State.modDom_mram (d : Dom) (f : GateDom → GateDom) : (s.modDom d f).mram = s.mram := rfl
@[simp] theorem State.modDom_core (d : Dom) (f : GateDom → GateDom) : (s.modDom d f).core = s.core := rfl
@[simp] theorem State.modDom_time (d : Dom) (f : GateDom → GateDom) : (s.modDom d f).time = s.time := rfl
@[simp] theorem State.modDom_mem (d : Dom) (f : GateDom → GateDom) : (s.modDom d f).mem = s.mem := rfl
@[simp] theorem State.modDom_dbg (d : Dom) (f : GateDom → GateDom) : (s.modDom d f).dbg = s.dbg := rfl
@[simp] theorem State.modDom_pwr (d : Dom) (f : GateDom → GateDom) : (s.modDom d f).pwr = s.pwr := rfl
@[simp] theorem State.modDom_flash (d : Dom) (f : GateDom → GateDom) : (s.modDom d f).flash = s.flash := rfl
@[simp] theorem State.modDom_fadc (d : Dom) (f : GateDom → GateDom) : (s.modDom d f).fadc = s.fadc := rfl
@[simp] theorem State.modDom_acq (d : Dom) (f : GateDom → GateDom) : (s.modDom d f).acq = s.acq := rfl
@[simp] theorem State.modDom_pos (d : Dom) (f : GateDom → GateDom) : (s.modDom d f).pos = s.pos := rfl
@[simp] theorem State.modDom_tc (d : Dom) (f : GateDom → GateDom) : (s.modDom d f).tc = s.tc := rfl
@[simp] theorem State.modDom_iconv (d : Dom) (f : GateDom → GateDom) : (s.modDom d f).iconv = s.iconv := rfl
@[simp] theorem State.modDom_net (d : Dom) (f : GateDom → GateDom) : (s.modDom d f).net = s.net := rfl
@[simp] theorem State.modDom_sup (d : Dom) (f : GateDom → GateDom) : (s.modDom d f).sup = s.sup := rfl
@[simp] theorem State.modDom_rsv (d : Dom) (f : GateDom → GateDom) : (s.modDom d f).rsv = s.rsv := rfl
@[simp] theorem State.modDom_ledg (d : Dom) (f : GateDom → GateDom) : (s.modDom d f).ledg = s.ledg := rfl
@[simp] theorem State.modDom_host (d : Dom) (f : GateDom → GateDom) : (s.modDom d f).host = s.host := rfl
@[simp] theorem State.modDom_twin (d : Dom) (f : GateDom → GateDom) : (s.modDom d f).twin = s.twin := rfl
@[simp] theorem State.modDom_link (d : Dom) (f : GateDom → GateDom) : (s.modDom d f).link = s.link := rfl
@[simp] theorem State.modDom_now (d : Dom) (f : GateDom → GateDom) : (s.modDom d f).now = s.now := rfl
@[simp] theorem State.modDom_gpioIn (d : Dom) (f : GateDom → GateDom) : (s.modDom d f).gpioIn = s.gpioIn := rfl
@[simp] theorem State.modDom_sent (d : Dom) (f : GateDom → GateDom) : (s.modDom d f).sent = s.sent := rfl
@[simp] theorem State.modDom_free (d : Dom) (f : GateDom → GateDom) : (s.modDom d f).free = s.free := rfl
@[simp] theorem State.modDom_pending (d : Dom) (f : GateDom → GateDom) : (s.modDom d f).pending = s.pending := rfl

@[simp] theorem State.modIconv_regs (f : Iconv → Iconv) : (s.modIconv f).regs = s.regs := rfl
@[simp] theorem State.modIconv_ram (f : Iconv → Iconv) : (s.modIconv f).ram = s.ram := rfl
@[simp] theorem State.modIconv_mram (f : Iconv → Iconv) : (s.modIconv f).mram = s.mram := rfl
@[simp] theorem State.modIconv_core (f : Iconv → Iconv) : (s.modIconv f).core = s.core := rfl
@[simp] theorem State.modIconv_time (f : Iconv → Iconv) : (s.modIconv f).time = s.time := rfl
@[simp] theorem State.modIconv_mem (f : Iconv → Iconv) : (s.modIconv f).mem = s.mem := rfl
@[simp] theorem State.modIconv_dbg (f : Iconv → Iconv) : (s.modIconv f).dbg = s.dbg := rfl
@[simp] theorem State.modIconv_stage (f : Iconv → Iconv) : (s.modIconv f).stage = s.stage := rfl
@[simp] theorem State.modIconv_pwr (f : Iconv → Iconv) : (s.modIconv f).pwr = s.pwr := rfl
@[simp] theorem State.modIconv_flash (f : Iconv → Iconv) : (s.modIconv f).flash = s.flash := rfl
@[simp] theorem State.modIconv_fadc (f : Iconv → Iconv) : (s.modIconv f).fadc = s.fadc := rfl
@[simp] theorem State.modIconv_acq (f : Iconv → Iconv) : (s.modIconv f).acq = s.acq := rfl
@[simp] theorem State.modIconv_pos (f : Iconv → Iconv) : (s.modIconv f).pos = s.pos := rfl
@[simp] theorem State.modIconv_tc (f : Iconv → Iconv) : (s.modIconv f).tc = s.tc := rfl
@[simp] theorem State.modIconv_iconv (f : Iconv → Iconv) : (s.modIconv f).iconv = f s.iconv := rfl
@[simp] theorem State.modIconv_net (f : Iconv → Iconv) : (s.modIconv f).net = s.net := rfl
@[simp] theorem State.modIconv_sup (f : Iconv → Iconv) : (s.modIconv f).sup = s.sup := rfl
@[simp] theorem State.modIconv_rsv (f : Iconv → Iconv) : (s.modIconv f).rsv = s.rsv := rfl
@[simp] theorem State.modIconv_ledg (f : Iconv → Iconv) : (s.modIconv f).ledg = s.ledg := rfl
@[simp] theorem State.modIconv_host (f : Iconv → Iconv) : (s.modIconv f).host = s.host := rfl
@[simp] theorem State.modIconv_twin (f : Iconv → Iconv) : (s.modIconv f).twin = s.twin := rfl
@[simp] theorem State.modIconv_link (f : Iconv → Iconv) : (s.modIconv f).link = s.link := rfl
@[simp] theorem State.modIconv_now (f : Iconv → Iconv) : (s.modIconv f).now = s.now := rfl
@[simp] theorem State.modIconv_gpioIn (f : Iconv → Iconv) : (s.modIconv f).gpioIn = s.gpioIn := rfl
@[simp] theorem State.modIconv_sent (f : Iconv → Iconv) : (s.modIconv f).sent = s.sent := rfl
@[simp] theorem State.modIconv_free (f : Iconv → Iconv) : (s.modIconv f).free = s.free := rfl
@[simp] theorem State.modIconv_pending (f : Iconv → Iconv) : (s.modIconv f).pending = s.pending := rfl

@[simp] theorem State.modLedg_regs (f : Ledger → Ledger) : (s.modLedg f).regs = s.regs := rfl
@[simp] theorem State.modLedg_ram (f : Ledger → Ledger) : (s.modLedg f).ram = s.ram := rfl
@[simp] theorem State.modLedg_mram (f : Ledger → Ledger) : (s.modLedg f).mram = s.mram := rfl
@[simp] theorem State.modLedg_core (f : Ledger → Ledger) : (s.modLedg f).core = s.core := rfl
@[simp] theorem State.modLedg_time (f : Ledger → Ledger) : (s.modLedg f).time = s.time := rfl
@[simp] theorem State.modLedg_mem (f : Ledger → Ledger) : (s.modLedg f).mem = s.mem := rfl
@[simp] theorem State.modLedg_dbg (f : Ledger → Ledger) : (s.modLedg f).dbg = s.dbg := rfl
@[simp] theorem State.modLedg_stage (f : Ledger → Ledger) : (s.modLedg f).stage = s.stage := rfl
@[simp] theorem State.modLedg_pwr (f : Ledger → Ledger) : (s.modLedg f).pwr = s.pwr := rfl
@[simp] theorem State.modLedg_flash (f : Ledger → Ledger) : (s.modLedg f).flash = s.flash := rfl
@[simp] theorem State.modLedg_fadc (f : Ledger → Ledger) : (s.modLedg f).fadc = s.fadc := rfl
@[simp] theorem State.modLedg_acq (f : Ledger → Ledger) : (s.modLedg f).acq = s.acq := rfl
@[simp] theorem State.modLedg_pos (f : Ledger → Ledger) : (s.modLedg f).pos = s.pos := rfl
@[simp] theorem State.modLedg_tc (f : Ledger → Ledger) : (s.modLedg f).tc = s.tc := rfl
@[simp] theorem State.modLedg_iconv (f : Ledger → Ledger) : (s.modLedg f).iconv = s.iconv := rfl
@[simp] theorem State.modLedg_net (f : Ledger → Ledger) : (s.modLedg f).net = s.net := rfl
@[simp] theorem State.modLedg_sup (f : Ledger → Ledger) : (s.modLedg f).sup = s.sup := rfl
@[simp] theorem State.modLedg_rsv (f : Ledger → Ledger) : (s.modLedg f).rsv = s.rsv := rfl
@[simp] theorem State.modLedg_ledg (f : Ledger → Ledger) : (s.modLedg f).ledg = f s.ledg := rfl
@[simp] theorem State.modLedg_host (f : Ledger → Ledger) : (s.modLedg f).host = s.host := rfl
@[simp] theorem State.modLedg_twin (f : Ledger → Ledger) : (s.modLedg f).twin = s.twin := rfl
@[simp] theorem State.modLedg_link (f : Ledger → Ledger) : (s.modLedg f).link = s.link := rfl
@[simp] theorem State.modLedg_now (f : Ledger → Ledger) : (s.modLedg f).now = s.now := rfl
@[simp] theorem State.modLedg_gpioIn (f : Ledger → Ledger) : (s.modLedg f).gpioIn = s.gpioIn := rfl
@[simp] theorem State.modLedg_sent (f : Ledger → Ledger) : (s.modLedg f).sent = s.sent := rfl
@[simp] theorem State.modLedg_free (f : Ledger → Ledger) : (s.modLedg f).free = s.free := rfl
@[simp] theorem State.modLedg_pending (f : Ledger → Ledger) : (s.modLedg f).pending = s.pending := rfl

@[simp] theorem State.modOrig_regs (o : Nat) (f : LOrig → LOrig) : (s.modOrig o f).regs = s.regs := rfl
@[simp] theorem State.modOrig_ram (o : Nat) (f : LOrig → LOrig) : (s.modOrig o f).ram = s.ram := rfl
@[simp] theorem State.modOrig_mram (o : Nat) (f : LOrig → LOrig) : (s.modOrig o f).mram = s.mram := rfl
@[simp] theorem State.modOrig_core (o : Nat) (f : LOrig → LOrig) : (s.modOrig o f).core = s.core := rfl
@[simp] theorem State.modOrig_time (o : Nat) (f : LOrig → LOrig) : (s.modOrig o f).time = s.time := rfl
@[simp] theorem State.modOrig_mem (o : Nat) (f : LOrig → LOrig) : (s.modOrig o f).mem = s.mem := rfl
@[simp] theorem State.modOrig_dbg (o : Nat) (f : LOrig → LOrig) : (s.modOrig o f).dbg = s.dbg := rfl
@[simp] theorem State.modOrig_stage (o : Nat) (f : LOrig → LOrig) : (s.modOrig o f).stage = s.stage := rfl
@[simp] theorem State.modOrig_pwr (o : Nat) (f : LOrig → LOrig) : (s.modOrig o f).pwr = s.pwr := rfl
@[simp] theorem State.modOrig_flash (o : Nat) (f : LOrig → LOrig) : (s.modOrig o f).flash = s.flash := rfl
@[simp] theorem State.modOrig_fadc (o : Nat) (f : LOrig → LOrig) : (s.modOrig o f).fadc = s.fadc := rfl
@[simp] theorem State.modOrig_acq (o : Nat) (f : LOrig → LOrig) : (s.modOrig o f).acq = s.acq := rfl
@[simp] theorem State.modOrig_pos (o : Nat) (f : LOrig → LOrig) : (s.modOrig o f).pos = s.pos := rfl
@[simp] theorem State.modOrig_tc (o : Nat) (f : LOrig → LOrig) : (s.modOrig o f).tc = s.tc := rfl
@[simp] theorem State.modOrig_iconv (o : Nat) (f : LOrig → LOrig) : (s.modOrig o f).iconv = s.iconv := rfl
@[simp] theorem State.modOrig_net (o : Nat) (f : LOrig → LOrig) : (s.modOrig o f).net = s.net := rfl
@[simp] theorem State.modOrig_sup (o : Nat) (f : LOrig → LOrig) : (s.modOrig o f).sup = s.sup := rfl
@[simp] theorem State.modOrig_rsv (o : Nat) (f : LOrig → LOrig) : (s.modOrig o f).rsv = s.rsv := rfl
@[simp] theorem State.modOrig_host (o : Nat) (f : LOrig → LOrig) : (s.modOrig o f).host = s.host := rfl
@[simp] theorem State.modOrig_twin (o : Nat) (f : LOrig → LOrig) : (s.modOrig o f).twin = s.twin := rfl
@[simp] theorem State.modOrig_link (o : Nat) (f : LOrig → LOrig) : (s.modOrig o f).link = s.link := rfl
@[simp] theorem State.modOrig_now (o : Nat) (f : LOrig → LOrig) : (s.modOrig o f).now = s.now := rfl
@[simp] theorem State.modOrig_gpioIn (o : Nat) (f : LOrig → LOrig) : (s.modOrig o f).gpioIn = s.gpioIn := rfl
@[simp] theorem State.modOrig_sent (o : Nat) (f : LOrig → LOrig) : (s.modOrig o f).sent = s.sent := rfl
@[simp] theorem State.modOrig_free (o : Nat) (f : LOrig → LOrig) : (s.modOrig o f).free = s.free := rfl
@[simp] theorem State.modOrig_pending (o : Nat) (f : LOrig → LOrig) : (s.modOrig o f).pending = s.pending := rfl

@[simp] theorem State.modPos_regs (c : Course) (f : Pos → Pos) : (s.modPos c f).regs = s.regs := rfl
@[simp] theorem State.modPos_ram (c : Course) (f : Pos → Pos) : (s.modPos c f).ram = s.ram := rfl
@[simp] theorem State.modPos_mram (c : Course) (f : Pos → Pos) : (s.modPos c f).mram = s.mram := rfl
@[simp] theorem State.modPos_core (c : Course) (f : Pos → Pos) : (s.modPos c f).core = s.core := rfl
@[simp] theorem State.modPos_time (c : Course) (f : Pos → Pos) : (s.modPos c f).time = s.time := rfl
@[simp] theorem State.modPos_mem (c : Course) (f : Pos → Pos) : (s.modPos c f).mem = s.mem := rfl
@[simp] theorem State.modPos_dbg (c : Course) (f : Pos → Pos) : (s.modPos c f).dbg = s.dbg := rfl
@[simp] theorem State.modPos_stage (c : Course) (f : Pos → Pos) : (s.modPos c f).stage = s.stage := rfl
@[simp] theorem State.modPos_pwr (c : Course) (f : Pos → Pos) : (s.modPos c f).pwr = s.pwr := rfl
@[simp] theorem State.modPos_flash (c : Course) (f : Pos → Pos) : (s.modPos c f).flash = s.flash := rfl
@[simp] theorem State.modPos_fadc (c : Course) (f : Pos → Pos) : (s.modPos c f).fadc = s.fadc := rfl
@[simp] theorem State.modPos_acq (c : Course) (f : Pos → Pos) : (s.modPos c f).acq = s.acq := rfl
@[simp] theorem State.modPos_tc (c : Course) (f : Pos → Pos) : (s.modPos c f).tc = s.tc := rfl
@[simp] theorem State.modPos_iconv (c : Course) (f : Pos → Pos) : (s.modPos c f).iconv = s.iconv := rfl
@[simp] theorem State.modPos_net (c : Course) (f : Pos → Pos) : (s.modPos c f).net = s.net := rfl
@[simp] theorem State.modPos_sup (c : Course) (f : Pos → Pos) : (s.modPos c f).sup = s.sup := rfl
@[simp] theorem State.modPos_rsv (c : Course) (f : Pos → Pos) : (s.modPos c f).rsv = s.rsv := rfl
@[simp] theorem State.modPos_ledg (c : Course) (f : Pos → Pos) : (s.modPos c f).ledg = s.ledg := rfl
@[simp] theorem State.modPos_host (c : Course) (f : Pos → Pos) : (s.modPos c f).host = s.host := rfl
@[simp] theorem State.modPos_twin (c : Course) (f : Pos → Pos) : (s.modPos c f).twin = s.twin := rfl
@[simp] theorem State.modPos_link (c : Course) (f : Pos → Pos) : (s.modPos c f).link = s.link := rfl
@[simp] theorem State.modPos_now (c : Course) (f : Pos → Pos) : (s.modPos c f).now = s.now := rfl
@[simp] theorem State.modPos_gpioIn (c : Course) (f : Pos → Pos) : (s.modPos c f).gpioIn = s.gpioIn := rfl
@[simp] theorem State.modPos_sent (c : Course) (f : Pos → Pos) : (s.modPos c f).sent = s.sent := rfl
@[simp] theorem State.modPos_free (c : Course) (f : Pos → Pos) : (s.modPos c f).free = s.free := rfl
@[simp] theorem State.modPos_pending (c : Course) (f : Pos → Pos) : (s.modPos c f).pending = s.pending := rfl

@[simp] theorem State.modTc_regs (n : Fin 16) (f : Tc → Tc) : (s.modTc n f).regs = s.regs := rfl
@[simp] theorem State.modTc_ram (n : Fin 16) (f : Tc → Tc) : (s.modTc n f).ram = s.ram := rfl
@[simp] theorem State.modTc_mram (n : Fin 16) (f : Tc → Tc) : (s.modTc n f).mram = s.mram := rfl
@[simp] theorem State.modTc_core (n : Fin 16) (f : Tc → Tc) : (s.modTc n f).core = s.core := rfl
@[simp] theorem State.modTc_time (n : Fin 16) (f : Tc → Tc) : (s.modTc n f).time = s.time := rfl
@[simp] theorem State.modTc_mem (n : Fin 16) (f : Tc → Tc) : (s.modTc n f).mem = s.mem := rfl
@[simp] theorem State.modTc_dbg (n : Fin 16) (f : Tc → Tc) : (s.modTc n f).dbg = s.dbg := rfl
@[simp] theorem State.modTc_stage (n : Fin 16) (f : Tc → Tc) : (s.modTc n f).stage = s.stage := rfl
@[simp] theorem State.modTc_pwr (n : Fin 16) (f : Tc → Tc) : (s.modTc n f).pwr = s.pwr := rfl
@[simp] theorem State.modTc_flash (n : Fin 16) (f : Tc → Tc) : (s.modTc n f).flash = s.flash := rfl
@[simp] theorem State.modTc_fadc (n : Fin 16) (f : Tc → Tc) : (s.modTc n f).fadc = s.fadc := rfl
@[simp] theorem State.modTc_acq (n : Fin 16) (f : Tc → Tc) : (s.modTc n f).acq = s.acq := rfl
@[simp] theorem State.modTc_pos (n : Fin 16) (f : Tc → Tc) : (s.modTc n f).pos = s.pos := rfl
@[simp] theorem State.modTc_iconv (n : Fin 16) (f : Tc → Tc) : (s.modTc n f).iconv = s.iconv := rfl
@[simp] theorem State.modTc_net (n : Fin 16) (f : Tc → Tc) : (s.modTc n f).net = s.net := rfl
@[simp] theorem State.modTc_sup (n : Fin 16) (f : Tc → Tc) : (s.modTc n f).sup = s.sup := rfl
@[simp] theorem State.modTc_rsv (n : Fin 16) (f : Tc → Tc) : (s.modTc n f).rsv = s.rsv := rfl
@[simp] theorem State.modTc_ledg (n : Fin 16) (f : Tc → Tc) : (s.modTc n f).ledg = s.ledg := rfl
@[simp] theorem State.modTc_host (n : Fin 16) (f : Tc → Tc) : (s.modTc n f).host = s.host := rfl
@[simp] theorem State.modTc_twin (n : Fin 16) (f : Tc → Tc) : (s.modTc n f).twin = s.twin := rfl
@[simp] theorem State.modTc_link (n : Fin 16) (f : Tc → Tc) : (s.modTc n f).link = s.link := rfl
@[simp] theorem State.modTc_now (n : Fin 16) (f : Tc → Tc) : (s.modTc n f).now = s.now := rfl
@[simp] theorem State.modTc_gpioIn (n : Fin 16) (f : Tc → Tc) : (s.modTc n f).gpioIn = s.gpioIn := rfl
@[simp] theorem State.modTc_sent (n : Fin 16) (f : Tc → Tc) : (s.modTc n f).sent = s.sent := rfl
@[simp] theorem State.modTc_free (n : Fin 16) (f : Tc → Tc) : (s.modTc n f).free = s.free := rfl
@[simp] theorem State.modTc_pending (n : Fin 16) (f : Tc → Tc) : (s.modTc n f).pending = s.pending := rfl

@[simp] theorem State.modRsv_regs (f : Reserve → Reserve) : (s.modRsv f).regs = s.regs := rfl
@[simp] theorem State.modRsv_ram (f : Reserve → Reserve) : (s.modRsv f).ram = s.ram := rfl
@[simp] theorem State.modRsv_mram (f : Reserve → Reserve) : (s.modRsv f).mram = s.mram := rfl
@[simp] theorem State.modRsv_core (f : Reserve → Reserve) : (s.modRsv f).core = s.core := rfl
@[simp] theorem State.modRsv_time (f : Reserve → Reserve) : (s.modRsv f).time = s.time := rfl
@[simp] theorem State.modRsv_mem (f : Reserve → Reserve) : (s.modRsv f).mem = s.mem := rfl
@[simp] theorem State.modRsv_dbg (f : Reserve → Reserve) : (s.modRsv f).dbg = s.dbg := rfl
@[simp] theorem State.modRsv_stage (f : Reserve → Reserve) : (s.modRsv f).stage = s.stage := rfl
@[simp] theorem State.modRsv_pwr (f : Reserve → Reserve) : (s.modRsv f).pwr = s.pwr := rfl
@[simp] theorem State.modRsv_flash (f : Reserve → Reserve) : (s.modRsv f).flash = s.flash := rfl
@[simp] theorem State.modRsv_fadc (f : Reserve → Reserve) : (s.modRsv f).fadc = s.fadc := rfl
@[simp] theorem State.modRsv_acq (f : Reserve → Reserve) : (s.modRsv f).acq = s.acq := rfl
@[simp] theorem State.modRsv_pos (f : Reserve → Reserve) : (s.modRsv f).pos = s.pos := rfl
@[simp] theorem State.modRsv_tc (f : Reserve → Reserve) : (s.modRsv f).tc = s.tc := rfl
@[simp] theorem State.modRsv_iconv (f : Reserve → Reserve) : (s.modRsv f).iconv = s.iconv := rfl
@[simp] theorem State.modRsv_net (f : Reserve → Reserve) : (s.modRsv f).net = s.net := rfl
@[simp] theorem State.modRsv_sup (f : Reserve → Reserve) : (s.modRsv f).sup = s.sup := rfl
@[simp] theorem State.modRsv_rsv (f : Reserve → Reserve) : (s.modRsv f).rsv = f s.rsv := rfl
@[simp] theorem State.modRsv_ledg (f : Reserve → Reserve) : (s.modRsv f).ledg = s.ledg := rfl
@[simp] theorem State.modRsv_host (f : Reserve → Reserve) : (s.modRsv f).host = s.host := rfl
@[simp] theorem State.modRsv_twin (f : Reserve → Reserve) : (s.modRsv f).twin = s.twin := rfl
@[simp] theorem State.modRsv_link (f : Reserve → Reserve) : (s.modRsv f).link = s.link := rfl
@[simp] theorem State.modRsv_now (f : Reserve → Reserve) : (s.modRsv f).now = s.now := rfl
@[simp] theorem State.modRsv_gpioIn (f : Reserve → Reserve) : (s.modRsv f).gpioIn = s.gpioIn := rfl
@[simp] theorem State.modRsv_sent (f : Reserve → Reserve) : (s.modRsv f).sent = s.sent := rfl
@[simp] theorem State.modRsv_free (f : Reserve → Reserve) : (s.modRsv f).free = s.free := rfl
@[simp] theorem State.modRsv_pending (f : Reserve → Reserve) : (s.modRsv f).pending = s.pending := rfl

@[simp] theorem State.modSup_regs (f : Sup → Sup) : (s.modSup f).regs = s.regs := rfl
@[simp] theorem State.modSup_ram (f : Sup → Sup) : (s.modSup f).ram = s.ram := rfl
@[simp] theorem State.modSup_mram (f : Sup → Sup) : (s.modSup f).mram = s.mram := rfl
@[simp] theorem State.modSup_core (f : Sup → Sup) : (s.modSup f).core = s.core := rfl
@[simp] theorem State.modSup_time (f : Sup → Sup) : (s.modSup f).time = s.time := rfl
@[simp] theorem State.modSup_mem (f : Sup → Sup) : (s.modSup f).mem = s.mem := rfl
@[simp] theorem State.modSup_dbg (f : Sup → Sup) : (s.modSup f).dbg = s.dbg := rfl
@[simp] theorem State.modSup_stage (f : Sup → Sup) : (s.modSup f).stage = s.stage := rfl
@[simp] theorem State.modSup_pwr (f : Sup → Sup) : (s.modSup f).pwr = s.pwr := rfl
@[simp] theorem State.modSup_flash (f : Sup → Sup) : (s.modSup f).flash = s.flash := rfl
@[simp] theorem State.modSup_fadc (f : Sup → Sup) : (s.modSup f).fadc = s.fadc := rfl
@[simp] theorem State.modSup_acq (f : Sup → Sup) : (s.modSup f).acq = s.acq := rfl
@[simp] theorem State.modSup_pos (f : Sup → Sup) : (s.modSup f).pos = s.pos := rfl
@[simp] theorem State.modSup_tc (f : Sup → Sup) : (s.modSup f).tc = s.tc := rfl
@[simp] theorem State.modSup_iconv (f : Sup → Sup) : (s.modSup f).iconv = s.iconv := rfl
@[simp] theorem State.modSup_net (f : Sup → Sup) : (s.modSup f).net = s.net := rfl
@[simp] theorem State.modSup_sup (f : Sup → Sup) : (s.modSup f).sup = f s.sup := rfl
@[simp] theorem State.modSup_rsv (f : Sup → Sup) : (s.modSup f).rsv = s.rsv := rfl
@[simp] theorem State.modSup_ledg (f : Sup → Sup) : (s.modSup f).ledg = s.ledg := rfl
@[simp] theorem State.modSup_host (f : Sup → Sup) : (s.modSup f).host = s.host := rfl
@[simp] theorem State.modSup_twin (f : Sup → Sup) : (s.modSup f).twin = s.twin := rfl
@[simp] theorem State.modSup_link (f : Sup → Sup) : (s.modSup f).link = s.link := rfl
@[simp] theorem State.modSup_now (f : Sup → Sup) : (s.modSup f).now = s.now := rfl
@[simp] theorem State.modSup_gpioIn (f : Sup → Sup) : (s.modSup f).gpioIn = s.gpioIn := rfl
@[simp] theorem State.modSup_sent (f : Sup → Sup) : (s.modSup f).sent = s.sent := rfl
@[simp] theorem State.modSup_free (f : Sup → Sup) : (s.modSup f).free = s.free := rfl
@[simp] theorem State.modSup_pending (f : Sup → Sup) : (s.modSup f).pending = s.pending := rfl

@[simp] theorem State.modSupc_regs (c : Course) (f : SupCourse → SupCourse) : (s.modSupc c f).regs = s.regs := rfl
@[simp] theorem State.modSupc_ram (c : Course) (f : SupCourse → SupCourse) : (s.modSupc c f).ram = s.ram := rfl
@[simp] theorem State.modSupc_mram (c : Course) (f : SupCourse → SupCourse) : (s.modSupc c f).mram = s.mram := rfl
@[simp] theorem State.modSupc_core (c : Course) (f : SupCourse → SupCourse) : (s.modSupc c f).core = s.core := rfl
@[simp] theorem State.modSupc_time (c : Course) (f : SupCourse → SupCourse) : (s.modSupc c f).time = s.time := rfl
@[simp] theorem State.modSupc_mem (c : Course) (f : SupCourse → SupCourse) : (s.modSupc c f).mem = s.mem := rfl
@[simp] theorem State.modSupc_dbg (c : Course) (f : SupCourse → SupCourse) : (s.modSupc c f).dbg = s.dbg := rfl
@[simp] theorem State.modSupc_stage (c : Course) (f : SupCourse → SupCourse) : (s.modSupc c f).stage = s.stage := rfl
@[simp] theorem State.modSupc_pwr (c : Course) (f : SupCourse → SupCourse) : (s.modSupc c f).pwr = s.pwr := rfl
@[simp] theorem State.modSupc_flash (c : Course) (f : SupCourse → SupCourse) : (s.modSupc c f).flash = s.flash := rfl
@[simp] theorem State.modSupc_fadc (c : Course) (f : SupCourse → SupCourse) : (s.modSupc c f).fadc = s.fadc := rfl
@[simp] theorem State.modSupc_acq (c : Course) (f : SupCourse → SupCourse) : (s.modSupc c f).acq = s.acq := rfl
@[simp] theorem State.modSupc_pos (c : Course) (f : SupCourse → SupCourse) : (s.modSupc c f).pos = s.pos := rfl
@[simp] theorem State.modSupc_tc (c : Course) (f : SupCourse → SupCourse) : (s.modSupc c f).tc = s.tc := rfl
@[simp] theorem State.modSupc_iconv (c : Course) (f : SupCourse → SupCourse) : (s.modSupc c f).iconv = s.iconv := rfl
@[simp] theorem State.modSupc_net (c : Course) (f : SupCourse → SupCourse) : (s.modSupc c f).net = s.net := rfl
@[simp] theorem State.modSupc_rsv (c : Course) (f : SupCourse → SupCourse) : (s.modSupc c f).rsv = s.rsv := rfl
@[simp] theorem State.modSupc_ledg (c : Course) (f : SupCourse → SupCourse) : (s.modSupc c f).ledg = s.ledg := rfl
@[simp] theorem State.modSupc_host (c : Course) (f : SupCourse → SupCourse) : (s.modSupc c f).host = s.host := rfl
@[simp] theorem State.modSupc_twin (c : Course) (f : SupCourse → SupCourse) : (s.modSupc c f).twin = s.twin := rfl
@[simp] theorem State.modSupc_link (c : Course) (f : SupCourse → SupCourse) : (s.modSupc c f).link = s.link := rfl
@[simp] theorem State.modSupc_now (c : Course) (f : SupCourse → SupCourse) : (s.modSupc c f).now = s.now := rfl
@[simp] theorem State.modSupc_gpioIn (c : Course) (f : SupCourse → SupCourse) : (s.modSupc c f).gpioIn = s.gpioIn := rfl
@[simp] theorem State.modSupc_sent (c : Course) (f : SupCourse → SupCourse) : (s.modSupc c f).sent = s.sent := rfl
@[simp] theorem State.modSupc_free (c : Course) (f : SupCourse → SupCourse) : (s.modSupc c f).free = s.free := rfl
@[simp] theorem State.modSupc_pending (c : Course) (f : SupCourse → SupCourse) : (s.modSupc c f).pending = s.pending := rfl

@[simp] theorem State.modTwin_regs (f : Twin → Twin) : (s.modTwin f).regs = s.regs := rfl
@[simp] theorem State.modTwin_ram (f : Twin → Twin) : (s.modTwin f).ram = s.ram := rfl
@[simp] theorem State.modTwin_mram (f : Twin → Twin) : (s.modTwin f).mram = s.mram := rfl
@[simp] theorem State.modTwin_core (f : Twin → Twin) : (s.modTwin f).core = s.core := rfl
@[simp] theorem State.modTwin_time (f : Twin → Twin) : (s.modTwin f).time = s.time := rfl
@[simp] theorem State.modTwin_mem (f : Twin → Twin) : (s.modTwin f).mem = s.mem := rfl
@[simp] theorem State.modTwin_dbg (f : Twin → Twin) : (s.modTwin f).dbg = s.dbg := rfl
@[simp] theorem State.modTwin_stage (f : Twin → Twin) : (s.modTwin f).stage = s.stage := rfl
@[simp] theorem State.modTwin_pwr (f : Twin → Twin) : (s.modTwin f).pwr = s.pwr := rfl
@[simp] theorem State.modTwin_flash (f : Twin → Twin) : (s.modTwin f).flash = s.flash := rfl
@[simp] theorem State.modTwin_fadc (f : Twin → Twin) : (s.modTwin f).fadc = s.fadc := rfl
@[simp] theorem State.modTwin_acq (f : Twin → Twin) : (s.modTwin f).acq = s.acq := rfl
@[simp] theorem State.modTwin_pos (f : Twin → Twin) : (s.modTwin f).pos = s.pos := rfl
@[simp] theorem State.modTwin_tc (f : Twin → Twin) : (s.modTwin f).tc = s.tc := rfl
@[simp] theorem State.modTwin_iconv (f : Twin → Twin) : (s.modTwin f).iconv = s.iconv := rfl
@[simp] theorem State.modTwin_net (f : Twin → Twin) : (s.modTwin f).net = s.net := rfl
@[simp] theorem State.modTwin_sup (f : Twin → Twin) : (s.modTwin f).sup = s.sup := rfl
@[simp] theorem State.modTwin_rsv (f : Twin → Twin) : (s.modTwin f).rsv = s.rsv := rfl
@[simp] theorem State.modTwin_ledg (f : Twin → Twin) : (s.modTwin f).ledg = s.ledg := rfl
@[simp] theorem State.modTwin_host (f : Twin → Twin) : (s.modTwin f).host = s.host := rfl
@[simp] theorem State.modTwin_twin (f : Twin → Twin) : (s.modTwin f).twin = f s.twin := rfl
@[simp] theorem State.modTwin_link (f : Twin → Twin) : (s.modTwin f).link = s.link := rfl
@[simp] theorem State.modTwin_now (f : Twin → Twin) : (s.modTwin f).now = s.now := rfl
@[simp] theorem State.modTwin_gpioIn (f : Twin → Twin) : (s.modTwin f).gpioIn = s.gpioIn := rfl
@[simp] theorem State.modTwin_sent (f : Twin → Twin) : (s.modTwin f).sent = s.sent := rfl
@[simp] theorem State.modTwin_free (f : Twin → Twin) : (s.modTwin f).free = s.free := rfl
@[simp] theorem State.modTwin_pending (f : Twin → Twin) : (s.modTwin f).pending = s.pending := rfl

end Sys2Proof.Machine
end

