-- ==== Sys2Proof/Laws/Ops.lean ====
section
/-!
SUPPORT. Laws/Ops.lean: for each shared operation what it can do, so that a proof cites it and does not unfold the operation: the issue of
an instruction, its queueing as a long operation, event lines, journal items, persists, memory and the gates.
-/
set_option Elab.async false

namespace Sys2Proof.Machine

/-! ## The canonical form -/

/-- The five stores that the canonical form speaks of. -/
theorem Memory.wf_iff (s : State) : Memory.wf s = true ↔ spWf resetWord s.regs = true ∧ spWf (fun _ => (0 : Word)) s.ram = true
    ∧ spWf (fun _ => (0 : Word)) s.mram = true ∧ spWf (fun _ => (0 : Nat)) s.mem.ramErr = true ∧ spWf (fun _ => (0 : Nat)) s.mem.mramErr = true := by
  simp [Memory.wf, and_assoc]

/-- A change that touches none of the five stores keeps the form. -/
theorem Memory.wf_of_same {s t : State} (hr : t.regs = s.regs) (ha : t.ram = s.ram) (hm : t.mram = s.mram) (he : t.mem.ramErr = s.mem.ramErr)
    (hf : t.mem.mramErr = s.mem.mramErr) (h : Memory.wf s = true) : Memory.wf t = true := by
  unfold Memory.wf; rw [hr, ha, hm, he, hf]; exact h

theorem Memory.wf_setReg {s : State} (h : Memory.wf s = true) (a : Nat) (w : Word) : Memory.wf (s.setReg a w) = true := by
  rw [Memory.wf_iff] at h ⊢; exact ⟨spWf_spSet h.1, h.2⟩

theorem Memory.wf_put {s : State} (h : Memory.wf s = true) (f : Fld) (v : Nat) : Memory.wf (s.put f v) = true := Memory.wf_setReg h _ _

theorem Memory.wf_bump {s : State} (h : Memory.wf s = true) (f : Fld) (k : Nat) : Memory.wf (s.bump f k) = true := Memory.wf_put h _ _

theorem Memory.wf_ramSet {s : State} (h : Memory.wf s = true) (a : Nat) (v : Word) : Memory.wf (s.ramSet a v) = true := by
  rw [Memory.wf_iff] at h ⊢; exact ⟨h.1, spWf_spSet h.2.1, h.2.2.1, spWf_spSet h.2.2.2.1, h.2.2.2.2⟩

theorem Memory.wf_mramSet (l : List Word) : ∀ {s : State}, Memory.wf s = true → ∀ a, Memory.wf (s.mramSet a l) = true := by
  induction l with
  | nil => intro s h a; exact h
  | cons w t ih =>
    intro s h a
    refine ih ?_ (a + 1)
    rw [Memory.wf_iff] at h ⊢; exact ⟨h.1, h.2.1, spWf_spSet h.2.2.1, h.2.2.2.1, spWf_spSet h.2.2.2.2⟩

theorem Memory.wf_loseClasses {s : State} (h : Memory.wf s = true) (lost : Keep → Bool) : Memory.wf (s.loseClasses lost) = true := by
  rw [Memory.wf_iff] at h ⊢
  refine ⟨?_, h.2⟩
  show spWf resetWord (loseRegs lost s.regs) = true
  unfold loseRegs
  exact spWf_spMap h.1

/-! ## Conditional effects -/

@[simp] theorem State.when_true (s : State) (f : State → State) : s.when true f = f s := rfl
@[simp] theorem State.when_false (s : State) (f : State → State) : s.when false f = s := rfl

/-- What holds of a state and of its change holds after the change made on a condition. -/
theorem State.when_cases {p : State → Prop} {s : State} {b : Bool} {f : State → State} (h1 : p (f s)) (h2 : p s) : p (s.when b f) := by
  cases b
  · exact h2
  · exact h1

/-! ## Strands -/

@[simp] theorem State.strand_setStrand (s : State) (i : StrandId) (x : Strand) : (s.setStrand i x).strand i = x := by
  simp [State.strand, State.setStrand]

theorem State.strand_setStrand_ne (s : State) {i j : StrandId} (x : Strand) (h : j ≠ i) : (s.setStrand i x).strand j = s.strand j := by
  have hne : i.val ≠ j.val := fun e => h (Fin.ext e.symm)
  simp [State.strand, State.setStrand, Vector.getElem_set_ne _ _ hne]

/-- w0 reads zero and keeps nothing (R229); another register reads what was written. -/
theorem Strand.rd_wr (x : Strand) (r q : BitVec 5) (v : Word) : (x.wr r v).rd q = if q = r ∧ r ≠ 0 then v else x.rd q := by
  by_cases h0 : r = 0
  · rw [if_neg (fun h => h.2 h0)]
    unfold Strand.wr
    rw [if_pos h0]
  · have hw : x.wr r v = { x with w := x.w.set r.toNat v r.isLt, wrote := x.wrote ++ [v] } := by unfold Strand.wr; rw [if_neg h0]
    by_cases hq : q = r
    · have hr : (if q = r ∧ r ≠ 0 then v else x.rd q) = v := if_pos ⟨hq, h0⟩
      rw [hr, hw]
      subst hq
      unfold Strand.rd
      rw [if_neg h0]
      exact Vector.getElem_set_self _
    · have hr : (if q = r ∧ r ≠ 0 then v else x.rd q) = x.rd q := if_neg (fun h => hq h.1)
      have hne : r.toNat ≠ q.toNat := fun e => hq (BitVec.eq_of_toNat_eq e.symm)
      rw [hr, hw]
      unfold Strand.rd
      by_cases hz : q = 0
      · rw [if_pos hz, if_pos hz]
      · rw [if_neg hz, if_neg hz]
        exact Vector.getElem_set_ne r.isLt q.isLt hne

@[simp] theorem Strand.rd_zero (x : Strand) : x.rd 0 = 0 := rfl

/-! ## Issue -/

@[simp] theorem State.touchFetch_core (s : State) (i : StrandId) : (s.touchFetch i).core = s.core := by
  unfold State.touchFetch; split <;> rfl
@[simp] theorem State.touchFetch_time (s : State) (i : StrandId) : (s.touchFetch i).time = s.time := by
  unfold State.touchFetch; split <;> rfl
@[simp] theorem State.touchFetch_regs (s : State) (i : StrandId) : (s.touchFetch i).regs = s.regs := by
  unfold State.touchFetch; split <;> rfl
@[simp] theorem State.touchFetch_ram (s : State) (i : StrandId) : (s.touchFetch i).ram = s.ram := by
  unfold State.touchFetch; split <;> rfl
@[simp] theorem State.touchFetch_mram (s : State) (i : StrandId) : (s.touchFetch i).mram = s.mram := by
  unfold State.touchFetch; split <;> rfl
@[simp] theorem State.touchFetch_strand (s : State) (i j : StrandId) : (s.touchFetch i).strand j = s.strand j := by
  unfold State.strand; rw [State.touchFetch_core]

@[simp] theorem State.noteIssue_core (s : State) (i : StrandId) : (s.noteIssue i).core = s.core := by
  unfold State.noteIssue; split <;> rfl
@[simp] theorem State.noteIssue_time (s : State) (i : StrandId) : (s.noteIssue i).time = s.time := by
  unfold State.noteIssue; split <;> rfl
@[simp] theorem State.noteIssue_regs (s : State) (i : StrandId) : (s.noteIssue i).regs = s.regs := by
  unfold State.noteIssue; split <;> rfl
@[simp] theorem State.noteIssue_ram (s : State) (i : StrandId) : (s.noteIssue i).ram = s.ram := by
  unfold State.noteIssue; split <;> rfl
@[simp] theorem State.noteIssue_mram (s : State) (i : StrandId) : (s.noteIssue i).mram = s.mram := by
  unfold State.noteIssue; split <;> rfl
@[simp] theorem State.noteIssue_mem (s : State) (i : StrandId) : (s.noteIssue i).mem = s.mem := by
  unfold State.noteIssue; split <;> rfl
@[simp] theorem State.noteIssue_strand (s : State) (i j : StrandId) : (s.noteIssue i).strand j = s.strand j := by
  unfold State.strand; rw [State.noteIssue_core]

/-- A chip that is not in a pair in sync notes nothing for the digest (R745). -/
theorem State.noteIssue_unpaired {s : State} (h : s.paired = false) (i : StrandId) : s.noteIssue i = s := by
  unfold State.noteIssue; simp [h]

theorem State.noteStore_unpaired {s : State} (h : s.paired = false) (a : Nat) (ws : List Word) : s.noteStore a ws = s := by
  unfold State.noteStore; simp [h]

/-- A ready strand issues: its instruction runs on the state whose fetch is counted as used, and a debug step ends. -/
theorem State.issue_ready {s : State} {i : StrandId} {regs : List (BitVec 5)} {run : State → State} (h : s.ready i regs) :
    s.issue i regs false run = (run ((s.touchFetch i).noteIssue i)).stepEnd
      ((s.strand i).stepping && !((run ((s.touchFetch i).noteIssue i)).strand i).stepping) := by
  obtain ⟨h1, h2, h3, h4, h5⟩ := h
  unfold State.issue
  rcases h3 with h3 | ⟨h3, h6⟩
  · simp [h1, h2, h3, h4, h5]
  · by_cases hs : (s.strand i).stepping = true
    · simp [h1, h2, h3, h4, h5, hs]
    · simp [h1, h2, h3, h4, h5, h6, hs]

/-- A strand that is not eligible, or whose registers are pending, does nothing. -/
theorem State.issue_idle {s : State} {i : StrandId} {regs : List (BitVec 5)} {bad : Bool} {run : State → State}
    (h : s.canIssue i = false ∨ regs.any (s.pendingReg i) = true) : s.issue i regs bad run = s := by
  unfold State.issue
  rcases h with h | h <;> simp [h]

/-- A short instruction of a ready strand changes its strand only. -/
theorem State.issueShort_ready {s : State} {i : StrandId} {regs : List (BitVec 5)} {f : Strand → Strand} (h : s.ready i regs) :
    s.issueShort i regs false f = s.after i (f (s.strand i)).next := by
  unfold State.issueShort State.after
  rw [State.issue_ready h]
  simp [Strand.issued]

/-- A branch of a ready strand changes its strand only. -/
theorem State.issueBranch_ready {s : State} {i : StrandId} {regs : List (BitVec 5)} {f : Strand → Strand} (h : s.ready i regs) :
    s.issueBranch i regs false f = s.after i (f (s.strand i)) := by
  unfold State.issueBranch State.after
  rw [State.issue_ready h]
  simp [Strand.issued]

@[simp] theorem State.stepEnd_ram (s : State) (b : Bool) : (s.stepEnd b).ram = s.ram := by cases b <;> rfl
@[simp] theorem State.stepEnd_mram (s : State) (b : Bool) : (s.stepEnd b).mram = s.mram := by cases b <;> rfl
@[simp] theorem State.stepEnd_core (s : State) (b : Bool) : (s.stepEnd b).core = s.core := by cases b <;> rfl
@[simp] theorem State.stepEnd_mem (s : State) (b : Bool) : (s.stepEnd b).mem = s.mem := by cases b <;> rfl
@[simp] theorem State.stepEnd_strand (s : State) (b : Bool) (i : StrandId) : (s.stepEnd b).strand i = s.strand i := by cases b <;> rfl

/-- The frame of a short instruction: no other strand, no word of RAM or MRAM, and no operation in flight changes. -/
theorem State.after_frame (s : State) (i : StrandId) (y : Strand) : (s.after i y).ram = s.ram ∧ (s.after i y).mram = s.mram
    ∧ (s.after i y).core.ops = s.core.ops ∧ (s.after i y).strand i = y.issued s.time.dtime
    ∧ ∀ j, j ≠ i → (s.after i y).strand j = s.strand j := by
  unfold State.after
  refine ⟨?_, ?_, ?_, ?_, fun j hj => ?_⟩
  · simp
  · simp
  · rw [State.stepEnd_core]
    show ((s.touchFetch i).noteIssue i).core.ops = s.core.ops
    rw [State.noteIssue_core, State.touchFetch_core]
  · simp
  · simp [State.strand_setStrand_ne _ _ hj]

theorem State.touchFetch_launch (s : State) (i j : StrandId) (body : OpBody) (stage : OpStage) :
    (s.launch i body stage).touchFetch j = (s.touchFetch j).launch i body stage := by
  have h : (s.launch i body stage).strand j = s.strand j := rfl
  unfold State.touchFetch
  rw [h]
  by_cases hx : region (s.strand j).pc.toNat = .xip
  · rw [if_pos hx, if_pos hx]; rfl
  · rw [if_neg hx, if_neg hx]

theorem State.noteIssue_launch (s : State) (i j : StrandId) (body : OpBody) (stage : OpStage) :
    (s.launch i body stage).noteIssue j = (s.noteIssue j).launch i body stage := by
  have h : (s.launch i body stage).paired = s.paired := rfl
  unfold State.noteIssue
  rw [h]
  by_cases hx : s.paired = true
  · rw [if_pos hx, if_pos hx]; rfl
  · rw [if_neg hx, if_neg hx]

/-- A long operation of a ready strand, whose issue has no other effect, goes in flight. -/
theorem State.issueLong_ready {s : State} {i : StrandId} {regs : List (BitVec 5)} {body : OpBody} {stage : OpStage}
    (h : s.readyLong i regs) : s.issueLong i regs false none body stage (fun t => t) = s.inFlight i body stage := by
  obtain ⟨h1, h2, h3⟩ := h
  have hl : s.inFlight i body stage = (s.launch i body stage).after i (s.strand i).next := rfl
  unfold State.issueLong
  rw [if_neg (by simp [h2]), State.issue_ready h1, hl]
  unfold State.after
  rw [State.touchFetch_launch, State.noteIssue_launch]
  have hs : (((s.touchFetch i).noteIssue i).launch i body stage).strand i = s.strand i := by
    show ((s.touchFetch i).noteIssue i).strand i = _
    simp
  have ht : (((s.touchFetch i).noteIssue i).launch i body stage).time = s.time := by
    show ((s.touchFetch i).noteIssue i).time = _
    simp
  have hst : ((s.launch i body stage).strand i).stepping = (s.strand i).stepping := rfl
  have htt : (s.launch i body stage).time = s.time := rfl
  dsimp only
  unfold State.advance State.modStrand
  rw [hs, ht, hst, htt]
  simp [Strand.issued]

/-! ## Lines, journal and persists -/

@[simp] theorem State.assertLines_regs (s : State) (l : BitVec 256) : (s.assertLines l).regs = s.regs := rfl
@[simp] theorem State.assertLines_ram (s : State) (l : BitVec 256) : (s.assertLines l).ram = s.ram := rfl
@[simp] theorem State.assertLines_mram (s : State) (l : BitVec 256) : (s.assertLines l).mram = s.mram := rfl
@[simp] theorem State.assertLines_mem (s : State) (l : BitVec 256) : (s.assertLines l).mem = s.mem := rfl
@[simp] theorem State.assertLines_sent (s : State) (l : BitVec 256) : (s.assertLines l).sent = s.sent := rfl
@[simp] theorem State.assertEv_regs (s : State) (l : Nat) : (s.assertEv l).regs = s.regs := rfl
@[simp] theorem State.assertEv_ram (s : State) (l : Nat) : (s.assertEv l).ram = s.ram := rfl
@[simp] theorem State.assertEv_mram (s : State) (l : Nat) : (s.assertEv l).mram = s.mram := rfl
@[simp] theorem State.assertEv_mem (s : State) (l : Nat) : (s.assertEv l).mem = s.mem := rfl
@[simp] theorem State.assertEv_sent (s : State) (l : Nat) : (s.assertEv l).sent = s.sent := rfl

/-- What lines do to one strand: its registers, PC, status and state stay; the lines that its mask holds become pending (R209, R210). -/
theorem Strand.hear_frame (x : Strand) (d : Word) (l : BitVec 256) : (x.hear d l).w = x.w ∧ (x.hear d l).pc = x.pc ∧ (x.hear d l).st = x.st
    ∧ (x.hear d l).state = x.state ∧ (x.hear d l).mask = x.mask ∧ (x.hear d l).pend = x.pend ||| (l &&& x.mask) := ⟨rfl, rfl, rfl, rfl, rfl, rfl⟩

/-- Every strand hears the lines of its beat at the end of it. -/
theorem State.strand_hearLines (s : State) (i : StrandId) : s.hearLines.strand i = (s.strand i).hear s.time.dtime s.now.lines := by
  simp [State.strand, State.hearLines]
@[simp] theorem State.assertLines_core (s : State) (l : BitVec 256) : (s.assertLines l).core = s.core := rfl
@[simp] theorem State.assertEv_core (s : State) (l : Nat) : (s.assertEv l).core = s.core := rfl
@[simp] theorem State.assertLines_lines (s : State) (l : BitVec 256) : (s.assertLines l).now.lines = s.now.lines ||| l := rfl
@[simp] theorem State.assertEv_lines (s : State) (l : Nat) : (s.assertEv l).now.lines = s.now.lines ||| BitVec.ofNat 256 (1 <<< l) := rfl

/-- A chip that does not journal records no item (R739). -/
theorem State.jot_inactive {s : State} (h : s.active = false) (k : Nat) (ws : List Word) : s.jot k ws = s := by
  simp [State.jot, State.jotItem, h]

theorem State.jotRx_inactive {s : State} (h : s.active = false) (e : RxEvent) : s.jotRx e = s := by
  simp [State.jotRx, State.jotItem, h]

theorem State.jotCond_inactive {s : State} (h : s.active = false) (k n : Nat) : s.jotCond k n = s := State.jot_inactive h _ _

/-- A chip of no twin pair neither journals nor replays, and drives. -/
theorem State.single_role {s : State} (h : s.get R.RST_STRAP_ROLE = 0) :
    s.isTwin = false ∧ s.active = false ∧ s.shadowing = false ∧ s.twinDrives = true := by
  simp [State.isTwin, State.active, State.shadowing, State.twinDrives, h]

@[simp] theorem State.persist_regs (s : State) (p : Persist) : (s.persist p).regs = s.regs := rfl
@[simp] theorem State.persist_ram (s : State) (p : Persist) : (s.persist p).ram = s.ram := rfl
@[simp] theorem State.persist_mram (s : State) (p : Persist) : (s.persist p).mram = s.mram := rfl
@[simp] theorem State.persist_core (s : State) (p : Persist) : (s.persist p).core = s.core := rfl
@[simp] theorem State.persist_persists (s : State) (p : Persist) : (s.persist p).mem.persists = s.mem.persists ++ [p] := rfl

/-! ## The gates -/

/-- The drivers of one half-bridge take commands: no register, memory or strand changes. -/
theorem State.driveHb_frame (s : State) (h : HB) (x : HalfBridge) (hi lo : Bool) : (s.driveHb h x hi lo).regs = s.regs
    ∧ (s.driveHb h x hi lo).ram = s.ram ∧ (s.driveHb h x hi lo).mram = s.mram ∧ (s.driveHb h x hi lo).core = s.core
    ∧ (s.driveHb h x hi lo).mem = s.mem := by
  unfold State.driveHb
  dsimp only
  split <;> exact ⟨rfl, rfl, rfl, rfl, rfl⟩

/-- The gates of one half-bridge follow: no register, memory or strand changes. -/
theorem State.refreshHb_frame (s : State) (h : HB) : (s.refreshHb h).regs = s.regs ∧ (s.refreshHb h).ram = s.ram ∧ (s.refreshHb h).mram = s.mram
    ∧ (s.refreshHb h).core = s.core ∧ (s.refreshHb h).mem = s.mem := by
  unfold State.refreshHb
  dsimp only
  split <;> exact State.driveHb_frame _ _ _ _ _

/-- The gates of a course follow: of the registers only the reaction that shows (R425) changes. -/
theorem State.refresh_frame (s : State) (c : Course) : (s.refresh c).regs = (s.put (R.PROTC_STAT_ACT c) (s.reaction c)).regs
    ∧ (s.refresh c).ram = s.ram ∧ (s.refresh c).mram = s.mram ∧ (s.refresh c).core = s.core ∧ (s.refresh c).mem = s.mem := by
  unfold State.refresh
  obtain ⟨a1, a2, a3, a4, a5⟩ := State.refreshHb_frame (s.put (R.PROTC_STAT_ACT c) (s.reaction c)) (hbOf c 0)
  obtain ⟨b1, b2, b3, b4, b5⟩ := State.refreshHb_frame ((s.put (R.PROTC_STAT_ACT c) (s.reaction c)).refreshHb (hbOf c 0)) (hbOf c 1)
  obtain ⟨c1, c2, c3, c4, c5⟩ := State.refreshHb_frame
    (((s.put (R.PROTC_STAT_ACT c) (s.reaction c)).refreshHb (hbOf c 0)).refreshHb (hbOf c 1)) (hbOf c 2)
  dsimp only
  refine ⟨?_, ?_, ?_, ?_, ?_⟩
  · rw [c1, b1, a1]
  · rw [c2, b2, a2]; rfl
  · rw [c3, b3, a3]; rfl
  · rw [c4, b4, a4]; rfl
  · rw [c5, b5, a5]; rfl

end Sys2Proof.Machine
end

