-- ==== Sys2Proof/Laws/PerInstr.lean ====
section
/-!
SUPPORT. Laws/PerInstr.lean: what is said of every command as syntax: one that is an instruction encodes into a word whose OP the opcode
map assigns (R250); one that is an event spells no word.
-/
set_option Elab.async false

namespace Sys2Proof

theorem opOf_append (op : BitVec 6) (y : BitVec 42) : opOf (op ++ y) = op.toNat := by
  unfold opOf
  congr 1
  ext i hi
  rw [BitVec.getElem_extractLsb']
  exact (BitVec.getLsbD_append (x := op) (y := y) (i := 42 + i)).trans (by simp [hi])
theorem opOf_wordA (op : BitVec 6) (fn : BitVec 11) (x : FmtA) : opOf (x.word op fn) = op.toNat := by
  have h : x.word op fn = op ++ (x.rd ++ x.ra ++ x.rb ++ fn ++ BitVec.ofBool x.f ++ BitVec.ofBool x.s ++ BitVec.ofBool x.u ++ BitVec.ofBool x.ac ++ x.am ++ x.imm) := by
    unfold FmtA.word
    simp only [BitVec.append_assoc, BitVec.cast_eq]
  rw [h]; exact opOf_append op _
theorem opOf_wordI (op : BitVec 6) (x : FmtI) : opOf (x.word op) = op.toNat := by
  have h : x.word op = op ++ (x.rd ++ x.ra ++ BitVec.ofBool x.f ++ BitVec.ofBool x.s ++ BitVec.ofBool x.u ++ x.imm) := by
    unfold FmtI.word
    simp only [BitVec.append_assoc, BitVec.cast_eq]
  rw [h]; exact opOf_append op _
theorem opOf_wordM (op : BitVec 6) (x : FmtM) : opOf (x.word op) = op.toNat := by
  have h : x.word op = op ++ (x.rt ++ x.ra ++ x.mode ++ x.ri ++ x.disp) := by
    unfold FmtM.word
    simp only [BitVec.append_assoc, BitVec.cast_eq]
  rw [h]; exact opOf_append op _
theorem opOf_wordB (op : BitVec 6) (x : FmtB) : opOf (x.word op) = op.toNat := by
  have h : x.word op = op ++ (x.cond ++ x.rl ++ x.rsv ++ x.off) := by
    unfold FmtB.word
    simp only [BitVec.append_assoc, BitVec.cast_eq]
  rw [h]; exact opOf_append op _
theorem opOf_wordK (op : BitVec 6) (x : FmtK) : opOf (x.word op) = op.toNat := by
  have h : x.word op = op ++ (x.rd ++ x.p ++ x.rsv ++ x.imm) := by
    unfold FmtK.word
    simp only [BitVec.append_assoc, BitVec.cast_eq]
  rw [h]; exact opOf_append op _
theorem opOf_wordX (op xfn : BitVec 6) (x : FmtX) : opOf (x.word op xfn) = op.toNat := by
  have h : x.word op xfn = op ++ (x.rd ++ x.ra ++ x.rb ++ xfn ++ x.rsv ++ x.imm) := by
    unfold FmtX.word
    simp only [BitVec.append_assoc, BitVec.cast_eq]
  rw [h]; exact opOf_append op _

end Sys2Proof

namespace Sys2Proof.Laws.Operands

/-- The values of OP that R250 assigns. -/
def assignedOps : List Nat :=
  [0x01, 0x02, 0x03, 0x04, 0x08, 0x09, 0x0A, 0x0B, 0x0C, 0x0D, 0x0E, 0x10, 0x11, 0x12, 0x13, 0x14, 0x15, 0x18, 0x19, 0x1A, 0x20, 0x21, 0x24,
   0x28, 0x29, 0x2A, 0x2B, 0x2C, 0x2D, 0x2E, 0x2F, 0x30]

/-- The word of a command, where it spells one, has an OP that R250 assigns. -/
def Statement (c : Instr) : Prop := ∀ p, encodeIbben c = some p → opOf p.2 ∈ assignedOps

/-- A command that is an event spells no word. -/
theorem of_event {c : Instr} (h : encodeIbben c = none) : Statement c := fun _ hp => nomatch h.symm.trans hp

/-- An instruction has the OP of its row in its word. -/
theorem of_op {c : Instr} {i : StrandId} {w : Word} {op : BitVec 6} (h : encodeIbben c = some (i, w)) (ho : opOf w = op.toNat)
    (ha : assignedOps.contains op.toNat = true) : Statement c := by
  intro p hp
  have e := Option.some.inj (h.symm.trans hp)
  rw [← e]
  show opOf w ∈ assignedOps
  rw [ho]
  exact List.contains_iff_mem.mp ha
theorem of_A {c : Instr} {i : StrandId} (op : BitVec 6) {fn : BitVec 11} {x : FmtA} (h : encodeIbben c = some (i, x.word op fn))
    (ha : assignedOps.contains op.toNat = true) : Statement c := of_op h (opOf_wordA op fn x) ha
theorem of_I {c : Instr} {i : StrandId} (op : BitVec 6) {x : FmtI} (h : encodeIbben c = some (i, x.word op))
    (ha : assignedOps.contains op.toNat = true) : Statement c := of_op h (opOf_wordI op x) ha
theorem of_M {c : Instr} {i : StrandId} (op : BitVec 6) {x : FmtM} (h : encodeIbben c = some (i, x.word op))
    (ha : assignedOps.contains op.toNat = true) : Statement c := of_op h (opOf_wordM op x) ha
theorem of_B {c : Instr} {i : StrandId} (op : BitVec 6) {x : FmtB} (h : encodeIbben c = some (i, x.word op))
    (ha : assignedOps.contains op.toNat = true) : Statement c := of_op h (opOf_wordB op x) ha
theorem of_K {c : Instr} {i : StrandId} (op : BitVec 6) {x : FmtK} (h : encodeIbben c = some (i, x.word op))
    (ha : assignedOps.contains op.toNat = true) : Statement c := of_op h (opOf_wordK op x) ha
theorem of_X {c : Instr} {i : StrandId} (op : BitVec 6) {fn : BitVec 6} {x : FmtX} (h : encodeIbben c = some (i, x.word op fn))
    (ha : assignedOps.contains op.toNat = true) : Statement c := of_op h (opOf_wordX op fn x) ha

theorem registerWrite (m : Master) (a : BitVec 24) (v : Word) : Statement (.registerWrite m a v) := of_event rfl
theorem powerOn : Statement (.powerOn) := of_event rfl
theorem brownout (src : BitVec 2) : Statement (.brownout src) := of_event rfl
theorem supplyLossOff : Statement (.supplyLossOff) := of_event rfl
theorem offLatchRelease : Statement (.offLatchRelease) := of_event rfl
theorem vsupSourceSwitch (toVrsv : Bool) : Statement (.vsupSourceSwitch toVrsv) := of_event rfl
theorem vbatuvSet : Statement (.vbatuvSet) := of_event rfl
theorem vbatuvClear : Statement (.vbatuvClear) := of_event rfl
theorem srrHoldEnd : Statement (.srrHoldEnd) := of_event rfl
theorem resetPinAssert : Statement (.resetPinAssert) := of_event rfl
theorem resetPinRelease : Statement (.resetPinRelease) := of_event rfl
theorem softwareReset (m : Master) (v : Word) : Statement (.softwareReset m v) := of_event rfl
theorem bootFlow (s1 s2 s3 : BitVec 8) : Statement (.bootFlow s1 s2 s3) := of_event rfl
theorem imageTryEnd (t : ImageTry) : Statement (.imageTryEnd t) := of_event rfl
theorem hostGo (m : Master) : Statement (.hostGo m) := of_event rfl
theorem hostTryTimeout : Statement (.hostTryTimeout) := of_event rfl
theorem referenceValid : Statement (.referenceValid) := of_event rfl
theorem referenceLost : Statement (.referenceLost) := of_event rfl
theorem beatRelease : Statement (.beatRelease) := of_event rfl
theorem dllCorrection (line : Fin 2) (drift : Fin 3) : Statement (.dllCorrection line drift) := of_event rfl
theorem dtimeHandoff (k : Nat) (qr qb : Word) : Statement (.dtimeHandoff k qr qb) := of_event rfl
theorem syncEdge (announced : Word) : Statement (.syncEdge announced) := of_event rfl
theorem beaconSample (fwd : Option (BitVec 64 × Word)) : Statement (.beaconSample fwd) := of_event rfl
theorem beaconTimeout : Statement (.beaconTimeout) := of_event rfl
theorem holdoverExpiry : Statement (.holdoverExpiry) := of_event rfl
theorem tpulseBoundary : Statement (.tpulseBoundary) := of_event rfl
theorem tpulseEnd : Statement (.tpulseEnd) := of_event rfl
theorem reqRun (m : Master) : Statement (.reqRun m) := of_event rfl
theorem reqDoze (m : Master) : Statement (.reqDoze m) := of_event rfl
theorem reqStandby (m : Master) : Statement (.reqStandby m) := of_event rfl
theorem reqRest (m : Master) : Statement (.reqRest m) := of_event rfl
theorem entryDrainEnd : Statement (.entryDrainEnd) := of_event rfl
theorem drainLimitExpiry : Statement (.drainLimitExpiry) := of_event rfl
theorem pointOfNoReturn : Statement (.pointOfNoReturn) := of_event rfl
theorem entryComplete : Statement (.entryComplete) := of_event rfl
theorem standbyDeepen : Statement (.standbyDeepen) := of_event rfl
theorem wakePinEdge (k : Fin 4) : Statement (.wakePinEdge k) := of_event rfl
theorem wakeTimerExpiry : Statement (.wakeTimerExpiry) := of_event rfl
theorem peerActivityWake : Statement (.peerActivityWake) := of_event rfl
theorem lpHallSample (d : Dom) (levels : BitVec 24) : Statement (.lpHallSample d levels) := of_event rfl
theorem ramWriteback (a : BitVec 24) : Statement (.ramWriteback a) := of_event rfl
theorem mramWriteback (a : BitVec 24) : Statement (.mramWriteback a) := of_event rfl
theorem ramScrub (bits : BitVec 3) : Statement (.ramScrub bits) := of_event rfl
theorem mramScrub (bits : BitVec 3) : Statement (.mramScrub bits) := of_event rfl
theorem persistPhase1Start : Statement (.persistPhase1Start) := of_event rfl
theorem persistCommit : Statement (.persistCommit) := of_event rfl
theorem persistRetire : Statement (.persistRetire) := of_event rfl
theorem journalPeriod : Statement (.journalPeriod) := of_event rfl
theorem journalRequest (m : Master) : Statement (.journalRequest m) := of_event rfl
theorem programBootKey (m : Master) : Statement (.programBootKey m) := of_event rfl
theorem programUnlockCode (m : Master) : Statement (.programUnlockCode m) := of_event rfl
theorem setLockWord (m : Master) : Statement (.setLockWord m) := of_event rfl
theorem clrcnt (m : Master) : Statement (.clrcnt m) := of_event rfl
theorem strandRunnable (s : StrandId) : Statement (.strandRunnable s) := of_event rfl
theorem deadlineReached (s : StrandId) : Statement (.deadlineReached s) := of_event rfl
theorem strandDrainEnd (s : StrandId) : Statement (.strandDrainEnd s) := of_event rfl
theorem evset (m : Master) (v : Word) : Statement (.evset m v) := of_event rfl
theorem wdkick (m : Master) (v : Word) : Statement (.wdkick m v) := of_event rfl
theorem watchdogWindowOpen : Statement (.watchdogWindowOpen) := of_event rfl
theorem watchdogExpiry : Statement (.watchdogExpiry) := of_event rfl
theorem escalationDrainEnd : Statement (.escalationDrainEnd) := of_event rfl
theorem escalationLogTimeout : Statement (.escalationLogTimeout) := of_event rfl
theorem registerFileParityError (s : StrandId) : Statement (.registerFileParityError s) := of_event rfl
theorem add (s : StrandId) (x : FmtA) : Statement (.add s x) := of_A 0x01 rfl rfl
theorem sub (s : StrandId) (x : FmtA) : Statement (.sub s x) := of_A 0x01 rfl rfl
theorem adc (s : StrandId) (x : FmtA) : Statement (.adc s x) := of_A 0x01 rfl rfl
theorem sbc (s : StrandId) (x : FmtA) : Statement (.sbc s x) := of_A 0x01 rfl rfl
theorem neg (s : StrandId) (x : FmtA) : Statement (.neg s x) := of_A 0x01 rfl rfl
theorem abs (s : StrandId) (x : FmtA) : Statement (.abs s x) := of_A 0x01 rfl rfl
theorem min (s : StrandId) (x : FmtA) : Statement (.min s x) := of_A 0x01 rfl rfl
theorem max (s : StrandId) (x : FmtA) : Statement (.max s x) := of_A 0x01 rfl rfl
theorem and (s : StrandId) (x : FmtA) : Statement (.and s x) := of_A 0x02 rfl rfl
theorem or (s : StrandId) (x : FmtA) : Statement (.or s x) := of_A 0x02 rfl rfl
theorem xor (s : StrandId) (x : FmtA) : Statement (.xor s x) := of_A 0x02 rfl rfl
theorem andn (s : StrandId) (x : FmtA) : Statement (.andn s x) := of_A 0x02 rfl rfl
theorem orn (s : StrandId) (x : FmtA) : Statement (.orn s x) := of_A 0x02 rfl rfl
theorem xnor (s : StrandId) (x : FmtA) : Statement (.xnor s x) := of_A 0x02 rfl rfl
theorem shl (s : StrandId) (x : FmtA) : Statement (.shl s x) := of_A 0x03 rfl rfl
theorem shr (s : StrandId) (x : FmtA) : Statement (.shr s x) := of_A 0x03 rfl rfl
theorem asr (s : StrandId) (x : FmtA) : Statement (.asr s x) := of_A 0x03 rfl rfl
theorem ror (s : StrandId) (x : FmtA) : Statement (.ror s x) := of_A 0x03 rfl rfl
theorem asrr (s : StrandId) (x : FmtA) : Statement (.asrr s x) := of_A 0x03 rfl rfl
theorem extu (s : StrandId) (len : BitVec 6) (x : FmtA) : Statement (.extu s len x) := of_A 0x04 rfl rfl
theorem exts (s : StrandId) (len : BitVec 6) (x : FmtA) : Statement (.exts s len x) := of_A 0x04 rfl rfl
theorem ins (s : StrandId) (len : BitVec 6) (x : FmtA) : Statement (.ins s len x) := of_A 0x04 rfl rfl
theorem clz (s : StrandId) (len : BitVec 6) (x : FmtA) : Statement (.clz s len x) := of_A 0x04 rfl rfl
theorem ctz (s : StrandId) (len : BitVec 6) (x : FmtA) : Statement (.ctz s len x) := of_A 0x04 rfl rfl
theorem popc (s : StrandId) (len : BitVec 6) (x : FmtA) : Statement (.popc s len x) := of_A 0x04 rfl rfl
theorem brev (s : StrandId) (len : BitVec 6) (x : FmtA) : Statement (.brev s len x) := of_A 0x04 rfl rfl
theorem addi (s : StrandId) (x : FmtI) : Statement (.addi s x) := of_I 0x08 rfl rfl
theorem subi (s : StrandId) (x : FmtI) : Statement (.subi s x) := of_I 0x09 rfl rfl
theorem andi (s : StrandId) (x : FmtI) : Statement (.andi s x) := of_I 0x0A rfl rfl
theorem ori (s : StrandId) (x : FmtI) : Statement (.ori s x) := of_I 0x0B rfl rfl
theorem xori (s : StrandId) (x : FmtI) : Statement (.xori s x) := of_I 0x0C rfl rfl
theorem shi (s : StrandId) (x : FmtI) : Statement (.shi s x) := of_I 0x0D rfl rfl
theorem rsbi (s : StrandId) (x : FmtI) : Statement (.rsbi s x) := of_I 0x0E rfl rfl
theorem mul (s : StrandId) (x : FmtA) : Statement (.mul s x) := of_A 0x10 rfl rfl
theorem mulh (s : StrandId) (x : FmtA) : Statement (.mulh s x) := of_A 0x10 rfl rfl
theorem mula (s : StrandId) (x : FmtA) : Statement (.mula s x) := of_A 0x11 rfl rfl
theorem mac (s : StrandId) (x : FmtA) : Statement (.mac s x) := of_A 0x11 rfl rfl
theorem msu (s : StrandId) (x : FmtA) : Statement (.msu s x) := of_A 0x11 rfl rfl
theorem clra (s : StrandId) (x : FmtA) : Statement (.clra s x) := of_A 0x11 rfl rfl
theorem narw (s : StrandId) (x : FmtA) : Statement (.narw s x) := of_A 0x12 rfl rfl
theorem mfah (s : StrandId) (x : FmtA) : Statement (.mfah s x) := of_A 0x12 rfl rfl
theorem mfal (s : StrandId) (x : FmtA) : Statement (.mfal s x) := of_A 0x12 rfl rfl
theorem mta (s : StrandId) (x : FmtA) : Statement (.mta s x) := of_A 0x12 rfl rfl
theorem cvq24 (s : StrandId) (x : FmtA) : Statement (.cvq24 s x) := of_A 0x13 rfl rfl
theorem cvq47 (s : StrandId) (x : FmtA) : Statement (.cvq47 s x) := of_A 0x13 rfl rfl
theorem cvi24 (s : StrandId) (x : FmtA) : Statement (.cvi24 s x) := of_A 0x13 rfl rfl
theorem cv24i (s : StrandId) (x : FmtA) : Statement (.cv24i s x) := of_A 0x13 rfl rfl
theorem li (s : StrandId) (x : FmtK) : Statement (.li s x) := of_K 0x14 rfl rfl
theorem lipc (s : StrandId) (x : FmtK) : Statement (.lipc s x) := of_K 0x15 rfl rfl
theorem ld (s : StrandId) (x : FmtM) : Statement (.ld s x) := of_M 0x18 rfl rfl
theorem st (s : StrandId) (x : FmtM) : Statement (.st s x) := of_M 0x19 rfl rfl
theorem lea (s : StrandId) (x : FmtM) : Statement (.lea s x) := of_M 0x1A rfl rfl
theorem b (s : StrandId) (x : FmtB) : Statement (.b s x) := of_B 0x20 rfl rfl
theorem br (s : StrandId) (x : FmtA) : Statement (.br s x) := of_A 0x21 rfl rfl
theorem cmp (s : StrandId) (x : FmtA) : Statement (.cmp s x) := of_A 0x24 rfl rfl
theorem cmn (s : StrandId) (x : FmtA) : Statement (.cmn s x) := of_A 0x24 rfl rfl
theorem tst (s : StrandId) (x : FmtA) : Statement (.tst s x) := of_A 0x24 rfl rfl
theorem sel (s : StrandId) (x : FmtA) : Statement (.sel s x) := of_A 0x24 rfl rfl
theorem setc (s : StrandId) (x : FmtA) : Statement (.setc s x) := of_A 0x24 rfl rfl
theorem mfst (s : StrandId) (x : FmtA) : Statement (.mfst s x) := of_A 0x24 rfl rfl
theorem mtst (s : StrandId) (x : FmtA) : Statement (.mtst s x) := of_A 0x24 rfl rfl
theorem stclr (s : StrandId) (x : FmtA) : Statement (.stclr s x) := of_A 0x24 rfl rfl
theorem stset (s : StrandId) (x : FmtA) : Statement (.stset s x) := of_A 0x24 rfl rfl
theorem divs (s : StrandId) (x : FmtX) : Statement (.divs s x) := of_X 0x28 rfl rfl
theorem divu (s : StrandId) (x : FmtX) : Statement (.divu s x) := of_X 0x28 rfl rfl
theorem rems (s : StrandId) (x : FmtX) : Statement (.rems s x) := of_X 0x28 rfl rfl
theorem remu (s : StrandId) (x : FmtX) : Statement (.remu s x) := of_X 0x28 rfl rfl
theorem divq24 (s : StrandId) (x : FmtX) : Statement (.divq24 s x) := of_X 0x28 rfl rfl
theorem divq47 (s : StrandId) (x : FmtX) : Statement (.divq47 s x) := of_X 0x28 rfl rfl
theorem isqrt (s : StrandId) (x : FmtX) : Statement (.isqrt s x) := of_X 0x28 rfl rfl
theorem sqrtq24 (s : StrandId) (x : FmtX) : Statement (.sqrtq24 s x) := of_X 0x28 rfl rfl
theorem sqrtq47 (s : StrandId) (x : FmtX) : Statement (.sqrtq47 s x) := of_X 0x28 rfl rfl
theorem sincos (s : StrandId) (x : FmtX) : Statement (.sincos s x) := of_X 0x29 rfl rfl
theorem polar (s : StrandId) (x : FmtX) : Statement (.polar s x) := of_X 0x29 rfl rfl
theorem rotv (s : StrandId) (x : FmtX) : Statement (.rotv s x) := of_X 0x29 rfl rfl
theorem amswap (s : StrandId) (x : FmtX) : Statement (.amswap s x) := of_X 0x2A rfl rfl
theorem amadd (s : StrandId) (x : FmtX) : Statement (.amadd s x) := of_X 0x2A rfl rfl
theorem amand (s : StrandId) (x : FmtX) : Statement (.amand s x) := of_X 0x2A rfl rfl
theorem amor (s : StrandId) (x : FmtX) : Statement (.amor s x) := of_X 0x2A rfl rfl
theorem amxor (s : StrandId) (x : FmtX) : Statement (.amxor s x) := of_X 0x2A rfl rfl
theorem amcas (s : StrandId) (x : FmtX) : Statement (.amcas s x) := of_X 0x2A rfl rfl
theorem persist (s : StrandId) (x : FmtX) : Statement (.persist s x) := of_X 0x2B rfl rfl
theorem rld (s : StrandId) (x : FmtX) : Statement (.rld s x) := of_X 0x2C rfl rfl
theorem rst (s : StrandId) (x : FmtX) : Statement (.rst s x) := of_X 0x2C rfl rfl
theorem nsend (s : StrandId) (x : FmtX) : Statement (.nsend s x) := of_X 0x2D rfl rfl
theorem sig (s : StrandId) (x : FmtX) : Statement (.sig s x) := of_X 0x2E rfl rfl
theorem wait (s : StrandId) (x : FmtX) : Statement (.wait s x) := of_X 0x2E rfl rfl
theorem wmon (s : StrandId) (x : FmtX) : Statement (.wmon s x) := of_X 0x2E rfl rfl
theorem wmoff (s : StrandId) (x : FmtX) : Statement (.wmoff s x) := of_X 0x2E rfl rfl
theorem sync (s : StrandId) (x : FmtX) : Statement (.sync s x) := of_X 0x2E rfl rfl
theorem spawn (s : StrandId) (x : FmtX) : Statement (.spawn s x) := of_X 0x2F rfl rfl
theorem endStrand (s : StrandId) (x : FmtX) : Statement (.endStrand s x) := of_X 0x2F rfl rfl
theorem park (s : StrandId) (x : FmtX) : Statement (.park s x) := of_X 0x2F rfl rfl
theorem resume (s : StrandId) (x : FmtX) : Statement (.resume s x) := of_X 0x2F rfl rfl
theorem free (s : StrandId) (x : FmtX) : Statement (.free s x) := of_X 0x2F rfl rfl
theorem setcls (s : StrandId) (x : FmtX) : Statement (.setcls s x) := of_X 0x2F rfl rfl
theorem self (s : StrandId) (x : FmtX) : Statement (.self s x) := of_X 0x2F rfl rfl
theorem rdt (s : StrandId) (x : FmtX) : Statement (.rdt s x) := of_X 0x2F rfl rfl
theorem takeCourse (s : StrandId) (x : FmtX) : Statement (.takeCourse s x) := of_X 0x30 rfl rfl
theorem giveCourse (s : StrandId) (x : FmtX) : Statement (.giveCourse s x) := of_X 0x30 rfl rfl
theorem queryState (s : StrandId) (x : FmtX) : Statement (.queryState s x) := of_X 0x30 rfl rfl
theorem tuneMotor (s : StrandId) (x : FmtX) : Statement (.tuneMotor s x) := of_X 0x30 rfl rfl
theorem moveTo (s : StrandId) (x : FmtX) : Statement (.moveTo s x) := of_X 0x30 rfl rfl
theorem moveVel (s : StrandId) (x : FmtX) : Statement (.moveVel s x) := of_X 0x30 rfl rfl
theorem stopMotion (s : StrandId) (x : FmtX) : Statement (.stopMotion s x) := of_X 0x30 rfl rfl
theorem holdCapo (s : StrandId) (x : FmtX) : Statement (.holdCapo s x) := of_X 0x30 rfl rfl
theorem releaseHold (s : StrandId) (x : FmtX) : Statement (.releaseHold s x) := of_X 0x30 rfl rfl
theorem profclr (s : StrandId) (x : FmtX) : Statement (.profclr s x) := of_X 0x30 rfl rfl
theorem limitCurrent (s : StrandId) (x : FmtX) : Statement (.limitCurrent s x) := of_X 0x30 rfl rfl
theorem clearFault (s : StrandId) (x : FmtX) (present : BitVec 13) : Statement (.clearFault s x present) := of_X 0x30 rfl rfl
theorem parget (s : StrandId) (x : FmtX) : Statement (.parget s x) := of_X 0x30 rfl rfl
theorem parset (s : StrandId) (x : FmtX) : Statement (.parset s x) := of_X 0x30 rfl rfl
theorem mrecget (s : StrandId) (x : FmtX) : Statement (.mrecget s x) := of_X 0x30 rfl rfl
theorem polreload (s : StrandId) (x : FmtX) : Statement (.polreload s x) := of_X 0x30 rfl rfl
theorem longOpComplete (s : StrandId) (k : Fin 2) : Statement (.longOpComplete s k) := of_event rfl
theorem peripheralService : Statement (.peripheralService) := of_event rfl
theorem remoteAccessReply (s : StrandId) (k : Fin 2) (r : RemoteReply) : Statement (.remoteAccessReply s k r) := of_event rfl
theorem remoteAccessTimeout (s : StrandId) (k : Fin 2) : Statement (.remoteAccessTimeout s k) := of_event rfl
theorem periodBoundary (c : Course) : Statement (.periodBoundary c) := of_event rfl
theorem counterPerMatch (c : Course) : Statement (.counterPerMatch c) := of_event rfl
theorem compareEdge (c : Course) (k : Fin 3) : Statement (.compareEdge c k) := of_event rfl
theorem auxMatch (c : Course) : Statement (.auxMatch c) := of_event rfl
theorem deadTimeRise (h : HB) (high : Bool) (held : Bool) : Statement (.deadTimeRise h high held) := of_event rfl
theorem courseStart (m : Master) (c : Course) : Statement (.courseStart m c) := of_event rfl
theorem courseStop (m : Master) (c : Course) : Statement (.courseStop m c) := of_event rfl
theorem timedStart (m : Master) (v : Word) : Statement (.timedStart m v) := of_event rfl
theorem timedStartReached : Statement (.timedStartReached) := of_event rfl
theorem maskSet (m : Master) (c : Course) (idx : BitVec 3) : Statement (.maskSet m c idx) := of_event rfl
theorem maskAdvance (m : Master) (c : Course) : Statement (.maskAdvance m c) := of_event rfl
theorem maskRetreat (m : Master) (c : Course) : Statement (.maskRetreat m c) := of_event rfl
theorem commutationTakeEffect (c : Course) : Statement (.commutationTakeEffect c) := of_event rfl
theorem bemfCrossing (c : Course) (k : Fin 3) (rising : Bool) : Statement (.bemfCrossing c k rising) := of_event rfl
theorem bemfDelayExpiry (c : Course) : Statement (.bemfDelayExpiry c) := of_event rfl
theorem singleShuntSample (c : Course) (second : Bool) : Statement (.singleShuntSample c second) := of_event rfl
theorem gateSupplyReady (d : Dom) : Statement (.gateSupplyReady d) := of_event rfl
theorem gateSupplyLockout (d : Dom) (vgl : Bool) : Statement (.gateSupplyLockout d vgl) := of_event rfl
theorem gateSupplyRecovery (d : Dom) (vgl : Bool) : Statement (.gateSupplyRecovery d vgl) := of_event rfl
theorem uvclr (m : Master) (d : Dom) : Statement (.uvclr m d) := of_event rfl
theorem interlockRise (h : HB) (high : Bool) : Statement (.interlockRise h high) := of_event rfl
theorem externalPinLevel (h : HB) (enable : Bool) (level : Bool) : Statement (.externalPinLevel h enable level) := of_event rfl
theorem serialGateCommand (m : Master) (c : Course) (v : Word) : Statement (.serialGateCommand m c v) := of_event rfl
theorem serialGateTimeout (c : Course) : Statement (.serialGateTimeout c) := of_event rfl
theorem sourceGuardEnd (h : HB) : Statement (.sourceGuardEnd h) := of_event rfl
theorem gateFault (h : HB) (high : Bool) (kind : BitVec 2) : Statement (.gateFault h high kind) := of_event rfl
theorem vdsTrip (h : HB) (high : Bool) : Statement (.vdsTrip h high) := of_event rfl
theorem ocTrip (c : Course) : Statement (.ocTrip c) := of_event rfl
theorem ovTrip : Statement (.ovTrip) := of_event rfl
theorem uvTrip : Statement (.uvTrip) := of_event rfl
theorem thermTrip (k : Dom) : Statement (.thermTrip k) := of_event rfl
theorem tsdTrip (k : Dom) : Statement (.tsdTrip k) := of_event rfl
theorem ntcStale (k : Fin 4) : Statement (.ntcStale k) := of_event rfl
theorem blankingWindowEnd (c : Course) : Statement (.blankingWindowEnd c) := of_event rfl
theorem protectionClear (m : Master) (c : Course) (present : BitVec 13) : Statement (.protectionClear m c present) := of_event rfl
theorem slotAssignment : Statement (.slotAssignment) := of_event rfl
theorem conversionResult (raw : BitVec 12) : Statement (.conversionResult raw) := of_event rfl
theorem spareRotation (ofs : BitVec 10) (gain : BitVec 16) (skew : BitVec 7) : Statement (.spareRotation ofs gain skew) := of_event rfl
theorem scanGo (m : Master) : Statement (.scanGo m) := of_event rfl
theorem qpop (m : Master) : Statement (.qpop m) := of_event rfl
theorem qdclr (m : Master) : Statement (.qdclr m) := of_event rfl
theorem icWindowClose (unit : Fin 3) (cnt : BitVec 20) (n : BitVec 19) (short : Bool) : Statement (.icWindowClose unit cnt n short) := of_event rfl
theorem icOverRange (qb : Bool) : Statement (.icOverRange qb) := of_event rfl
theorem counterLoad (m : Master) (qb : Bool) (v : Word) : Statement (.counterLoad m qb v) := of_event rfl
theorem ic1PassGo (m : Master) : Statement (.ic1PassGo m) := of_event rfl
theorem engineTakeEntry (n : Engine) : Statement (.engineTakeEntry n) := of_event rfl
theorem engineOutput (n : Engine) : Statement (.engineOutput n) := of_event rfl
theorem engineOutputWrite (n : Engine) : Statement (.engineOutputWrite n) := of_event rfl
theorem bankLoad (m : Master) (n : Engine) : Statement (.bankLoad m n) := of_event rfl
theorem bankCopyEnd (n : Engine) : Statement (.bankCopyEnd n) := of_event rfl
theorem bankSwap (m : Master) (n : Engine) : Statement (.bankSwap m n) := of_event rfl
theorem hallRegistration (c : Course) (levels : BitVec 3) : Statement (.hallRegistration c levels) := of_event rfl
theorem posSet (m : Master) (c : Course) (v : Word) : Statement (.posSet m c v) := of_event rfl
theorem posAdd (m : Master) (c : Course) (v : Word) : Statement (.posAdd m c v) := of_event rfl
theorem captureEdge (n : Fin 16) (partner : Bool) (rising : Bool) (tap : BitVec 5) : Statement (.captureEdge n partner rising tap) := of_event rfl
theorem capturePop (m : Master) (n : Fin 16) : Statement (.capturePop m n) := of_event rfl
theorem ntimeRead (m : Master) : Statement (.ntimeRead m) := of_event rfl
theorem aqTakeSample (n : Engine) : Statement (.aqTakeSample n) := of_event rfl
theorem aqCaptureDone (n : Engine) : Statement (.aqCaptureDone n) := of_event rfl
theorem aqArm (m : Master) (n : Engine) : Statement (.aqArm m n) := of_event rfl
theorem aqStop (m : Master) (n : Engine) : Statement (.aqStop m n) := of_event rfl
theorem aqForce (m : Master) (n : Engine) : Statement (.aqForce m n) := of_event rfl
theorem globalArmGo (m : Master) : Statement (.globalArmGo m) := of_event rfl
theorem globalArmReceived (t : Word) : Statement (.globalArmReceived t) := of_event rfl
theorem globalArmTime : Statement (.globalArmTime) := of_event rfl
theorem firePulseEnd : Statement (.firePulseEnd) := of_event rfl
theorem fireMessage (p : Chip) (dt : Word) : Statement (.fireMessage p dt) := of_event rfl
theorem fireEdge : Statement (.fireEdge) := of_event rfl
theorem arrangementChange (c : Course) : Statement (.arrangementChange c) := of_event rfl
theorem tuningStepEnd (c : Course) (ok : Bool) (v v2 : Word) : Statement (.tuningStepEnd c ok v v2) := of_event rfl
theorem motionEnd (c : Course) (cause : BitVec 4) : Statement (.motionEnd c cause) := of_event rfl
theorem pinchJudgment (c : Course) (ma ia : Word) : Statement (.pinchJudgment c ma ia) := of_event rfl
theorem stallDecision (c : Course) : Statement (.stallDecision c) := of_event rfl
theorem stallRetry (c : Course) : Statement (.stallRetry c) := of_event rfl
theorem deratingUpdate (c : Course) : Statement (.deratingUpdate c) := of_event rfl
theorem senseWireCheckGo (m : Master) : Statement (.senseWireCheckGo m) := of_event rfl
theorem senseWireSettleEnd : Statement (.senseWireSettleEnd) := of_event rfl
theorem shutdownParkEnd : Statement (.shutdownParkEnd) := of_event rfl
theorem shutdownParkLimit : Statement (.shutdownParkLimit) := of_event rfl
theorem reserveTimeExpiry : Statement (.reserveTimeExpiry) := of_event rfl
theorem stackBelowVend : Statement (.stackBelowVend) := of_event rfl
theorem reserveConnect (m : Master) : Statement (.reserveConnect m) := of_event rfl
theorem connectRelease : Statement (.connectRelease) := of_event rfl
theorem hostSelect : Statement (.hostSelect) := of_event rfl
theorem hostNop (tok : BitVec 4) (bs : List (BitVec 8)) : Statement (.hostNop tok bs) := of_event rfl
theorem hostRd (tok : BitVec 4) (bs : List (BitVec 8)) : Statement (.hostRd tok bs) := of_event rfl
theorem hostWr (tok : BitVec 4) (bs : List (BitVec 8)) : Statement (.hostWr tok bs) := of_event rfl
theorem hostWrt (tok : BitVec 4) (bs : List (BitVec 8)) : Statement (.hostWrt tok bs) := of_event rfl
theorem hostRdm (tok : BitVec 4) (bs : List (BitVec 8)) : Statement (.hostRdm tok bs) := of_event rfl
theorem hostStw (tok : BitVec 4) (bs : List (BitVec 8)) (fin : Option (Fin 6)) : Statement (.hostStw tok bs fin) := of_event rfl
theorem hostStreamWord (v : Word) (fin : Option (Fin 6)) : Statement (.hostStreamWord v fin) := of_event rfl
theorem xipWordDelivered (w : FlashBytes) : Statement (.xipWordDelivered w) := of_event rfl
theorem xipMissTimeout (s : StrandId) : Statement (.xipMissTimeout s) := of_event rfl
theorem xspInv (m : Master) : Statement (.xspInv m) := of_event rfl
theorem softwareFrameGo (m : Master) : Statement (.softwareFrameGo m) := of_event rfl
theorem softwareFrameEnd (data : List (BitVec 8)) : Statement (.softwareFrameEnd data) := of_event rfl
theorem lockRequest (m : Master) : Statement (.lockRequest m) := of_event rfl
theorem lockGrant : Statement (.lockGrant) := of_event rfl
theorem lockRelease (m : Master) : Statement (.lockRelease m) := of_event rfl
theorem canFrameValid (f : CanFrame) : Statement (.canFrameValid f) := of_event rfl
theorem canProtocolException : Statement (.canProtocolException) := of_event rfl
theorem canTxEnd (k : Fin 8) (ok : Bool) : Statement (.canTxEnd k ok) := of_event rfl
theorem canTxAbort (m : Master) (mask : BitVec 8) : Statement (.canTxAbort m mask) := of_event rfl
theorem canBusError (lec : BitVec 3) (tx : Bool) : Statement (.canBusError lec tx) := of_event rfl
theorem canRecover (m : Master) : Statement (.canRecover m) := of_event rfl
theorem busOffRecoveryEnd : Statement (.busOffRecoveryEnd) := of_event rfl
theorem canWakeupPattern : Statement (.canWakeupPattern) := of_event rfl
theorem canSelectiveWakeFrame (f : Option CanFrame) : Statement (.canSelectiveWakeFrame f) := of_event rfl
theorem canWakeTransmit (m : Master) : Statement (.canWakeTransmit m) := of_event rfl
theorem linFrameReceived (f : LinFrame) : Statement (.linFrameReceived f) := of_event rfl
theorem linBusWake : Statement (.linBusWake) := of_event rfl
theorem linWake (m : Master) : Statement (.linWake m) := of_event rfl
theorem rcpRequest (q : RcpRequest) : Statement (.rcpRequest q) := of_event rfl
theorem timeBeaconSync (bn : BitVec 8) : Statement (.timeBeaconSync bn) := of_event rfl
theorem timeBeaconFollow (bn : BitVec 8) (tm : BitVec 64) : Statement (.timeBeaconFollow bn tm) := of_event rfl
theorem beaconSend : Statement (.beaconSend) := of_event rfl
theorem creditReturn (src : BitVec 4) (n1 n2 n3 : BitVec 8) : Statement (.creditReturn src n1 n2 n3) := of_event rfl
theorem creditResync (src : BitVec 4) (n : BitVec 16) : Statement (.creditResync src n) := of_event rfl
theorem creditGrant (dst : BitVec 4) : Statement (.creditGrant dst) := of_event rfl
theorem ledgStep (m : Master) (v : Word) : Statement (.ledgStep m v) := of_event rfl
theorem ledgEnd (m : Master) (v : Word) : Statement (.ledgEnd m v) := of_event rfl
theorem queryRest (m : Master) (tgt : Bool) : Statement (.queryRest m tgt) := of_event rfl
theorem abortRest (m : Master) : Statement (.abortRest m) := of_event rfl
theorem restQuery (src : BitVec 4) (vn : BitVec 8) (tgt : Bool) : Statement (.restQuery src vn tgt) := of_event rfl
theorem readyMsg (src : BitVec 4) (vn : BitVec 8) : Statement (.readyMsg src vn) := of_event rfl
theorem busyMsg (src : BitVec 4) (vn : BitVec 8) : Statement (.busyMsg src vn) := of_event rfl
theorem restCommit (src : BitVec 4) (vn : BitVec 8) (tgt : Bool) (ci : BitVec 16) (sof : Word) : Statement (.restCommit src vn tgt ci sof) := of_event rfl
theorem restCancel (src : BitVec 4) (vn : BitVec 8) : Statement (.restCancel src vn) := of_event rfl
theorem wakeAbort (src : BitVec 4) (vn : BitVec 8) (cause : BitVec 4) : Statement (.wakeAbort src vn cause) := of_event rfl
theorem wakeFrame (src : BitVec 4) (code : BitVec 8) : Statement (.wakeFrame src code) := of_event rfl
theorem voteTimeout : Statement (.voteTimeout) := of_event rfl
theorem answerTimeout : Statement (.answerTimeout) := of_event rfl
theorem commitIntervalEnd : Statement (.commitIntervalEnd) := of_event rfl
theorem holdEnd : Statement (.holdEnd) := of_event rfl
theorem lateWakeRepeat : Statement (.lateWakeRepeat) := of_event rfl
theorem journalWindowEnd (late : Bool) : Statement (.journalWindowEnd late) := of_event rfl
theorem journalFrame (f : TwinFrame) : Statement (.journalFrame f) := of_event rfl
theorem twinNak (n : BitVec 16) : Statement (.twinNak n) := of_event rfl
theorem statusFrame (aseq : BitVec 16) (div : Bool) : Statement (.statusFrame aseq div) := of_event rfl
theorem frameMissing : Statement (.frameMissing) := of_event rfl
theorem statusLoss : Statement (.statusLoss) := of_event rfl
theorem twinCheckpoint (b : Word) : Statement (.twinCheckpoint b) := of_event rfl
theorem twfailRise : Statement (.twfailRise) := of_event rfl
theorem twinHandover (m : Master) : Statement (.twinHandover m) := of_event rfl
theorem handoverRelease : Statement (.handoverRelease) := of_event rfl
theorem twinClaim : Statement (.twinClaim) := of_event rfl
theorem pairStart (x : PairData) : Statement (.pairStart x) := of_event rfl
theorem pairStartTimeout : Statement (.pairStartTimeout) := of_event rfl
theorem resumeTimeout : Statement (.resumeTimeout) := of_event rfl
theorem cascadeStart (pres : BitVec 4) (aligned : BitVec 4) : Statement (.cascadeStart pres aligned) := of_event rfl
theorem chainTimeout : Statement (.chainTimeout) := of_event rfl
theorem remoteAccessServe (p : RemoteReq) (a : BitVec 24) (w : Option Word) : Statement (.remoteAccessServe p a w) := of_event rfl
theorem linkFrameCrcError (portB : Bool) : Statement (.linkFrameCrcError portB) := of_event rfl
theorem portDown (portB : Bool) : Statement (.portDown portB) := of_event rfl
theorem lossReport (p : Chip) : Statement (.lossReport p) := of_event rfl
theorem cascadeRealign (m : Master) : Statement (.cascadeRealign m) := of_event rfl
theorem rsvcgo (m : Master) (v : Word) : Statement (.rsvcgo m v) := of_event rfl
theorem remoteCallComplete : Statement (.remoteCallComplete) := of_event rfl
theorem tapReset : Statement (.tapReset) := of_event rfl
theorem tapExtest : Statement (.tapExtest) := of_event rfl
theorem tapSamplePreload (pins : BitVec 450) : Statement (.tapSamplePreload pins) := of_event rfl
theorem tapIdcode : Statement (.tapIdcode) := of_event rfl
theorem tapClamp : Statement (.tapClamp) := of_event rfl
theorem tapHighz : Statement (.tapHighz) := of_event rfl
theorem tapBypass : Statement (.tapBypass) := of_event rfl
theorem tapUnlock (code : BitVec 64) : Statement (.tapUnlock code) := of_event rfl
theorem debugPoll : Statement (.debugPoll) := of_event rfl
theorem debugRead (a : BitVec 24) : Statement (.debugRead a) := of_event rfl
theorem debugWrite (a : BitVec 24) (v : Word) : Statement (.debugWrite a v) := of_event rfl
theorem mhalt (m : Master) : Statement (.mhalt m) := of_event rfl
theorem dbgResume (m : Master) : Statement (.dbgResume m) := of_event rfl
theorem stepStrand (m : Master) (s : StrandId) : Statement (.stepStrand m s) := of_event rfl
theorem strandHalt (m : Master) (hi : Bool) (v : Word) : Statement (.strandHalt m hi v) := of_event rfl
theorem dbgRdataWrite (m : Master) (v : Word) : Statement (.dbgRdataWrite m v) := of_event rfl
theorem tracePop (m : Master) : Statement (.tracePop m) := of_event rfl
theorem regulatorsValid (s1 s2 s3 : BitVec 8) : Statement (.regulatorsValid s1 s2 s3) := of_event rfl
theorem pllLockRegained : Statement (.pllLockRegained) := of_event rfl
theorem connectDelayExpiry : Statement (.connectDelayExpiry) := of_event rfl
theorem canTransmissionStart (k : Fin 8) : Statement (.canTransmissionStart k) := of_event rfl
theorem linHeaderReceived (id : BitVec 6) : Statement (.linHeaderReceived id) := of_event rfl
theorem portTrained (portB : Bool) : Statement (.portTrained portB) := of_event rfl
theorem cascadeNak (portB : Bool) : Statement (.cascadeNak portB) := of_event rfl
theorem aqRecordWrite (n : Engine) : Statement (.aqRecordWrite n) := of_event rfl
theorem gpioInputChange (n : Fin 48) (level : Bool) : Statement (.gpioInputChange n level) := of_event rfl
theorem cbcConditionAbsent (c : Course) : Statement (.cbcConditionAbsent c) := of_event rfl
theorem illegalInstruction (s : StrandId) (w : Word) : Statement (.illegalInstruction s w) := of_event rfl
theorem fetchFault (s : StrandId) (cause : BitVec 3) : Statement (.fetchFault s cause) := of_event rfl

end Sys2Proof.Laws.Operands
end

