-- ==== Sys2Proof/Tests/Slice0.lean ====
section
/-!
SUPPORT. Tests/Slice0.lean: words written out from the spec's encodings, ill-formed commands, single steps on small states, and for every
statement with hypotheses a state and operands that meet them.
-/
set_option Elab.async false

namespace Sys2Proof.Tests

open Sys2Proof Sys2Proof.Machine

/-! ## Small states -/

/-- A chip of no pair and no cascade in RUN with its user program running: strand 0 stands at the first word of RAM. -/
def live : State :=
  { time := { beatOn := true, refValid := true, pllLocked := true }
    pwr := { mode := .run, boot := .user, kind := 0, rstDrive := false }
    core := { issueOn := true, strands := (Vector.replicate 64 {}).set 0 { state := .runnable, pc := 0x100000 } } }

/-- The state with strand i changed. -/
def onStrand (s : State) (i : StrandId) (f : Strand → Strand) : State := s.setStrand i (f (s.strand i))

/-- Some operation in flight for strand i. -/
def flying (i : StrandId) (body : OpBody) (stage : OpStage) : Op := { id := 0, str := i, pc := 0x100000, issue := 0, body := body, stage := stage }

/-- The state with the operations of a list in flight. -/
def withOps (s : State) (l : List Op) : State := { s with core := { s.core with ops := l } }

def fa (rd ra rb : BitVec 5) : FmtA := { rd := rd, ra := ra, rb := rb, f := true, s := false, u := false, ac := false, am := 0, imm := 0 }
def fi (rd ra : BitVec 5) (n : BitVec 29) : FmtI := { rd := rd, ra := ra, f := false, s := false, u := false, imm := n }
def fm (rt ra : BitVec 5) (d : BitVec 24) : FmtM := { rt := rt, ra := ra, mode := 0, ri := 0, disp := d }
def fx (rd ra rb : BitVec 5) (n : BitVec 16) : FmtX := { rd := rd, ra := ra, rb := rb, rsv := 0, imm := n }

/-- A next state that has a property. -/
def ends (o : Host.Outcome State Fault Refusal) (p : State → Bool) : Bool := match o with | .next t => p t | _ => false

/-! ## Witnesses: what a strand issues -/

theorem live_ready (l : List (BitVec 5)) : live.ready 0 l := by
  refine ⟨by decide +kernel, ?_, Or.inr ⟨by decide +kernel, by decide +kernel⟩, by decide +kernel, by decide +kernel⟩
  rw [List.any_eq_false]
  intro r _
  have : ∀ q : BitVec 5, live.pendingReg 0 q = false := by decide +kernel
  simp [this r]

theorem live_readyLong (l : List (BitVec 5)) : live.readyLong 0 l := ⟨live_ready l, by decide +kernel, by decide +kernel⟩

theorem witness_StepRunsFront : ∃ (s : State) (c : Instr) (rest : List Instr), s.pending = c :: rest :=
  ⟨{ live with pending := [.referenceLost] }, .referenceLost, [], rfl⟩

/-- addi w3, w0, 5 at the first word of RAM. -/
def addiWord : Word := 0x206000000005

def atWord : State := live.ramSet 0x100000 addiWord

theorem witness_IdleStepIsABeat_stopped : ∃ s t : State, (s.pending = [] ∧ s.time.beatOn = false ∧ s.pwr.mode = .off)
    ∧ t.pending = [] ∧ t.time.beatOn = false ∧ t.pwr.mode = .standby ∧ t.pwr.wake = none ∧ t.pwr.wtimer = false ∧ t.get R.PWR_LPCTL_DEEPEN = 0
    ∧ t.now.deepen = false :=
  ⟨{ State.reset with pwr := { mode := .off } }, { State.reset with pwr := { mode := .standby } }, by decide +kernel, by decide +kernel⟩

set_option maxRecDepth 4000 in
theorem witness_IdleStepIsABeat_beat : ∃ (s : State) (i : StrandId) (c : Instr) (t : State), s.pending = [] ∧ s.time.beatOn = true
    ∧ s.time.handoff = false ∧ (let f := s.flush.fetchMisses
      let u := f.when ((f.fretWinner f.operandsReady).any f.barred207) (·.bump R.SCH_CNT_LIMSTALL)
      f.fretWinner (fun j => f.operandsReady j && !f.barred207 j) = some i ∧ u.fetchFault i = none ∧ region (u.strand i).pc.toNat = .ram
      ∧ spGet (fun _ => 0) u.mem.ramErr (u.strand i).pc.toNat = 0
      ∧ decodeIbben i (u.freeWord.setWidth 13) (u.ramAt (u.strand i).pc.toNat) = some c ∧ exec c u = .next t) :=
  ⟨atWord, 0, .addi 0 (fi 3 0 5), _, rfl, rfl, rfl, by decide +kernel, by decide +kernel, by decide +kernel, by decide +kernel,
    by decide +kernel, rfl⟩

set_option maxRecDepth 4000 in
theorem witness_IdleStepIsABeat_idle : ∃ s : State, s.pending = [] ∧ s.time.beatOn = true ∧ s.time.handoff = false
    ∧ s.flush.fetchMisses.fretWinner (fun j => s.flush.fetchMisses.operandsReady j && !s.flush.fetchMisses.barred207 j) = none :=
  ⟨{ live with core := {} }, rfl, rfl, rfl, by decide +kernel⟩

theorem witness_StepKeepsMemoryForm : ∃ s t : State, Memory.wf s = true ∧ step s = .next t :=
  ⟨{ live with pending := [.addi 0 (fi 3 0 5)] }, _, by decide +kernel, rfl⟩

theorem witness_IbbenRoundTrip : ∃ (c : Instr) (i : StrandId) (w : Word) (p : BitVec 13), c.wellFormed = true ∧ encodeIbben c = some (i, w)
    ∧ ∀ j x q, c = .clearFault j x q → q = p :=
  ⟨.clearFault 63 (fx 31 31 31 0x18) 0x1FFF, 63, _, 0x1FFF, by decide, rfl, fun _ _ _ h => by injection h with _ _ h3; exact h3.symm⟩

theorem witness_LogicResults : ∃ (s : State) (i : StrandId) (x : FmtA) (y : FmtI), (s.ready i [x.rd, x.ra, x.rb] ∧ x.s = false ∧ x.u = false
    ∧ x.ac = false ∧ x.am = 0 ∧ x.imm = 0) ∧ s.ready i [y.rd, y.ra] ∧ y.s = false :=
  ⟨live, 0, fa 31 1 2, fi 0 31 0x1FFFFFFF, ⟨live_ready _, by decide⟩, live_ready _, rfl⟩

theorem witness_ArithResults : ∃ (s : State) (i : StrandId) (x z : FmtA) (y : FmtI), (s.ready i [x.rd, x.ra, x.rb] ∧ x.ac = false ∧ x.am = 0
    ∧ x.imm = 0) ∧ (s.ready i [x.rd, x.ra, x.rb] ∧ x.rb = 0 ∧ x.u = false) ∧ (s.ready i [z.rd, z.ra, z.rb] ∧ z.rd = 0 ∧ z.f = false ∧ z.s = false
    ∧ z.u = false) ∧ s.ready i [y.rd, y.ra] :=
  ⟨live, 0, fa 31 1 0, { fa 0 1 2 with f := false }, fi 0 31 0x1FFFFFFF, ⟨live_ready _, by decide⟩, ⟨live_ready _, by decide⟩,
    ⟨live_ready _, by decide⟩, live_ready _⟩

theorem witness_AbsMinMax : ∃ (s : State) (i : StrandId) (x y : FmtA), (s.ready i [x.rd, x.ra, x.rb] ∧ x.ac = false ∧ x.am = 0 ∧ x.imm = 0
    ∧ x.rb = 0 ∧ x.u = false ∧ ((s.strand i).rd x.ra).toInt = -2 ^ 47) ∧ s.ready i [y.rd, y.ra, y.rb] ∧ y.ac = false ∧ y.am = 0 ∧ y.imm = 0
    ∧ y.s = false ∧ ((s.strand i).rd y.ra).toInt ≠ -2 ^ 47 :=
  ⟨onStrand live 0 (fun y => y.wr 1 0x800000000000), 0, fa 2 1 0, fa 2 3 4, ⟨⟨by decide +kernel, by decide +kernel,
    Or.inr ⟨by decide +kernel, by decide +kernel⟩, by decide +kernel, by decide +kernel⟩, by decide +kernel⟩,
    ⟨by decide +kernel, by decide +kernel, Or.inr ⟨by decide +kernel, by decide +kernel⟩, by decide +kernel, by decide +kernel⟩,
    by decide +kernel⟩

theorem witness_ShiftResults : ∃ (s : State) (i : StrandId) (x z : FmtA), (s.ready i [x.rd, x.ra, x.rb] ∧ x.ac = false ∧ x.am = 0 ∧ x.imm = 0
    ∧ x.s = false ∧ x.u = false) ∧ s.ready i [z.rd, z.ra, z.rb] ∧ z.ac = false ∧ z.am = 0 ∧ z.imm = 0 ∧ z.s = true :=
  ⟨live, 0, fa 31 1 2, { fa 31 1 2 with s := true }, ⟨live_ready _, by decide⟩, live_ready _, by decide⟩

theorem witness_ShiftResults_immediate : ∀ n ∈ [0, 63, 64, 127, 128, 191, 192, 255, 256, 319], ∃ (s : State) (i : StrandId) (x : FmtI)
    (y : FmtA), s.ready i [x.rd, x.ra] ∧ s.ready i [y.rd, y.ra, y.rb] ∧ x.imm.toNat = n ∧ x.imm.toNat < 320 ∧ y.rd = x.rd ∧ y.ra = x.ra
    ∧ y.f = x.f ∧ y.s = x.s ∧ y.u = x.u ∧ y.ac = false ∧ y.am = 0 ∧ y.imm = 0 ∧ ((s.strand i).rd y.rb).toNat % 64 = x.imm.toNat % 64
    ∧ (64 ≤ x.imm.toNat → x.s = false ∧ x.u = false) := by
  intro n hn
  refine ⟨onStrand live 0 (fun y => y.wr 2 (BitVec.ofNat 48 n)), 0, fi 3 1 (BitVec.ofNat 29 n), { fa 3 1 2 with f := false }, ?_⟩
  simp only [List.mem_cons, List.not_mem_nil, or_false] at hn
  unfold State.ready
  rcases hn with rfl | rfl | rfl | rfl | rfl | rfl | rfl | rfl | rfl | rfl <;> decide +kernel

theorem witness_BitFieldResults : ∃ (s : State) (i : StrandId) (x y z : FmtA), (s.ready i [x.rd, x.ra] ∧ x.rb = 0 ∧ x.s = false ∧ x.u = false
    ∧ x.ac = false ∧ x.am = 0 ∧ x.imm.toNat + (48 : BitVec 6).toNat ≤ 48) ∧ (s.ready i [y.rd, y.ra] ∧ y.rb = 0 ∧ y.s = false ∧ y.u = false
    ∧ y.ac = false ∧ y.am = 0 ∧ 1 ≤ (1 : BitVec 6).toNat ∧ y.imm.toNat + (1 : BitVec 6).toNat = 48) ∧ s.ready i [z.rd, z.ra] ∧ z.rb = 0
    ∧ z.s = false ∧ z.u = false ∧ z.ac = false ∧ z.am = 0 ∧ z.imm = 0 :=
  ⟨live, 0, fa 2 1 0, { fa 2 1 0 with imm := 47 }, fa 31 30 0, ⟨live_ready _, by decide⟩, ⟨live_ready _, by decide⟩, live_ready _, by decide⟩

theorem witness_MultiplyAndAccumulate_multiply : ∃ (s : State) (i : StrandId) (x y z : FmtA),
    (s.ready i [x.rd, x.ra, x.rb] ∧ x.ac = false ∧ x.imm = 0 ∧ x.am = 0 ∧ x.s = false)
    ∧ (s.ready i [y.rd, y.ra, y.rb] ∧ y.ac = false ∧ y.imm = 0 ∧ y.am = 1 ∧ y.u = false)
    ∧ s.ready i [z.rd, z.ra, z.rb] ∧ z.ac = false ∧ z.imm = 0 ∧ z.am = 2 ∧ z.u = false :=
  ⟨live, 0, fa 31 1 2, { fa 31 1 2 with am := 1 }, { fa 31 1 2 with am := 2 }, ⟨live_ready _, by decide⟩, ⟨live_ready _, by decide⟩,
    live_ready _, by decide⟩

theorem witness_MultiplyAndAccumulate_accumulate : ∃ (s : State) (i : StrandId) (x y z : FmtA),
    (s.ready i [x.rd, x.ra, x.rb] ∧ x.s = false ∧ x.imm = 0 ∧ x.am ≠ 3 ∧ (x.u = true → x.am = 0) ∧ x.rd = 0 ∧ x.f = false)
    ∧ (s.ready i [y.rd, y.ra, y.rb] ∧ y.s = false ∧ y.imm = 0 ∧ y.am = 2 ∧ y.u = false ∧ y.ra = 0 ∧ y.rb = 0)
    ∧ s.ready i [z.rd, z.ra, z.rb] ∧ z.s = false ∧ z.imm = 0 ∧ z.rd = 0 ∧ z.f = false ∧ z.ra = 0 ∧ z.rb = 0 ∧ z.u = false ∧ z.am = 0 :=
  ⟨live, 0, { fa 0 1 2 with f := false, ac := true, u := true }, { fa 31 0 0 with am := 2 }, { fa 0 0 0 with f := false, ac := true },
    ⟨live_ready _, by decide⟩, ⟨live_ready _, by decide⟩, live_ready _, by decide⟩

theorem witness_ConversionResults : ∃ (s : State) (i : StrandId) (x : FmtA), s.ready i [x.rd, x.ra] ∧ x.rb = 0 ∧ x.s = false ∧ x.u = false
    ∧ x.ac = false ∧ x.am = 0 ∧ x.imm = 0 := ⟨live, 0, fa 31 1 0, live_ready _, by decide⟩

theorem witness_ConstantsAndBranches : ∃ (s : State) (i : StrandId) (k0 k1 k2 : FmtK) (m0 m1 m4 : FmtM) (b : FmtB) (x y : FmtA) (z : FmtX),
    (s.ready i [k0.rd] ∧ k0.rsv = 0 ∧ k0.p = 0) ∧ (s.ready i [k1.rd] ∧ k1.rsv = 0 ∧ k1.p = 1) ∧ (s.ready i [k2.rd] ∧ k2.rsv = 0 ∧ k2.p = 2)
    ∧ (s.ready i [m0.rt, m0.ra, m0.ri] ∧ m0.ri = 0 ∧ m0.mode = 0) ∧ (s.ready i [m1.rt, m1.ra, m1.ri] ∧ m1.mode = 1)
    ∧ (s.ready i [m4.rt, m4.ra, m4.ri] ∧ m4.ri = 0 ∧ m4.mode = 4) ∧ (s.ready i [b.rl] ∧ b.rsv = 0)
    ∧ (s.ready i [x.rd, x.ra, x.rb] ∧ x.f = false ∧ x.s = false ∧ x.u = false ∧ x.ac = false ∧ x.am = 0 ∧ x.imm.toNat = 15)
    ∧ (s.ready i [y.rd, y.ra, y.rb] ∧ y.f = false ∧ y.s = false ∧ y.u = false ∧ y.ac = false ∧ y.am = 0 ∧ y.imm.toNat = 0 ∧ y.ra = 0 ∧ y.rb = 0)
    ∧ s.ready i [z.rd] ∧ z.ra = 0 ∧ z.rb = 0 ∧ z.rsv = 0 ∧ z.imm = 0 :=
  ⟨live, 0, { rd := 31, rsv := 0, p := 0, imm := 0xFFFFFF }, { rd := 0, rsv := 0, p := 1, imm := 0xFFFFFF },
    { rd := 1, rsv := 0, p := 2, imm := 0 }, fm 1 2 0xFFFFFF, { fm 1 2 0 with mode := 1, ri := 31 }, { fm 1 0 0 with mode := 4 },
    { cond := 15, rl := 31, rsv := 0, off := 0x800000 }, { fa 31 1 2 with f := false, imm := 15 }, { fa 31 0 0 with f := false }, fx 31 0 0 0,
    ⟨live_ready _, by decide⟩, ⟨live_ready _, by decide⟩, ⟨live_ready _, by decide⟩, ⟨live_ready _, by decide⟩, ⟨live_ready _, by decide⟩,
    ⟨live_ready _, by decide⟩, ⟨live_ready _, by decide⟩, ⟨live_ready _, by decide⟩, ⟨live_ready _, by decide⟩, live_ready _, by decide⟩

theorem witness_StatusAndMasks : ∃ (s : State) (i : StrandId) (x y : FmtA) (w z : FmtX),
    (s.ready i [x.rd, x.ra] ∧ x.rb = 0 ∧ x.f = false ∧ x.s = false ∧ x.u = false ∧ x.ac = false ∧ x.am = 0 ∧ x.ra = 0 ∧ x.imm = 0 ∧ x.rd = 0)
    ∧ (s.ready i [y.rd, y.ra] ∧ y.rb = 0 ∧ y.f = false ∧ y.s = false ∧ y.u = false ∧ y.ac = false ∧ y.am = 0 ∧ y.rd = 0 ∧ y.imm = 0)
    ∧ (s.ready i [] ∧ w.rd = 0 ∧ w.ra = 0 ∧ w.rb = 0 ∧ w.rsv = 0 ∧ w.imm.toNat = 255)
    ∧ s.ready i [] ∧ z.rd = 0 ∧ z.ra = 0 ∧ z.rb = 0 ∧ z.rsv = 0 ∧ z.imm = 0 ∧ s.opsOf i = [] :=
  ⟨live, 0, { fa 0 0 0 with f := false }, { fa 0 31 0 with f := false }, fx 0 0 0 255, fx 0 0 0 0, ⟨live_ready _, by decide⟩,
    ⟨live_ready _, by decide⟩, ⟨live_ready _, by decide⟩, live_ready _, by decide +kernel⟩

/-- Strand i at the first word of RAM with w1 holding a. -/
def atBase (i : StrandId) (a : Word) : State := onStrand live i (fun y => { y.wr 1 a with state := .runnable, pc := 0x100000 })

theorem witness_LoadsAndStores : ∀ a ∈ [0x100000, 0x1FFFFF, 0x00000, 0x6FFFF, 0x70000, 0x7FEFF], ∃ (s : State) (i : StrandId) (x : FmtM),
    s.ready i [x.rt, x.ra, x.ri] ∧ x.bad = false ∧ (x.ea (s.strand i)).toNat = a ∧ s.bpMatch i 1 a = [] ∧ s.bpMatch i 2 a = []
    ∧ s.fenceBars a = false ∧ Memory.wf s = true ∧ spGet (fun _ => 0) s.mem.ramErr a = 0 ∧ s.mramBad a = 0
    ∧ (region a = .ram ∨ region a = .mramUser ∨ (region a = .mramSys ∧ sysLoadable a = true)) := by
  intro a ha
  refine ⟨atBase 0 (BitVec.ofNat 48 a), 0, fm 2 1 0, ?_⟩
  simp only [List.mem_cons, List.not_mem_nil, or_false] at ha
  unfold State.ready
  rcases ha with rfl | rfl | rfl | rfl | rfl | rfl <;> decide +kernel

theorem witness_LoadsAndStores_rom : ∃ (s : State) (i : StrandId) (x : FmtM), s.ready i [x.rt, x.ra, x.ri] ∧ x.bad = false
    ∧ s.bpMatch i 1 (x.ea (s.strand i)).toNat = [] ∧ region (x.ea (s.strand i)).toNat = .rom ∧ isSup i = true := by
  refine ⟨atBase 56 0x200000, 56, fm 2 1 0, ?_⟩
  unfold State.ready; decide +kernel

theorem witness_StrandFaults_access : ∀ a ∈ [0x80000, 0xFFFFF, 0xC00000, 0xFFFFFF, 0x6FFFF, 0x70000, 0x207FFF, 0x800000], ∃ (s : State)
    (i : StrandId) (x : FmtM), s.ready i [x.rt, x.ra, x.ri] ∧ x.bad = false ∧ (s.strand i).state = .runnable ∧ (x.ea (s.strand i)).toNat = a
    ∧ (region a = .reserved ∨ region a = .mramUser ∨ region a = .mramSys ∨ region a = .rom ∨ region a = .xip) := by
  intro a ha
  refine ⟨atBase 0 (BitVec.ofNat 48 a), 0, fm 2 1 0, ?_⟩
  simp only [List.mem_cons, List.not_mem_nil, or_false] at ha
  unfold State.ready
  rcases ha with rfl | rfl | rfl | rfl | rfl | rfl | rfl | rfl <;> decide +kernel

theorem witness_StrandFaults_illegal : ∃ (s : State) (i : StrandId) (x : FmtA) (y : FmtX), (s.strand i).state = .runnable
    ∧ (s.ready i [] ∧ unassigned 0 = true) ∧ (s.ready i [x.rd, x.ra, x.rb] ∧ x.imm ≠ 0) ∧ s.readyLong i [y.rd, y.ra, y.rb] ∧ y.imm ≠ 0 :=
  ⟨live, 0, { fa 1 2 3 with imm := 1 }, fx 1 2 3 1, by decide +kernel, ⟨live_ready _, by decide +kernel⟩, ⟨live_ready _, by decide⟩,
    live_readyLong _, by decide⟩

theorem witness_StrandFaults_fetch : ∀ z ∈ [(0xFFFFF, 2), (0x200000, 3), (0x800000, 3)], ∃ (s : State) (i : StrandId),
    s.canIssue i = true ∧ (s.strand i).state = .runnable ∧ s.fetchFault i = some z.2 ∧ (s.strand i).pc.toNat = z.1 := by
  intro z hz
  refine ⟨onStrand live 0 (fun y => { y with pc := BitVec.ofNat 24 z.1, cls := 0 }), 0, ?_⟩
  simp only [List.mem_cons, List.not_mem_nil, or_false] at hz
  rcases hz with rfl | rfl | rfl <;> decide +kernel

theorem witness_StrandFaults_fetch_word : ∃ (s t : State) (i : StrandId), (s.canIssue i = true ∧ (s.strand i).state = .runnable
    ∧ s.fetchFault i = none ∧ region (s.strand i).pc.toNat = .ram ∧ spGet (fun _ => 0) s.mem.ramErr (s.strand i).pc.toNat = 2)
    ∧ t.canIssue i = true ∧ (t.strand i).state = .runnable ∧ t.fetchFault i = none ∧ region (t.strand i).pc.toNat = .mramUser
    ∧ t.mramBad (t.strand i).pc.toNat = 3 :=
  ⟨{ live with mem := { live.mem with ramErr := [(0x100000, 2)] } },
    { onStrand live 0 (fun y => { y with pc := 0x10 }) with mem := { live.mem with mramErr := [(0x10, 3)] } }, 0, by decide +kernel⟩

theorem witness_DivisionAndRootIssue_division : ∃ (s : State) (i : StrandId) (x y : FmtX), (s.readyLong i [x.rd, x.ra, x.rb] ∧ x.rsv = 0 ∧ x.imm = 0
    ∧ (s.strand i).rd x.rb ≠ 0) ∧ s.readyLong i [y.rd, y.ra, y.rb] ∧ y.rsv = 0 ∧ y.imm = 0 ∧ (s.strand i).rd y.rb = 0 := by
  refine ⟨onStrand live 0 (fun y => y.wr 1 0x800000000000), 0, fx 31 0 1 0, fx 0 1 2 0, ?_⟩
  unfold State.readyLong State.ready; decide +kernel

theorem witness_DivisionAndRootIssue_root : ∃ (s : State) (i : StrandId) (x y : FmtX), (s.readyLong i [x.rd, x.ra] ∧ x.rb = 0 ∧ x.rsv = 0 ∧ x.imm = 0
    ∧ ((s.strand i).rd x.ra).toInt = -2 ^ 47) ∧ s.readyLong i [y.rd, y.ra] ∧ y.rb = 0 ∧ y.rsv = 0 ∧ y.imm = 0 ∧ ((s.strand i).rd y.ra).toInt = 0 := by
  refine ⟨onStrand live 0 (fun y => y.wr 1 0x800000000000), 0, fx 31 1 0 0, fx 31 0 0 0, ?_⟩
  unfold State.readyLong State.ready; decide +kernel

theorem witness_RotationAndAtomicIssue_rotation : ∃ (s : State) (i : StrandId) (x : FmtX), s.readyLong i [x.rd, x.rd + 1, x.ra, x.rb] ∧ x.rsv = 0
    ∧ x.imm = 0 ∧ x.rd ≠ 0 ∧ x.rd ≠ 31 ∧ x.rb = 0 ∧ (s.strand i).rd x.rb = 0 ∧ (s.strand i).rd x.ra = 0 := by
  refine ⟨live, 0, fx 30 2 0 0, ?_⟩
  unfold State.readyLong State.ready; decide +kernel

theorem witness_RotationAndAtomicIssue_atomic : ∀ a ∈ [0x100000, 0x1FFFFF], ∃ (s : State) (i : StrandId) (x : FmtX), s.readyLong i [x.rd, x.ra, x.rb] ∧ x.rsv = 0
    ∧ (((s.strand i).rd x.ra).setWidth 24 + x.imm.signExtend 24).toNat = a ∧ region a = .ram ∧ s.fenceBars a = false := by
  intro a ha
  refine ⟨atBase 0 (BitVec.ofNat 48 a), 0, fx 31 1 2 0, ?_⟩
  simp only [List.mem_cons, List.not_mem_nil, or_false] at ha
  unfold State.readyLong State.ready
  rcases ha with rfl | rfl <;> decide +kernel

theorem witness_RotationAndAtomicIssue_barred : ∃ (s : State) (i : StrandId) (x : FmtX), s.readyLong i [x.rd, x.ra, x.rb] ∧ x.rsv = 0
    ∧ region (((s.strand i).rd x.ra).setWidth 24 + x.imm.signExtend 24).toNat ≠ .ram ∧ (s.strand i).state = .runnable :=
  ⟨live, 0, fx 31 1 2 0, live_readyLong _, by decide +kernel⟩

theorem witness_SystemIssue_persist : ∃ (s : State) (i : StrandId) (x : FmtX), s.readyLong i [x.rd, x.ra, x.rb] ∧ x.rsv = 0
    ∧ x.imm.toNat + 1 = 16 ∧ persistFault i (((s.strand i).rd x.ra).setWidth 24) (((s.strand i).rd x.rb).setWidth 24) 16 = none := by
  refine ⟨atBase 0 0x1FFFF0, 0, fx 31 0 1 15, ?_⟩
  unfold State.readyLong State.ready; decide +kernel

theorem witness_SystemIssue_remote : ∃ (s : State) (i : StrandId) (x : FmtX), s.readyLong i [x.rd, x.ra, x.rb] ∧ x.rsv = 0 ∧ s.cascade = false
    ∧ x.imm.toNat = 3 ∧ x.rb = 0 ∧ x.rd ≠ 0 ∧ x.rd ≠ 31 ∧ s.pendingReg i (x.rd + 1) = false :=
  ⟨live, 0, fx 30 1 0 3, live_readyLong _, by decide +kernel⟩

theorem witness_SystemIssue_nsend : ∃ (s : State) (i : StrandId) (x y : FmtX), (s.readyLong i [x.rd, x.ra, x.rb] ∧ x.rsv = 0 ∧ x.rb = 0
    ∧ x.imm = 0 ∧ descFault (((s.strand i).rd x.ra).setWidth 24).toNat (canDescLen (s.ramAt (((s.strand i).rd x.ra).setWidth 24).toNat)) = none
    ∧ region (((s.strand i).rd x.ra).setWidth 24).toNat = .ram ∧ s.shadowing = false ∧ s.canMode ≠ 2 ∧ s.canMode ≠ 4)
    ∧ s.readyLong i [y.rd, y.ra, y.rb] ∧ y.rsv = 0 ∧ y.rb = 0 ∧ y.imm = 1 ∧ descFault (((s.strand i).rd y.ra).setWidth 24).toNat 3 = none := by
  refine ⟨atBase 0 0x100000, 0, fx 31 1 0 0, fx 31 1 0 1, ?_⟩
  unfold State.readyLong State.ready; decide +kernel

/-- Sixteen calls of user strands 1 to 8 that nothing has taken. -/
def sixteenCalls : List Op :=
  (List.range 16).map (fun k => { id := k, str := ⟨1 + k % 8, by omega⟩, pc := 0x100000, issue := 0, body := .svc 0 3 0 0, stage := .begun })

theorem witness_SystemIssue_calls : ∃ (s : State) (i : StrandId) (x : FmtX), s.readyLong i [x.rd, x.ra, x.rb] ∧ x.rsv = 0 ∧ isSup i = false
    ∧ x.imm.toNat < 2 ^ 12 ∧ 16 ≤ s.svcPending := by
  refine ⟨withOps live sixteenCalls, 0, fx 31 1 2 0xFFF, ?_⟩
  unfold State.readyLong State.ready; decide +kernel

theorem witness_LongOpResults : ∀ o ∈ [flying 0 (.compute 1 31 5 true false false) .begun, flying 0 (.rotate 30 1 2 false true) .begun,
    flying 0 (.load 1 0x800000) (.ended 5 0 0), flying 0 (.svc 1 3 0 0) (.ended 5 0 0), flying 0 (.atomic 5 1 0x1FFFFF 7 0) .begun], ∃ (s : State)
    (i : StrandId) (k : Fin 2), (s.opsOf i)[k.val]? = some o ∧ s.core.esc = none ∧ spGet (fun _ => 0) s.mem.ramErr 0x1FFFFF = 0
    ∧ ∀ q ∈ s.core.ops, ¬ q.id < o.id ∧ (q.id ≠ o.id → q.isCall = false) := by
  intro o ho
  refine ⟨withOps live [o], 0, 0, ?_⟩
  simp only [List.mem_cons, List.not_mem_nil, or_false] at ho
  rcases ho with rfl | rfl | rfl | rfl | rfl <;> decide +kernel

/-- A network send of strand 0 in a CAN mode, whose descriptor holds w. -/
def sending (mode : Nat) (w : Word) : State :=
  ((withOps live [flying 0 (.nsend 1 0x100000 false) .begun]).ramSet 0x100000 w).put R.CAN_CTL_MODE mode

theorem witness_LongOpResults_sends : ∃ (s t u : State) (k : Fin 2) (o : Op) (ws wt wu : List Word),
    ((s.opsOf 0)[k.val]? = some o ∧ s.core.esc = none ∧ o.body = .nsend 1 0x100000 false ∧ s.core.ops.find? (fun q => q.id == o.id) = some o
      ∧ s.shadowing = false ∧ s.descWords 0 false 0x100000 = (ws, s) ∧ s.canMode ≠ 2 ∧ s.canMode ≠ 4)
    ∧ ((t.opsOf 0)[k.val]? = some o ∧ t.core.esc = none ∧ t.core.ops.find? (fun q => q.id == o.id) = some o
      ∧ t.shadowing = false ∧ t.descWords 0 false 0x100000 = (wt, t) ∧ t.canMode = 2 ∧ canMalformed (wt.headD 0) = true)
    ∧ (u.opsOf 0)[k.val]? = some o ∧ u.core.esc = none ∧ u.core.ops.find? (fun q => q.id == o.id) = some o
      ∧ u.shadowing = false ∧ u.descWords 0 false 0x100000 = (wu, u) ∧ u.canMode = 2 ∧ canMalformed (wu.headD 0) = false
      ∧ ∀ b : Fin 8, u.net.can[b] ≠ none := by
  let full : State := { sending 2 0 with net := { live.net with can := Vector.replicate 8 (some { desc := [0] }) } }
  exact ⟨sending 0 0, sending 2 0xFFFFFFFFFFFF, full, 0, flying 0 (.nsend 1 0x100000 false) .begun, [0], [0xFFFFFFFFFFFF], [0],
    by decide +kernel, by decide +kernel, by decide +kernel⟩

theorem witness_RemoteAccessEnds : ∀ n ∈ [4798, 4799], ∃ (s : State) (i : StrandId) (k : Fin 2) (o : Op), (s.opsOf i)[k.val]? = some o
    ∧ o.body = .remote 1 3 0x100000 none ∧ o.stage = .begun ∧ s.core.esc = none ∧ s.core.ops.find? (fun q => q.id == o.id) = some o
    ∧ ((0 : Int) ≤ (s.time.dtime - (o.issue + 4799)).toInt ↔ n = 4799) := by
  intro n hn
  refine ⟨{ withOps live [flying 0 (.remote 1 3 0x100000 none) .begun] with time := { live.time with dtime := BitVec.ofNat 48 n } }, 0, 0,
    flying 0 (.remote 1 3 0x100000 none) .begun, ?_⟩
  simp only [List.mem_cons, List.not_mem_nil, or_false] at hn
  rcases hn with rfl | rfl <;> decide +kernel

theorem witness_StrandFaults_fence : ∃ (s : State) (i : StrandId) (x : FmtM), s.ready i [x.rt, x.ra, x.ri] ∧ x.bad = false
    ∧ (s.strand i).state = .runnable ∧ region (x.ea (s.strand i)).toNat = .ram ∧ s.fenceBars (x.ea (s.strand i)).toNat = true := by
  refine ⟨(((atBase 0 0x100040).put (R.MEM_FENCE_BASE 0) 0x4001).put (R.MEM_FENCE_LEN 0) 1).put (R.MEM_FENCE_OWNER 0) 2, 0, fm 2 1 0, ?_⟩
  unfold State.ready; decide +kernel

theorem witness_WaitsAndEventLines : ∀ n ∈ [0, 255], ∃ (s : State) (i : StrandId) (x : FmtX), s.ready i [x.rd, x.ra]
    ∧ (s.strand i).state = .runnable ∧ x.rb = 0 ∧ x.rsv = 0 ∧ x.imm.toNat < 2 ∧ (x.imm = 1 ∨ x.ra = 0)
    ∧ (s.strand i).pend.getLsbD n = true ∧ ∀ j < n, (s.strand i).pend.getLsbD j = false := by
  intro n hn
  refine ⟨onStrand live 0 (fun y => { y with pend := BitVec.twoPow 256 n }), 0, fx 1 0 0 0, ?_⟩
  simp only [List.mem_cons, List.not_mem_nil, or_false] at hn
  unfold State.ready
  rcases hn with rfl | rfl <;> decide +kernel

theorem witness_WaitsAndEventLines_late : ∃ (s : State) (i : StrandId) (x : FmtX), s.ready i [x.rd, x.ra] ∧ (s.strand i).state = .runnable
    ∧ x.rb = 0 ∧ x.rsv = 0 ∧ x.imm = 1 ∧ (s.strand i).pend = 0 ∧ 0 ≤ (s.time.dtime - (s.strand i).rd x.ra).toInt :=
  ⟨live, 0, fx 1 2 0 1, live_ready _, by decide +kernel⟩

theorem witness_WaitsAndEventLines_waits : ∃ (s u : State) (i : StrandId) (x : FmtX), (s.ready i [x.rd, x.ra] ∧ (s.strand i).state = .runnable
    ∧ x.rb = 0 ∧ x.rsv = 0 ∧ x.imm = 1 ∧ (s.strand i).pend = 0 ∧ ¬ 0 ≤ (s.time.dtime - (s.strand i).rd x.ra).toInt ∧ s.opsOf i = [])
    ∧ u.ready i [x.rd, x.ra] ∧ (u.strand i).state = .runnable ∧ (u.strand i).pend = 0 ∧ ¬ 0 ≤ (u.time.dtime - (u.strand i).rd x.ra).toInt
    ∧ u.opsOf i ≠ [] := by
  refine ⟨onStrand live 0 (fun y => y.wr 2 1), withOps (onStrand live 0 (fun y => y.wr 2 1)) [flying 0 (.compute 1 9 0 false false false) .begun],
    0, fx 1 2 0 1, ?_⟩
  unfold State.ready; decide +kernel

theorem witness_WaitsAndEventLines_ends : ∃ (s u v w : State) (i : StrandId), ((s.strand i).state = .waiting ∧ (s.strand i).waitEnd = .none
    ∧ (s.strand i).waitDl = some 5 ∧ 0 ≤ (s.time.dtime - 5).toInt)
    ∧ ((u.strand i).state = .waiting ∧ u.opsOf i = [] ∧ (u.strand i).opEnd ≠ some u.time.dtime ∧ 5 ≤ (u.time.dtime - (u.strand i).waitAt).toInt
      ∧ (u.strand i).waitEnd = .line 255)
    ∧ ((v.strand i).state = .waiting ∧ v.opsOf i = [] ∧ (v.strand i).opEnd ≠ some v.time.dtime ∧ 5 ≤ (v.time.dtime - (v.strand i).waitAt).toInt
      ∧ (v.strand i).waitEnd = .deadline)
    ∧ (w.strand i).state = .draining ∧ w.opsOf i = [] ∧ (w.strand i).opEnd ≠ some w.time.dtime
      ∧ ((w.strand i).waitEnd = .none ∨ (w.strand i).drainTo ≠ .waiting) := by
  let z : State := { live with time := { live.time with dtime := 5 } }
  exact ⟨onStrand z 0 (fun y => { y with state := .waiting, waitDl := some 5 }), onStrand z 0 (fun y => { y with state := .waiting, waitEnd := .line 255 }),
    onStrand z 0 (fun y => { y with state := .waiting, waitEnd := .deadline }), onStrand z 0 (fun y => { y with state := .draining }), 0,
    by decide +kernel⟩

theorem witness_WaitsAndEventLines_lines : ∃ (s t : State) (i j : StrandId) (x : FmtX), (s.ready i [] ∧ x.rd = 0 ∧ x.ra = 0 ∧ x.rb = 0 ∧ x.rsv = 0
    ∧ x.imm.toNat = 47) ∧ (t.strand j).state = .waiting ∧ (t.strand j).waitEnd = .none ∧ (t.strand j).waitDl = some 0
    ∧ (t.time.dtime - 0).toInt ≤ 0 ∧ (t.now.lines &&& (t.strand j).mask).getLsbD 255 = true
    ∧ ∀ m < 255, (t.now.lines &&& (t.strand j).mask).getLsbD m = false :=
  ⟨live, onStrand { live with now := { live.now with lines := BitVec.twoPow 256 255 } } 5
    (fun y => { y with state := .waiting, waitDl := some 0, mask := BitVec.allOnes 256 }), 0, 5, fx 0 0 0 47, ⟨live_ready _, by decide⟩, by decide +kernel⟩

theorem witness_StrandControl_spawn : ∃ (s : State) (i : StrandId) (x y z : FmtX), (s.strand i).state = .runnable
    ∧ (x.rsv = 0 ∧ s.ready i [x.rd, x.ra, x.rb] ∧ x.imm.toNat = 255 - 8 ∧ x.imm.toNat % 64 = (55 : StrandId).val ∧ isSup 55 = false
      ∧ (s.strand 55).state = .free)
    ∧ (y.rsv = 0 ∧ s.ready i [y.rd, y.ra, y.rb] ∧ y.imm.toNat % 64 = (56 : StrandId).val ∧ isSup 56 = true)
    ∧ z.rsv = 0 ∧ s.ready i [z.rd, z.ra, z.rb] ∧ z.imm.toNat % 64 = (1 : StrandId).val ∧ isSup 1 = false ∧ (s.strand 1).state ≠ .free := by
  refine ⟨onStrand live 1 (fun y => { y with state := .parked }), 0, fx 1 2 3 247, fx 1 2 3 56, fx 1 2 3 1, ?_⟩
  unfold State.ready; decide +kernel

theorem witness_StrandControl_ends : ∃ (s u : State) (i : StrandId) (x : FmtX), (s.strand i).state = .runnable ∧ x.rsv = 0 ∧ s.ready i []
    ∧ x.rd = 0 ∧ x.ra = 0 ∧ x.rb = 0 ∧ x.imm = 0 ∧ s.opsOf i = [] ∧ (u.strand i).state = .runnable ∧ u.ready i [] ∧ u.opsOf i ≠ [] := by
  refine ⟨live, withOps live [flying 0 (.compute 1 9 0 false false false) .begun], 0, fx 0 0 0 0, ?_⟩
  unfold State.ready; decide +kernel

theorem witness_StrandControl_others : ∃ (s : State) (i : StrandId) (x y z : FmtX), (s.strand i).state = .runnable
    ∧ (x.rsv = 0 ∧ s.ready i [x.rd, x.ra] ∧ x.rb = 0 ∧ ((s.strand i).rd x.ra).toNat % 64 = (1 : StrandId).val ∧ x.imm = 0
      ∧ (s.strand 1).state = .faulted ∧ (s.strand 1).flt.resv = false)
    ∧ (y.rsv = 0 ∧ s.ready i [y.rd, y.ra] ∧ y.rb = 0 ∧ ((s.strand i).rd y.ra).toNat % 64 = (2 : StrandId).val ∧ y.imm = 0
      ∧ (s.strand 2).state = .parked ∧ s.opsOf 2 = [])
    ∧ z.rsv = 0 ∧ s.ready i [z.rd, z.ra] ∧ z.rb = 0 ∧ z.imm.toNat = 3 ∧ (s.strand 1).state ≠ .free ∧ isSup 1 = false ∧ isSup 2 = false := by
  refine ⟨onStrand (onStrand (onStrand live 1 (fun y => { y with state := .faulted })) 2 (fun y => { y with state := .parked })) 0
    (fun y => (y.wr 4 1).wr 5 2), 0, fx 1 4 0 0, fx 1 5 0 0, fx 1 4 0 3, ?_⟩
  unfold State.ready; decide +kernel

/-! ## Witnesses: watchdog, resets, boot and time -/

/-- A chip with its watchdog running: WDTO 2 ms, WDMIN 1 ms, n beats counted. -/
def watched (n : Nat) : State :=
  ((({ live with core := { live.core with wdRun := true, wdBeats := n } }).put R.SCH_WDCFG_WDTO 2).put R.SCH_WDCFG_WDMIN 1).put R.SCH_WDSTAT_EXPECT 0

theorem witness_WatchdogRules : ∃ (s u w x : State) (i : StrandId) (v v' : Word),
    (Memory.wf s = true ∧ s.core.esc = none ∧ s.pwr.kind = 0 ∧ s.core.wdRun = true ∧ i.val = s.get R.SCH_WDCFG_STRAND
      ∧ s.core.wdBeats / 240000 < s.get R.SCH_WDCFG_WDTO ∧ ¬ s.core.wdBeats / 240000 < s.get R.SCH_WDCFG_WDMIN
      ∧ v.toNat % 2 ^ 16 = (if s.get R.SCH_WDSTAT_EXPECT = 0 then 0x3C96 else 0xC369)
      ∧ ¬ v'.toNat % 2 ^ 16 = (if s.get R.SCH_WDSTAT_EXPECT = 0 then 0x3C96 else 0xC369)
      ∧ (∀ j : StrandId, Master.host = .strand j → j.val ≠ s.get R.SCH_WDCFG_STRAND)
      ∧ s.pwr.mode = .run ∧ s.get R.DBG_STAT_MH = 0 ∧ s.core.wdOpen = false)
    ∧ (Memory.wf u = true ∧ u.core.esc = none ∧ u.pwr.kind = 0 ∧ u.core.wdRun = true ∧ i.val = u.get R.SCH_WDCFG_STRAND
      ∧ u.core.wdBeats / 240000 < u.get R.SCH_WDCFG_WDTO ∧ u.core.wdBeats / 240000 < u.get R.SCH_WDCFG_WDMIN)
    ∧ (Memory.wf w = true ∧ w.core.esc = none ∧ w.pwr.kind = 0 ∧ w.core.wdRun = true ∧ w.get R.SCH_WDCFG_WDTO ≤ w.core.wdBeats / 240000
      ∧ w.pwr.mode = .run ∧ w.get R.DBG_STAT_MH = 0)
    ∧ Memory.wf x = true ∧ x.core.esc = none ∧ x.pwr.kind = 0 ∧ x.core.wdRun = true ∧ x.get R.DBG_STAT_MH ≠ 0 :=
  ⟨watched 240000, watched 239999, watched 480000, (watched 480000).put R.DBG_STAT_MH 1, 0, 0x3C96, 0xC369, by decide +kernel, by decide +kernel,
    by decide +kernel, by decide +kernel⟩

/-- A chip whose escalation began with 128 operations in flight. -/
def escalating (src : BitVec 2) (now : Word) (f : Escalation → Escalation) : State :=
  { live with
    time := { live.time with dtime := now }
    core := { live.core with
      issueOn := false
      esc := some (f { f := 7, src := src, mcause := 4, strand := 0, atF := List.replicate 128 (flying 0 (.load 1 0x800000) .begun) }) } }

theorem witness_EscalationRules_begins : ∃ (s u w : State) (v x : Word), (Memory.wf s = true ∧ s.core.esc = none ∧ s.pwr.kind = 0 ∧ s.watching = true
      ∧ v.toNat % 2 ^ 17 = 2 ^ 16 + 0xC3A5 ∧ x.toNat % 2 ^ 17 ≠ 2 ^ 16 + 0xC3A5)
    ∧ (Memory.wf u = true ∧ (∃ e, u.core.esc = some e) ∧ u.watching = true ∧ u.pwr.kind ≠ 5)
    ∧ Memory.wf w = true ∧ (∃ e, w.core.esc = some e) ∧ w.watching = true ∧ w.pwr.kind = 5 :=
  ⟨live, escalating 1 9 id, { escalating 3 9 id with pwr := { live.pwr with kind := 5 } }, 0x1C3A5, 0xC3A5, by decide +kernel,
    ⟨by decide +kernel, ⟨_, rfl⟩, by decide +kernel⟩, by decide +kernel, ⟨_, rfl⟩, by decide +kernel⟩

theorem witness_EscalationRules_ends : ∃ (s t u w : State) (e es eu ew : Escalation),
    (Memory.wf s = true ∧ s.core.esc = some es ∧ es.snapped = false ∧ es.atF.length ≤ 128 ∧ (∀ o ∈ s.core.ops, o.stage = .waiting)
      ∧ 0 < (s.time.dtime - es.doneAt).toInt)
    ∧ (Memory.wf t = true ∧ t.core.esc = some e ∧ e.snapped = false ∧ e.atF.length ≤ 128 ∧ 0 ≤ (t.time.dtime - (e.f + 2048)).toInt)
    ∧ (Memory.wf u = true ∧ u.core.esc = some eu ∧ eu.snapped = true ∧ eu.logged = false ∧ 0 ≤ (u.time.dtime - (eu.d + 16)).toInt
      ∧ (u.time.dtime - (eu.d + 640)).toInt < 0)
    ∧ Memory.wf w = true ∧ w.core.esc = some ew ∧ ew.snapped = true ∧ 0 ≤ (w.time.dtime - (ew.d + 640)).toInt :=
  ⟨escalating 1 9 id, { escalating 1 2055 id with core := { (escalating 1 2055 id).core with ops := [flying 0 (.load 1 0x800000) .begun] } },
    escalating 3 116 (fun e => { e with snapped := true, d := 100 }), escalating 3 740 (fun e => { e with snapped := true, d := 100, logged := true }),
    _, _, _, _, by refine ⟨by decide +kernel, rfl, ?_⟩; decide +kernel, by refine ⟨by decide +kernel, rfl, ?_⟩; decide +kernel,
    by refine ⟨by decide +kernel, rfl, ?_⟩; decide +kernel, by refine ⟨by decide +kernel, rfl, ?_⟩; decide +kernel⟩

theorem witness_PowerOnAndResets_power : ∃ s t u : State, (Memory.wf s = true ∧ s.pwr.mode = .off ∧ s.pwr.offLatch = false)
    ∧ (Memory.wf t = true ∧ t.pwr.mode = .off ∧ t.pwr.offLatch = true) ∧ Memory.wf u = true ∧ u.pwr.mode ≠ .off :=
  ⟨{ live with pwr := { live.pwr with mode := .off, offLatch := false } }, { live with pwr := { live.pwr with mode := .off, offLatch := true } },
    live, by decide +kernel⟩

theorem witness_PowerOnAndResets_outside : ∃ v w : State, (Memory.wf v = true ∧ v.pwr.kind = 0 ∧ v.pwr.mode = .run ∧ (3 : BitVec 2) ≠ 0
      ∧ v.pwr.rstDrive = false ∧ v.pwr.entry = none)
    ∧ Memory.wf w = true ∧ w.pwr.kind = 0 ∧ w.pwr.mode = .srrHold ∧ w.get R.PWR_STAT_VBATUV = 0
      ∧ 0 ≤ (w.time.dtime - (w.rsv.vbAt + 2400000)).toInt :=
  ⟨live, { live with pwr := { live.pwr with mode := .srrHold }, time := { live.time with dtime := 2400000 } }, by decide +kernel⟩

def booting (p : BootPhase) (m : PowerMode) : State := { live with pwr := { live.pwr with mode := m, boot := p, kind := 1 } }

theorem witness_BootRules_steps : ∃ s t u u' v w x y : State, (Memory.wf s = true ∧ s.core.esc = none ∧ s.pwr.mode = .start ∧ s.pwr.boot = .regs)
    ∧ (Memory.wf t = true ∧ t.core.esc = none ∧ t.pwr.mode = .start ∧ t.pwr.boot = .beat ∧ t.time.refValid = true ∧ t.pwr.kind = 1)
    ∧ (Memory.wf u = true ∧ u.core.esc = none ∧ u.pwr.boot = .flow ∧ u.pwr.mode ≠ .off ∧ u.pwr.kind = 1 ∧ u.get R.RST_BOOTST_STRAPERR = 0)
    ∧ (Memory.wf u' = true ∧ u'.core.esc = none ∧ u'.pwr.boot = .flow ∧ u'.pwr.mode ≠ .off ∧ u'.pwr.kind = 7 ∧ u'.get R.RST_BOOTST_STRAPERR ≠ 0)
    ∧ (Memory.wf v = true ∧ v.core.esc = none ∧ v.pwr.mode = .start ∧ v.pwr.boot = .handoff ∧ v.time.handoff = true ∧ v.pwr.pinPend = false)
    ∧ (Memory.wf w = true ∧ w.core.esc = none ∧ w.pwr.mode = .standby ∧ w.pwr.wake = some .regs)
    ∧ (Memory.wf x = true ∧ x.core.esc = none ∧ x.pwr.mode = .start ∧ x.pwr.boot = .beat ∧ x.time.refValid = true ∧ x.pwr.kind ≠ 1)
    ∧ Memory.wf y = true ∧ y.core.esc = none ∧ y.time.refValid = false :=
  ⟨booting .regs .start, booting .beat .start, booting .flow .run,
    ({ booting .flow .run with pwr := { (booting .flow .run).pwr with kind := 7 } } : State).put R.RST_BOOTST_STRAPERR 1,
    { booting .handoff .start with time := { live.time with handoff := true } },
    { live with pwr := { live.pwr with mode := .standby, wake := some .regs } },
    { booting .beat .start with pwr := { (booting .beat .start).pwr with kind := 2 } },
    { live with time := {} }, by decide +kernel⟩

/-- An image of one word in MRAM that its header lets any role start. -/
def withImage : State :=
  (booting (.trying 0 [1, 2]) .run).mramSet 0 [0x4824B0010010, 1, 0x10, 0x11F00]

theorem witness_BootRules_tries : ∃ (s t : State) (g : ImageTry), (Memory.wf s = true ∧ s.core.esc = none ∧ s.pwr.boot = .trying 0 [1, 2]
      ∧ ((0 : Nat) ≠ 1 ∨ g.timeout = some 0 ∨ s.tryWords ((g.words.take 16).map xipWord) ≤ g.words.length) ∧ s.mem.mramErr = []
      ∧ (s.mramAt 0).toNat / 2 ^ 24 ≠ 0x4824B0 ∧ (s.tryImage g 0).1 ≠ 1)
    ∧ Memory.wf t = true ∧ t.core.esc = none ∧ t.pwr.boot = .trying 0 [1, 2] ∧ (t.tryImage g 0).1 = 1 ∧ t.get R.RST_STRAP_ROLE = 0 :=
  ⟨booting (.trying 0 [1, 2]) .run, withImage, { words := [], timeout := none }, by decide +kernel⟩

theorem witness_BootRules_flash : ∃ (s : State) (g h : ImageTry), Memory.wf s = true ∧ s.core.esc = none ∧ s.pwr.boot = .trying 1 []
    ∧ g.timeout = some 0 ∧ (s.tryImage g 1).1 ≠ 1 ∧ s.tryWords ((h.words.take 16).map xipWord) ≤ h.words.length ∧ (s.tryImage h 1).1 ≠ 1 :=
  ⟨booting (.trying 1 []) .run, { words := [], timeout := some 0 }, { words := List.replicate 16 0, timeout := none }, by decide +kernel⟩

theorem witness_BootRules_host : ∃ s t : State, (Memory.wf s = true ∧ s.core.esc = none ∧ s.pwr.boot = .hostWait [0]) ∧ Memory.wf t = true
    ∧ t.core.esc = none ∧ t.pwr.boot = .hostWait [] ∧ t.get R.RST_BOOTCFG_HOSTTO ≠ 0 ∧ t.get R.RST_STRAP_BOOT ≠ 2
    ∧ 0 ≤ (t.time.dtime - (t.pwr.stepAt + BitVec.ofNat 48 (t.get R.RST_BOOTCFG_HOSTTO * 240000))).toInt :=
  ⟨booting (.hostWait [0]) .run,
    ({ booting (.hostWait []) .run with time := { live.time with dtime := 240000 } } : State).put R.RST_BOOTCFG_HOSTTO 1, by decide +kernel⟩

theorem witness_ReferenceRules : ∃ s t u v : State, (Memory.wf s = true ∧ s.time.onCrystal = false ∧ s.coreValid = true ∧ s.pwr.mode = .run
      ∧ s.time.refValid = true ∧ s.get R.RST_STRAP_ROLE = 0 ∧ s.get R.TIME_CLKCTL_REFLOST_ACT ≠ 0 ∧ s.time.beatOn = true ∧ s.time.dlGood[(1 : Fin 2)] = 15)
    ∧ (Memory.wf t = true ∧ t.time.onCrystal = true)
    ∧ (Memory.wf u = true ∧ u.get R.TIME_STAT_REF_SRC ≠ 0 ∧ u.time.beatOn = true)
    ∧ Memory.wf v = true ∧ v.pwr.mode = .standby ∧ v.pwr.wake = none :=
  ⟨({ live with time := { live.time with dlGood := #v[0, 15] } } : State).put R.TIME_CLKCTL_REFLOST_ACT 1,
    { live with time := { live.time with onCrystal := true } }, live.put R.TIME_STAT_REF_SRC 1,
    { live with pwr := { live.pwr with mode := .standby } }, by decide +kernel⟩

theorem witness_NetworkTime : ∃ (s s' t t' u u' : State) (tm d nl tm' : BitVec 64),
    (Memory.wf s = true ∧ s.get R.TIME_STAT_NT_STATE = 2 ∧ s.time.beacons = [(tm, d.setWidth 48, nl)] ∧ s.get R.RST_STRAP_ROLE ≠ 3
      ∧ 65536000 ≤ |(tm - nl).toInt| ∧ s.time.slew = 0 ∧ 240000 * s.get R.TIME_NTLIM_BTO ≤ s.time.ageBeacon)
    ∧ (Memory.wf s' = true ∧ s'.get R.TIME_STAT_NT_STATE = 2 ∧ s'.time.beacons = [(tm', d.setWidth 48, nl)] ∧ s'.get R.RST_STRAP_ROLE ≠ 3
      ∧ |(tm' - nl).toInt| = 65535999 ∧ s'.time.ageBeacon < 240000 * s'.get R.TIME_NTLIM_BTO)
    ∧ (Memory.wf t = true ∧ t.get R.TIME_STAT_NT_STATE = 1 ∧ t.time.beacons = [] ∧ 240000000 * t.get R.TIME_NTLIM_HOLD ≤ t.time.ageState)
    ∧ (Memory.wf t' = true ∧ t'.get R.TIME_STAT_NT_STATE = 1 ∧ t'.time.ageState < 240000000 * t'.get R.TIME_NTLIM_HOLD)
    ∧ (Memory.wf u = true ∧ u.time.tpDue = true ∧ u.pwr.mode = .run ∧ u.time.tpHigh = false ∧ u.get R.TIME_NTCTL_TP_EN ≠ 0)
    ∧ Memory.wf u' = true ∧ u'.time.tpDue = true ∧ u'.pwr.mode = .run ∧ u'.time.tpHigh = true ∧ u'.time.tpLeft = 0 :=
  ⟨(({ live with time := { live.time with beacons := [(65536000, 3, 0)], ageBeacon := 240000 } } : State).put R.TIME_STAT_NT_STATE 2).put
      R.TIME_NTLIM_BTO 1,
    (({ live with time := { live.time with beacons := [(65535999, 3, 0)], ageBeacon := 239999 } } : State).put R.TIME_STAT_NT_STATE 2).put
      R.TIME_NTLIM_BTO 1,
    (({ live with time := { live.time with ageState := 240000000 } } : State).put R.TIME_STAT_NT_STATE 1).put R.TIME_NTLIM_HOLD 1,
    (({ live with time := { live.time with ageState := 239999999 } } : State).put R.TIME_STAT_NT_STATE 1).put R.TIME_NTLIM_HOLD 1,
    ({ live with time := { live.time with tpDue := true } } : State).put R.TIME_NTCTL_TP_EN 1,
    { live with time := { live.time with tpDue := true, tpHigh := true } }, 65536000, 3, 0, 65535999, by decide +kernel⟩

theorem witness_NetworkTime_off : ∃ s u : State, (Memory.wf s = true ∧ s.time.tpDue = true ∧ s.pwr.mode = .run ∧ s.time.tpHigh = false
    ∧ s.get R.TIME_NTCTL_TP_EN = 0) ∧ Memory.wf u = true ∧ u.time.tpDue = false ∧ u.time.tpHigh = true ∧ u.time.tpLeft ≠ 0 :=
  ⟨({ live with time := { live.time with tpDue := true } } : State).put R.TIME_NTCTL_TP_EN 0,
    { live with time := { live.time with tpHigh := true, tpLeft := 1 } }, by decide +kernel⟩


/-! ## Witnesses: power, the rest vote and memories -/

def onPwr (s : State) (f : Power → Power) : State := { s with pwr := f s.pwr }
def onMem (s : State) (f : Mem → Mem) : State := { s with mem := f s.mem }
def dozing : State := onPwr live (fun p => { p with mode := .doze })
def sleeping : State := onPwr live (fun p => { p with mode := .standby })

theorem witness_PowerRequests : ∃ s t u v : State, (Memory.wf s = true ∧ s.get R.DBG_STAT_MH = 0 ∧ s.pwr.entry = none
    ∧ s.pwr.heldReq = none ∧ s.pwr.mode = .run ∧ ∀ c : Course, s.get (R.PWM_OUT_OUTEN c) = 0)
    ∧ (Memory.wf t = true ∧ t.get R.DBG_STAT_MH = 0 ∧ t.pwr.entry = none ∧ t.pwr.heldReq = none ∧ t.pwr.mode = .run
      ∧ ∃ c : Course, t.get (R.PWM_OUT_OUTEN c) ≠ 0)
    ∧ (Memory.wf u = true ∧ u.get R.DBG_STAT_MH = 0 ∧ u.pwr.entry = none ∧ u.pwr.heldReq = none ∧ u.pwr.mode = .doze ∧ u.inCommit = false)
    ∧ Memory.wf v = true ∧ v.get R.DBG_STAT_MH = 0 ∧ v.pwr.entry ≠ none :=
  ⟨live, live.put (R.PWM_OUT_OUTEN 7) 2, dozing, onPwr dozing (fun p => { p with entry := some .e3 }), by decide +kernel⟩

def atTime (s : State) (n : Word) : State := { s with time := { s.time with dtime := n } }
def atPeriods (s : State) (n : Nat) : State := { s with time := { s.time with aoCount := n } }

theorem witness_EntrySteps : ∃ s s' s'' t t' u v w x : State, (Memory.wf s = true ∧ s.pwr.mode = .doze ∧ s.pwr.entry = some .e1 ∧ s.core.ops = []
      ∧ s.mem.persists = [] ∧ s.host.op = none ∧ s.dbg.acc = none ∧ (s.time.dtime + 1 - (s.pwr.stepAt + 240000)).toInt < 0)
    ∧ (Memory.wf s' = true ∧ s'.pwr.mode = .doze ∧ s'.pwr.entry = some .e1 ∧ s'.core.ops ≠ [])
    ∧ (Memory.wf s'' = true ∧ s''.pwr.mode = .doze ∧ s''.pwr.entry = some .e1 ∧ 0 ≤ (s''.time.dtime + 1 - (s''.pwr.stepAt + 240000)).toInt
      ∧ s''.host.stream = none)
    ∧ (Memory.wf t = true ∧ t.pwr.mode = .doze ∧ t.pwr.entry = some .e2 ∧ 0 ≤ (t.time.dtime - (t.pwr.stepAt + 2400)).toInt)
    ∧ (Memory.wf t' = true ∧ t'.pwr.mode = .doze ∧ t'.pwr.entry = some .e2 ∧ (t'.time.dtime - (t'.pwr.stepAt + 2400)).toInt < 0)
    ∧ (Memory.wf u = true ∧ u.pwr.mode = .doze ∧ u.pwr.entry = some .e3 ∧ u.pwr.pinPend = false ∧ 10 ≤ u.time.aoCount ∧ u.pwr.toRest = false
      ∧ u.pwr.lpWakes ≠ [])
    ∧ (Memory.wf v = true ∧ v.pwr.mode = .doze ∧ v.pwr.entry = some .e3 ∧ v.pwr.pinPend = false ∧ 10 ≤ v.time.aoCount ∧ v.pwr.toRest = true
      ∧ v.pwr.lpWakes = [])
    ∧ (Memory.wf w = true ∧ w.pwr.mode = .standby ∧ w.pwr.wake = none ∧ w.get R.PWR_LPCTL_DEEPEN ≠ 0
      ∧ w.get R.PWR_LPCTL_DEEPEN * 14400000000 ≤ aoBeats (w.time.aoCount - 10) w.aoK)
    ∧ Memory.wf x = true ∧ x.pwr.mode = .standby ∧ x.pwr.wake = none ∧ x.now.deepen = true :=
  ⟨onPwr dozing (fun p => { p with entry := some .e1 }),
    withOps (onPwr dozing (fun p => { p with entry := some .e1 })) [flying 0 (.load 1 0x800000) .begun],
    atTime (onPwr dozing (fun p => { p with entry := some .e1 })) 239999,
    atTime (onPwr dozing (fun p => { p with entry := some .e2 })) 2400, atTime (onPwr dozing (fun p => { p with entry := some .e2 })) 2399,
    atPeriods (onPwr dozing (fun p => { p with entry := some .e3, lpWakes := [{ code := 1, n := 0, latched := false, from' := 6 }] })) 10,
    atPeriods (onPwr dozing (fun p => { p with entry := some .e3, toRest := true })) 10, atPeriods (sleeping.put R.PWR_LPCTL_DEEPEN 1) 100000000,
    { sleeping with now := { sleeping.now with deepen := true } }, by decide +kernel⟩

/-- A frame of two bytes. -/
def aFrame : CanFrame :=
  { id := 0x12345678, ide := true, fdf := false, brs := false, rtr := false, dlc := 2, esi := false, crc := 0x1234, sof := 99, data := [1, 2] }

/-- A chip whose wake timer of 1 ms has run for 1 ms, with every source enabled. -/
def wakeable (s : State) : State :=
  ((onPwr (atTime s 240000) (fun p => { p with wtimer := true })).setReg RW.PWR_WAKEEN 0x7FF).put R.PWR_WTIMER_PERIOD 1

theorem witness_WakeRules_sources : ∃ s t u v : State, (Memory.wf s = true ∧ s.pwr.mode = .standby ∧ s.pwr.wake = none
      ∧ (∀ k ∈ [0, 3, 5, 7, 9, 10], (s.reg RW.PWR_WAKEEN).getLsbD k = true) ∧ s.pwr.wtimer = true ∧ 0 < s.get R.PWR_WTIMER_PERIOD
      ∧ s.get R.PWR_WTIMER_PERIOD * 240000 ≤ (s.aoTime - s.pwr.wtAt).toNat ∧ s.get R.PWR_LPCTL_CAN_PN = 0)
    ∧ (Memory.wf t = true ∧ t.pwr.mode = .standby ∧ t.pwr.wake = none ∧ (t.reg RW.PWR_WAKEEN).getLsbD 6 = true ∧ t.get R.PWR_LPCTL_CAN_PN ≠ 0
      ∧ aFrame.fdf = false ∧ t.pnAccepts aFrame = true ∧ t.net.pnErr = 0)
    ∧ (Memory.wf u = true ∧ u.pwr.mode = .doze ∧ u.pwr.entry = none ∧ u.phaseRv = 0 ∧ u.pwr.heldReq = none ∧ u.pwr.rvTx ≠ 1
      ∧ (∀ k ∈ [0, 3, 9], (u.reg RW.PWR_WAKEEN).getLsbD k = true) ∧ u.pwr.wtimer = true ∧ 0 < u.get R.PWR_WTIMER_PERIOD
      ∧ u.get R.PWR_WTIMER_PERIOD * 240000 ≤ (u.aoTime - u.pwr.wtAt).toNat)
    ∧ Memory.wf v = true ∧ v.pwr.mode = .rest ∧ (v.reg RW.PWR_WAKEEN).getLsbD 3 = true :=
  ⟨wakeable sleeping, (((wakeable sleeping).put R.PWR_LPCTL_CAN_PN 1).put R.CAN_PN_IDE 1).put R.CAN_PN_ID 0x12345678, wakeable dozing,
    wakeable (onPwr live (fun p => { p with mode := .rest })), by decide +kernel⟩

theorem witness_WakeRules_ignored : ∃ s t : State, (Memory.wf s = true ∧ (∀ k ∈ [6, 8, 11], ¬ (s.reg RW.PWR_WAKEEN).getLsbD (k - 1) = true))
    ∧ Memory.wf t = true ∧ ¬ (0 < t.get R.PWR_WTIMER_PERIOD ∧ t.get R.PWR_WTIMER_PERIOD * 240000 ≤ (t.aoTime - t.pwr.wtAt).toNat) :=
  ⟨live.setReg RW.PWR_WAKEEN 0, atTime (wakeable live) 239999, by decide +kernel⟩

theorem witness_WakeRules_standby : ∃ s t u : State, (Memory.wf s = true ∧ s.pwr.mode = .standby ∧ s.core.esc = none ∧ s.pwr.wake = some .regs)
    ∧ (Memory.wf t = true ∧ t.pwr.mode = .standby ∧ t.core.esc = none ∧ t.pwr.wake = some .beat ∧ t.time.refValid = true ∧ t.pwr.kind = 0)
    ∧ Memory.wf u = true ∧ u.pwr.mode = .standby ∧ u.core.esc = none ∧ u.pwr.wake = some .handoff ∧ u.time.handoff = true ∧ u.pwr.pinPend = false
    ∧ u.pwr.heldReq = none ∧ u.host.stream = none ∧ u.get R.PWR_STAT_VBATUV = 0 :=
  ⟨onPwr sleeping (fun p => { p with wake := some .regs }), onPwr sleeping (fun p => { p with wake := some .beat }),
    { onPwr sleeping (fun p => { p with wake := some .handoff }) with time := { live.time with handoff := true } }, by decide +kernel⟩

/-- A rest engine in a phase, on node 0xC of a CAN that runs. -/
def voting (ph : Nat) (s : State) : State :=
  (((s.put R.PWR_RVCFG_EN 1).put R.RST_STRAP_NODE 0xC).put R.PWR_RVSTAT_PHASE ph).put R.CAN_CTL_MODE 2

/-- REST_COMMIT in transmit buffer 7. -/
def commitTx : CanTx := { desc := [0, 0x040000000000, 0], sof := some 5, kind := .control }

theorem witness_RestVote_coordinator : ∃ s t u v w : State, (Memory.wf s = true ∧ s.get R.PWR_RVCFG_EN ≠ 0 ∧ s.pwr.mode = .run
      ∧ s.get R.RST_STRAP_ROLE = 0 ∧ s.canHears = true ∧ s.pwr.rvDecided = false ∧ s.get R.RST_STRAP_NODE = 0xC ∧ s.phaseRv = 0 ∧ s.notReady ≠ 0)
    ∧ (Memory.wf t = true ∧ t.get R.PWR_RVCFG_EN ≠ 0 ∧ t.pwr.mode = .run ∧ t.get R.RST_STRAP_ROLE = 0 ∧ t.canHears = true ∧ t.pwr.rvDecided = false
      ∧ t.get R.RST_STRAP_NODE = 0xC ∧ t.phaseRv = 0 ∧ t.notReady = 0 ∧ t.get R.PWR_RVCOORD_NODES &&& 0x1000 ≠ t.get R.PWR_RVCOORD_NODES)
    ∧ (Memory.wf u = true ∧ u.get R.PWR_RVCFG_EN ≠ 0 ∧ u.pwr.mode = .run ∧ u.get R.RST_STRAP_ROLE = 0 ∧ u.canHears = true ∧ u.pwr.rvDecided = false
      ∧ u.phaseRv = 1 ∧ u.get R.PWR_RVSTAT_VN = (0 : BitVec 8).toNat ∧ (u.get R.PWR_RVCOORD_NODES).testBit 0 = true
      ∧ u.get R.PWR_RVCOORD_NODES &&& (u.get R.PWR_RVRES_READY ||| 1 <<< 0) ≠ u.get R.PWR_RVCOORD_NODES
      ∧ u.pwr.rvAt = some 0 ∧ 0 ≤ (u.time.dtime - (0 + BitVec.ofNat 48 (u.get R.PWR_RVCOORD_TANS * 240000))).toInt)
    ∧ (Memory.wf v = true ∧ v.get R.PWR_RVCFG_EN ≠ 0 ∧ v.pwr.mode = .run ∧ v.get R.RST_STRAP_ROLE = 0 ∧ v.canHears = true ∧ v.pwr.rvDecided = false
      ∧ v.phaseRv = 1 ∧ v.get R.PWR_RVSTAT_VN = (0 : BitVec 8).toNat ∧ (v.get R.PWR_RVCOORD_NODES).testBit 11 = true
      ∧ v.get R.PWR_RVCOORD_NODES &&& (v.get R.PWR_RVRES_READY ||| 1 <<< 11) = v.get R.PWR_RVCOORD_NODES
      ∧ v.pwr.rvAt = some 0 ∧ (v.time.dtime - (0 + BitVec.ofNat 48 (v.get R.PWR_RVCOORD_TANS * 240000))).toInt < 0)
    ∧ Memory.wf w = true ∧ w.get R.PWR_RVCFG_EN ≠ 0 ∧ w.pwr.mode = .run ∧ w.get R.RST_STRAP_ROLE = 0 ∧ w.canHears = true ∧ w.pwr.rvDecided = false
      ∧ w.phaseRv = 1 ∧ (∀ c : Course, w.get (R.PWM_OUT_OUTEN c) = 0) ∧ commitTx.isCommit = true ∧ commitTx.sof = some 5 :=
  ⟨(voting 0 live).put R.PWR_RVCTL_HOLD 1, (voting 0 live).put R.PWR_RVCOORD_NODES 0x801,
    atTime (onPwr (((voting 1 live).put R.PWR_RVCOORD_NODES 0x801).put R.PWR_RVCOORD_TANS 1) (fun p => { p with rvAt := some 0 })) 240000,
    onPwr ((((voting 1 live).put R.PWR_RVCOORD_NODES 0x801).put R.PWR_RVRES_READY 0x1001).put R.PWR_RVCOORD_TANS 1)
      (fun p => { p with rvAt := some 0 }), voting 1 live, by decide +kernel⟩

theorem witness_RestVote_node : ∃ s t u v w x : State, (Memory.wf s = true ∧ s.get R.PWR_RVCFG_EN ≠ 0 ∧ s.get R.RST_STRAP_ROLE = 0
      ∧ s.pwr.entry = none ∧ s.pwr.heldReq = none ∧ s.canHears = true ∧ s.pwr.mode = .run ∧ s.phaseRv = 0 ∧ s.notReady = 0)
    ∧ (Memory.wf t = true ∧ t.get R.PWR_RVCFG_EN ≠ 0 ∧ t.get R.RST_STRAP_ROLE = 0 ∧ t.pwr.entry = none ∧ t.pwr.heldReq = none ∧ t.canHears = true
      ∧ t.pwr.mode = .run ∧ t.phaseRv = 2 ∧ t.get R.PWR_RVSTAT_VN = (0 : BitVec 8).toNat ∧ (∀ c : Course, t.get (R.PWM_OUT_OUTEN c) = 0)
      ∧ t.pwr.rvAt = some 0 ∧ 0 ≤ (t.time.dtime - (0 + BitVec.ofNat 48 (t.get R.PWR_RVCFG_TVOTE * 240000))).toInt)
    ∧ (Memory.wf u = true ∧ u.get R.PWR_RVCFG_EN ≠ 0 ∧ u.get R.RST_STRAP_ROLE = 0 ∧ u.pwr.entry = none ∧ u.pwr.heldReq = none ∧ u.canHears = true
      ∧ u.pwr.mode = .doze ∧ u.phaseRv = 3 ∧ 0 ≤ (u.time.dtime - u.reg RW.PWR_RVEND).toInt)
    ∧ (Memory.wf v = true ∧ v.get R.PWR_RVCFG_EN ≠ 0 ∧ v.get R.RST_STRAP_ROLE = 0 ∧ v.pwr.entry = none ∧ v.pwr.heldReq = none ∧ v.canHears = true
      ∧ v.pwr.mode = .doze ∧ v.phaseRv = 4 ∧ v.notReady = 0
      ∧ 0 ≤ (v.time.dtime - (v.reg RW.PWR_RVEND + BitVec.ofNat 48 (v.get R.PWR_RVCFG_THOLD * 240000))).toInt
      ∧ v.time.dtime ≠ v.reg RW.PWR_RVEND ∧ v.pwr.rvTx ≠ 1)
    ∧ (Memory.wf w = true ∧ w.get R.PWR_RVCFG_EN ≠ 0 ∧ w.get R.RST_STRAP_ROLE = 0 ∧ w.pwr.entry = none ∧ w.pwr.heldReq = none ∧ w.canHears = true
      ∧ w.pwr.mode = .doze ∧ w.phaseRv = 4 ∧ w.notReady ≠ 0
      ∧ 0 ≤ (w.time.dtime - (w.reg RW.PWR_RVEND + BitVec.ofNat 48 (w.get R.PWR_RVCFG_THOLD * 240000))).toInt)
    ∧ Memory.wf x = true ∧ x.get R.PWR_RVCFG_EN ≠ 0 ∧ x.get R.RST_STRAP_ROLE = 0 ∧ x.pwr.entry = none ∧ x.pwr.heldReq = none ∧ x.canHears = true
      ∧ x.pwr.mode = .run ∧ x.pwr.rvTx = 2 ∧ x.canMode = 2 ∧ x.net.can[(7 : Fin 8)] = none ∧ 0 ≤ (x.time.dtime - x.tLate).toInt := by
  let later := fun s : State => atTime s 0x400000000000
  exact ⟨voting 0 live, later (onPwr (voting 2 live) (fun p => { p with rvAt := some 0 })), later (voting 3 dozing), later (voting 4 dozing),
    later ((voting 4 dozing).put R.PWR_RVCTL_HOLD 1), later (onPwr (voting 0 live) (fun p => { p with rvTx := 2 })), by decide +kernel, by decide +kernel,
    by decide +kernel, by decide +kernel, by decide +kernel, by decide +kernel⟩

theorem witness_RestVote_commits : ∃ s t : State, (Memory.wf s = true ∧ s.get R.PWR_RVCFG_EN ≠ 0 ∧ s.get R.RST_STRAP_ROLE = 0
      ∧ s.pwr.entry = none ∧ s.pwr.heldReq = none ∧ s.canHears = true ∧ s.pwr.mode = .run ∧ s.phaseRv = 0 ∧ s.notReady ≠ 0)
    ∧ Memory.wf t = true ∧ t.get R.PWR_RVCFG_EN ≠ 0 ∧ t.get R.RST_STRAP_ROLE = 0 ∧ t.pwr.entry = none ∧ t.pwr.heldReq = none ∧ t.canHears = true
      ∧ t.pwr.mode = .doze ∧ t.phaseRv = 3 ∧ (t.time.dtime - t.reg RW.PWR_RVEND).toInt < 0 :=
  ⟨(voting 0 live).put R.PWR_RVCTL_HOLD 1, (voting 3 dozing).setReg RW.PWR_RVEND 1, by decide +kernel⟩

theorem witness_MemoryErrors : ∃ s t u v w : State, (Memory.wf s = true ∧ (0x1FFFFF#24).toNat ∈ s.mem.ramWb ∧ (0x7FFFF#24).toNat ∈ s.mem.mramWb
      ∧ s.get R.RST_STRAP_ROLE = 0)
    ∧ (Memory.wf t = true ∧ t.pwr.mode = .run ∧ t.get R.MEM_SCRUB_RAMEN ≠ 0 ∧ t.get R.MEM_SCRUB_MRAMEN ≠ 0 ∧ t.slotAt t.mem.mramScrub = none
      ∧ spGet (fun _ => 0) t.mem.ramErr t.mem.ramScrub + (0 : BitVec 3).toNat = 0 ∧ spGet (fun _ => 0) t.mem.mramErr t.mem.mramScrub + (0 : BitVec 3).toNat = 0)
    ∧ (Memory.wf u = true ∧ u.pwr.mode = .run ∧ u.get R.MEM_SCRUB_RAMEN ≠ 0 ∧ u.get R.MEM_SCRUB_MRAMEN ≠ 0 ∧ u.get R.MEM_SCRUB_MWTH ≤ 2
      ∧ u.slotAt u.mem.mramScrub = none
      ∧ spGet (fun _ => 0) u.mem.ramErr u.mem.ramScrub + (0 : BitVec 3).toNat = 1 ∧ spGet (fun _ => 0) u.mem.mramErr u.mem.mramScrub + (0 : BitVec 3).toNat = 2)
    ∧ (Memory.wf v = true ∧ v.pwr.mode = .run ∧ v.get R.MEM_SCRUB_RAMEN ≠ 0 ∧ v.get R.MEM_SCRUB_MRAMEN ≠ 0 ∧ v.get R.MEM_ERRADDR_VALID = 0
      ∧ v.slotAt v.mem.mramScrub = none ∧ v.mem.ramScrub < 2 ^ 24 ∧ spGet (fun _ => 0) v.mem.ramErr v.mem.ramScrub + (1 : BitVec 3).toNat = 2
      ∧ spGet (fun _ => 0) v.mem.mramErr v.mem.mramScrub + (1 : BitVec 3).toNat = 3)
    ∧ Memory.wf w = true ∧ w.pwr.mode = .run ∧ w.get R.MEM_SCRUB_MRAMEN ≠ 0 ∧ w.slotAt w.mem.mramScrub ≠ none :=
  ⟨onMem live (fun m => { m with ramWb := [0x1FFFFF], mramWb := [0x7FFFF] }), (live.put R.MEM_SCRUB_RAMEN 1).put R.MEM_SCRUB_MRAMEN 1,
    onMem ((live.put R.MEM_SCRUB_RAMEN 1).put R.MEM_SCRUB_MRAMEN 1) (fun m => { m with ramErr := [(m.ramScrub, 1)], mramErr := [(m.mramScrub, 2)] }),
    onMem ((live.put R.MEM_SCRUB_RAMEN 1).put R.MEM_SCRUB_MRAMEN 1) (fun m => { m with ramErr := [(m.ramScrub, 1)], mramErr := [(m.mramScrub, 2)] }),
    onMem (live.put R.MEM_SCRUB_MRAMEN 1) (fun m => { m with mramScrub := 0x10, slots := [{ seq := 0, target := 0x10, data := [5] }] }),
    by decide +kernel⟩

/-- A persist of one word of RAM by strand 0. -/
def aPersist : Persist := { owner := .op 0, target := 0x6FFFF, data := [5], src := some 0x1FFFFF }

theorem witness_PersistEngine : ∃ s s' t u : State, (Memory.wf s = true ∧ s.pwr.mode = .run ∧ s.pwr.entry = none ∧ s.core.esc = none
      ∧ s.mem.persists = aPersist :: [] ∧ aPersist.owner = .op 0 ∧ aPersist.src = some 0x1FFFFF ∧ aPersist.staging = false
      ∧ s.mem.slots.length < 512 ∧ ∀ k < aPersist.data.length, spGet (fun _ => 0) s.mem.ramErr ((0x1FFFFF#24).toNat + k) = 0)
    ∧ (Memory.wf s' = true ∧ s'.pwr.mode = .run ∧ s'.pwr.entry = none ∧ s'.core.esc = none ∧ s'.mem.persists = aPersist :: []
      ∧ s'.mem.slots.length < 512 ∧ 0 < aPersist.data.length ∧ spGet (fun _ => 0) s'.mem.ramErr ((0x1FFFFF#24).toNat + 0) = 2)
    ∧ (∃ p, Memory.wf t = true ∧ t.pwr.mode = .run ∧ t.pwr.entry = none ∧ t.core.esc = none ∧ t.mem.persists = p :: [] ∧ p.owner = .op 0
      ∧ p.staging = true)
    ∧ ∃ z, Memory.wf u = true ∧ u.pwr.mode = .run ∧ u.pwr.entry = none ∧ u.core.esc = none ∧ u.mem.slots = z :: [] ∧ u.mem.persists = []
      ∧ 0 < z.data.length ∧ z.target.toNat + 0 ≠ slotAddr z.seq :=
  ⟨onMem live (fun m => { m with persists := [aPersist] }), onMem live (fun m => { m with persists := [aPersist], ramErr := [(0x1FFFFF, 2)] }),
    onMem live (fun m => { m with persists := [{ aPersist with staging := true }] }),
    onMem live (fun m => { m with slots := [{ seq := 0, target := 0x10, data := [5] }] }), by decide +kernel, by decide +kernel,
    ⟨{ aPersist with staging := true }, by decide +kernel⟩, { seq := 0, target := 0x10, data := [5] }, by decide +kernel⟩

theorem witness_JournalAndWriteOnce : ∃ (s t u : State) (p : Persist), (Memory.wf s = true ∧ s.mem.persists.any Persist.isJournal = false
      ∧ s.pwr.mode = .run ∧ s.get R.MEM_JCTL_PER ≠ 0 ∧ s.get R.MEM_JCTL_PER * 240000 ≤ (s.time.dtime - s.mem.jAt).toNat ∧ s.positions ≠ s.mem.jLast
      ∧ s.mem.persists.any (fun p => match p.owner with | .writeOnce _ => true | _ => false) = false ∧ s.get R.RST_KEYST_KEYSET = 0)
    ∧ (Memory.wf t = true ∧ t.pwr.mode = .run ∧ t.pwr.entry = none ∧ t.mem.persists = [p] ∧ p.owner = .writeOnce 3 ∧ p.staging = true
      ∧ t.mem.persists.any (fun p => match p.owner with | .writeOnce _ => true | _ => false) = true)
    ∧ Memory.wf u = true ∧ u.mem.persists.any Persist.isJournal = false ∧ (u.time.dtime - u.mem.jAt).toNat < u.get R.MEM_JCTL_PER * 240000
      ∧ u.get R.RST_KEYST_KEYSET ≠ 0 :=
  ⟨atTime ((live.put R.MEM_JCTL_PER 1).setReg (RW.POS_CNT 7) 9) 240000,
    onMem live (fun m => { m with persists := [{ aPersist with owner := .writeOnce 3, staging := true }] }),
    atTime ((live.put R.MEM_JCTL_PER 1).put R.RST_KEYST_KEYSET 1) 239999, { aPersist with owner := .writeOnce 3, staging := true }, by decide +kernel⟩

/-! ## Witnesses: registers, ports, carriers and gates -/

def onPwm (s : State) (c : Course) (f : PwmCourse → PwmCourse) : State := s.setPwm c (f (s.pwm c))
def onHb (s : State) (h : HB) (f : HalfBridge → HalfBridge) : State := s.setHb h (f (s.hb h))
def onDom (s : State) (d : Dom) (f : GateDom → GateDom) : State := { s with stage := { s.stage with doms := s.stage.doms.set d (f (s.dom d)) } }

theorem witness_RegisterAccess : ∃ (s t : State) (o p : Op), (Memory.wf s = true ∧ s.pwr.mode = .run ∧ s.pwr.boot = .user
      ∧ s.get R.RST_STRAP_ROLE = 0 ∧ (regRow 0x400010).isSome = true ∧ 0x400010 / 0x1000 = 0x400 ∧ 0x400010 ≠ RW.SYS_CONFLICT
      ∧ accessFault (isSup 0) .store 0x400010 = none ∧ spGet (fun _ => 0) s.now.w1c 0x400010 = 0xFF
      ∧ s.core.ops = [o] ∧ o.stage = .waiting ∧ o.body = .store 0x400010 5 ∧ s.core.esc = none ∧ s.host.op = none ∧ s.dbg.acc = none)
    ∧ Memory.wf t = true ∧ t.pwr.mode = .run ∧ t.pwr.boot = .user ∧ t.get R.RST_STRAP_ROLE = 0 ∧ t.core.ops = [p] ∧ p.stage = .waiting
    ∧ p.body = .load 31 0x401002 ∧ t.core.esc = none ∧ t.host.op = none ∧ t.dbg.acc = none :=
  ⟨{ withOps live [flying 0 (.store 0x400010 5) .waiting] with now := { live.now with w1c := [(0x400010, 0xFF)] } },
    withOps live [flying 0 (.load 31 0x401002) .waiting], flying 0 (.store 0x400010 5) .waiting, flying 0 (.load 31 0x401002) .waiting, by decide +kernel⟩

theorem witness_RegisterAccess_may : ∃ s : State, Memory.wf s = true ∧ s.pwr.mode = .run ∧ s.pwr.boot = .user ∧ s.get R.RST_STRAP_ROLE = 0
    ∧ s.mayWrite .host 0x400010 = true ∧ s.mayWrite (.strand 0) 0x1FFFFF = false :=
  ⟨live, by decide +kernel⟩

/-- The bytes of a write of 0x010203040506 at the last word of RAM. -/
def lastWord : List (BitVec 8) := [0x1F, 0xFF, 0xFF, 1, 2, 3, 4, 5, 6]

theorem witness_HostPort : ∃ s t u v : State, (Memory.wf s = true ∧ s.pwr.mode = .run ∧ s.pwr.boot = .user ∧ s.get R.RST_STRAP_ROLE = 0
      ∧ s.pwr.entry = none ∧ s.host.stream = none ∧ s.get R.HSP_CTL_EVEN = 0 ∧ s.host.op = none ∧ s.host.sel ≠ some false
      ∧ s.get R.HSP_TOKEN_VALID = 0 ∧ region (bytesNat 3 lastWord) = .ram ∧ s.fenceBars (bytesNat 3 lastWord) = false)
    ∧ (Memory.wf t = true ∧ t.pwr.mode = .run ∧ t.pwr.boot = .user ∧ t.get R.RST_STRAP_ROLE = 0 ∧ t.pwr.entry = none ∧ t.host.stream = none
      ∧ t.get R.HSP_CTL_EVEN = 0 ∧ t.host.op = none ∧ t.host.sel ≠ some false ∧ t.get R.HSP_TOKEN_VALID = 1 ∧ t.get R.HSP_TOKEN_TOK = (15#4).toNat
      ∧ region (t.get R.HSP_STW_NEXT) = .ram ∧ t.fenceBars (t.get R.HSP_STW_NEXT) = false)
    ∧ (Memory.wf u = true ∧ u.pwr.mode = .run ∧ u.pwr.boot = .user ∧ u.get R.RST_STRAP_ROLE = 0 ∧ u.pwr.entry = none ∧ u.host.stream = none
      ∧ u.get R.HSP_CTL_EVEN = 0 ∧ u.host.op ≠ none ∧ u.host.sel = none ∧ (u.reg RW.PWR_WAKEEN).getLsbD 8 = false)
    ∧ Memory.wf v = true ∧ v.pwr.mode = .run ∧ v.pwr.boot = .user ∧ v.get R.RST_STRAP_ROLE = 0 ∧ v.pwr.entry = none ∧ v.host.stream = none
      ∧ v.get R.HSP_CTL_EVEN = 0 ∧ region (v.get R.HSP_STW_NEXT) ≠ .ram :=
  ⟨live, ((live.put R.HSP_TOKEN_VALID 1).put R.HSP_TOKEN_TOK 15).put R.HSP_STW_NEXT 0x1FFFFF, { live with host := { live.host with op := some (.rd 5) } },
    live.put R.HSP_STW_NEXT 0x200000, by decide +kernel⟩

theorem witness_HostPort_frames : lastWord.length = 9 ∧ 3 ≤ [0#8, 0, 0].length ∧ [0#8, 0].length < 3 ∧ 4 ≤ [0#8, 0, 0, 15].length
    ∧ ([0#8, 0, 0, 15].getD 3 0).toNat < 16 ∧ 16 ≤ ([0#8, 0, 0, 16].getD 3 0).toNat := by decide

def opened (s : State) : State := s.put R.RST_KEYST_OPEN 1

theorem witness_DebugAndTestPort_debug : ∃ s t u v w : State, (Memory.wf s = true ∧ s.get R.RST_KEYST_OPEN = 1 ∧ (s.strand 0).state = .halted
      ∧ s.get R.DBG_RSEL_STRAND = (0 : StrandId).val ∧ s.get R.DBG_RSEL_INDEX = (31#5).toNat ∧ s.pwr.mode ≠ .off ∧ s.dbg.acc = none
      ∧ s.dbg.trace = [5] ∧ (s.strand 47).state = .waiting ∧ s.stage.begin = 0)
    ∧ (Memory.wf t = true ∧ t.get R.RST_KEYST_OPEN = 1 ∧ t.get R.DBG_RSEL_STRAND = (0 : StrandId).val ∧ (t.strand 0).state = .halted
      ∧ t.get R.DBG_RSEL_INDEX = 36)
    ∧ (Memory.wf u = true ∧ u.get R.RST_KEYST_OPEN = 1 ∧ u.get R.DBG_RSEL_STRAND = (0 : StrandId).val ∧ (u.strand 0).state = .halted
      ∧ u.get R.DBG_RSEL_INDEX = 33)
    ∧ (Memory.wf v = true ∧ v.get R.RST_KEYST_OPEN = 0 ∧ v.pwr.mode ≠ .off ∧ v.dbg.acc = none)
    ∧ Memory.wf w = true ∧ w.get R.RST_KEYST_OPEN = 1 ∧ w.stage.begin.getLsbD (7 : Course).val = true ∧ w.get (R.PWM_STAT_RUN 7) = 0 := by
  let h : State := opened (onStrand (onStrand live 0 (fun y => { y with state := .halted })) 47 (fun y => { y with state := .waiting }))
  exact ⟨{ h with dbg := { h.dbg with trace := [5] } }.put R.DBG_RSEL_INDEX 31, h.put R.DBG_RSEL_INDEX 36, h.put R.DBG_RSEL_INDEX 33, live.put R.RST_KEYST_OPEN 0,
    { opened live with stage := { live.stage with begin := 0x80 } }, by decide +kernel⟩

theorem witness_DebugAndTestPort_test : ∃ s t : State, (s.pwr.mode ≠ .off ∧ s.get R.RST_KEYST_OPEN = 1 ∧ s.get R.DBG_STAT_UFAIL < 3)
    ∧ t.pwr.mode ≠ .off ∧ t.get R.RST_KEYST_OPEN = 0 ∧ 3 ≤ t.get R.DBG_STAT_UFAIL :=
  ⟨(opened live).put R.DBG_STAT_UFAIL 2, (live.put R.RST_KEYST_OPEN 0).put R.DBG_STAT_UFAIL 3, by decide +kernel⟩

/-- Course c runs, the program's, with every event selected, its counter at 100 counts to a period, and the events n due. -/
def carrier (c : Course) (aux auxlen : Nat) (n : BitVec 9) : State :=
  onPwm (((live.put (R.PWM_STAT_RUN c) 1).put (R.ARR c) 2).put (R.PWM_CTL_EVSEL c) 0x3F) c
    (fun x => { x with due := n, act := { x.act with per := 100, cmp := #v[1, 50, 100], aux := aux, auxlen := auxlen } })

theorem witness_CarrierEvents : ∃ (s s' t u v w : State) (c : Course), (Memory.wf s = true ∧ s.pwr.mode = .run ∧ s.get (R.PWM_STAT_RUN c) = 1
      ∧ s.get R.DBG_STAT_MH = 0 ∧ (∀ n : Fin 9, (s.pwm c).due.getLsbD n.val = true) ∧ s.arr c = 2 ∧ s.get R.RSV_SDSTAT_STEP = 0
      ∧ (∀ d : Course, d ≠ c → s.get (R.PWM_SYNC_SEN d) = 0) ∧ (s.pwm c).stopReq = false ∧ s.get (R.PWM_AUXOWN_OWNER c) = 0)
    ∧ (Memory.wf s' = true ∧ s'.pwr.mode = .run ∧ s'.get (R.PWM_STAT_RUN c) = 1
      ∧ s'.get R.DBG_STAT_MH = 0 ∧ (s'.pwm c).due.getLsbD 0 = true ∧ s'.arr c = 2 ∧ s'.get R.RSV_SDSTAT_STEP = 0
      ∧ (∀ d : Course, d ≠ c → s'.get (R.PWM_SYNC_SEN d) = 0) ∧ (s'.pwm c).stopReq = true)
    ∧ (Memory.wf t = true ∧ t.pwr.mode = .run ∧ t.get (R.PWM_STAT_RUN c) = 1 ∧ t.get R.DBG_STAT_MH = 0 ∧ (t.pwm c).due.getLsbD 5 = true
      ∧ t.get (R.PWM_AUXOWN_OWNER c) = 16 + (6 : Course).val ∧ (t.pwm c).act.auxlen ≠ 0)
    ∧ (Memory.wf u = true ∧ u.pwr.mode = .run ∧ u.get (R.PWM_STAT_RUN c) = 1 ∧ u.get R.DBG_STAT_MH = 0 ∧ (u.pwm c).due.getLsbD 5 = true
      ∧ u.get (R.PWM_AUXOWN_OWNER c) = 1 ∧ u.get (R.PWM_SSHUNT_SSEN c) = 0 ∧ u.get R.RST_STRAP_ROLE = 0 ∧ u.get R.FADC_CTL_EN = 1
      ∧ (∀ q ∈ u.fadc.urgent, q.reg ≠ u.time.dtime) ∧ u.fadc.urgent.length + (maskChannels (u.get (R.FADC_UMASK_MASK c))).length ≤ 32)
    ∧ (Memory.wf v = true ∧ v.pwr.mode = .run ∧ v.get (R.PWM_STAT_RUN c) = 1 ∧ v.get R.DBG_STAT_MH = 0 ∧ v.ssDue c true = true
      ∧ v.get R.RST_STRAP_ROLE = 0 ∧ v.get R.FADC_CTL_EN = 1 ∧ (∀ q ∈ v.fadc.urgent, q.reg ≠ v.time.dtime) ∧ v.fadc.urgent.length + 1 ≤ 32)
    ∧ Memory.wf w = true ∧ w.pwr.mode = .run ∧ w.get (R.PWM_STAT_RUN c) = 1 ∧ w.get R.DBG_STAT_MH = 0
      ∧ (∀ n : Fin 9, ¬ (w.pwm c).due.getLsbD n.val = true) := by
  let ss := onPwm ((((carrier 7 100 0 0).put R.FADC_CTL_EN 1).put (R.PWM_SSHUNT_SSEN 7) 1).put (R.PWM_OUT_OUTEN 7) 2) 7
    (fun x => { x with heff := #v[1000, 5000, 9000], presc := 5000 + x.act.dthl + live.get (R.PWM_SSHUNT_TSET 7) })
  exact ⟨carrier 7 100 0 0x1FF, onPwm (carrier 7 100 0 1) 7 (fun x => { x with stopReq := true }), (carrier 7 100 1 0x20).put (R.PWM_AUXOWN_OWNER 7) 22,
    (((carrier 7 100 1 0x20).put (R.PWM_AUXOWN_OWNER 7) 1).put R.FADC_CTL_EN 1).put (R.FADC_UMASK_MASK 7) 0x30001, ss, carrier 7 100 0 0, 7,
    by decide +kernel, by decide +kernel, by decide +kernel, by decide +kernel, by decide +kernel, by decide +kernel⟩

theorem witness_CourseStarts : ∃ s s' t t' u v w : State, (Memory.wf s = true ∧ s.get R.RSV_SDSTAT_STEP = 0 ∧ s.barred (.strand 0) 7 true = false
      ∧ s.get R.DBG_STAT_MH = 0 ∧ s.get (R.PWM_STAT_RUN 7) = 0 ∧ (∀ d : Course, d ≠ 7 → s.get (R.PWM_SYNC_SEN d) = 0)
      ∧ s.get (R.PWM_SYNC_PHASE 7) = s.get (R.PWM_PER_PER 7))
    ∧ (Memory.wf s' = true ∧ s'.get R.RSV_SDSTAT_STEP = 0 ∧ s'.barred (.strand 0) 7 true = false
      ∧ s'.get R.DBG_STAT_MH = 0 ∧ s'.get (R.PWM_STAT_RUN 7) = 0 ∧ (∀ d : Course, d ≠ 7 → s'.get (R.PWM_SYNC_SEN d) = 0)
      ∧ ¬ s'.get (R.PWM_SYNC_PHASE 7) ≤ s'.get (R.PWM_PER_PER 7))
    ∧ (Memory.wf t = true ∧ t.get R.RSV_SDSTAT_STEP = 0 ∧ t.barred (.strand 0) 7 true = false ∧ t.get R.DBG_STAT_MH = 0 ∧ t.get (R.PWM_STAT_RUN 7) = 1)
    ∧ (Memory.wf t' = true ∧ t'.get R.RSV_SDSTAT_STEP = 0 ∧ t'.barred (.strand 0) 7 true = false ∧ t'.get R.DBG_STAT_MH = 1)
    ∧ (Memory.wf u = true ∧ u.get R.RSV_SDSTAT_STEP = 0 ∧ u.barred (.strand 0) 7 true = true)
    ∧ (Memory.wf v = true ∧ v.get R.RSV_SDSTAT_STEP = 0 ∧ (255 : Word).toNat < 2 ^ 8 ∧ (∀ d, v.barred .debug d true = false)
      ∧ (v.time.dtime - BitVec.ofNat 48 (v.get R.PWM_GAT_DT)).toInt < 0)
    ∧ Memory.wf w = true ∧ w.get R.RSV_SDSTAT_STEP = 0 ∧ w.stage.timed = some (BitVec.twoPow 8 (7 : Course).val, 0) ∧ w.get R.DBG_STAT_MH = 0
      ∧ 0 ≤ (w.time.dtime - 0).toInt ∧ w.get (R.PWM_STAT_RUN 7) = 0 ∧ ∀ d : Course, d ≠ 7 → w.get (R.PWM_SYNC_SEN d) = 0 := by
  let a := (live.put (R.ARR 7) 2).put (R.PWM_PER_PER 7) 100
  exact ⟨a.put (R.PWM_SYNC_PHASE 7) 100, a.put (R.PWM_SYNC_PHASE 7) 101, carrier 7 100 0 0, (carrier 7 100 0 0).put R.DBG_STAT_MH 1, live, live.put R.PWM_GAT_DT 1,
    { live with stage := { live.stage with timed := some (0x80, 0) } }, by decide +kernel, by decide +kernel, by decide +kernel, by decide +kernel,
    by decide +kernel, by decide +kernel, by decide +kernel⟩

/-- A commutation that waits. -/
def commutes (take : Nat) (at' : Word) : Commut := { idx := 7, take := take, isSet := false, beat := at' }

theorem witness_Commutation : ∃ s t u u' : State, (Memory.wf s = true ∧ s.barred (.strand 0) 7 true = false ∧ (s.pwm 7).wait = none)
    ∧ (Memory.wf t = true ∧ t.barred (.strand 0) 7 true = true ∧ (t.pwm 7).bemfArmed = false)
    ∧ (Memory.wf u = true ∧ (u.pwm 7).wait = none ∧ (u.pwm 7).bemfArmed = true ∧ (u.pwm 7).bemfLeft = 0 ∧ u.get (R.PWM_MCFG_MSRC 7) = 2
      ∧ u.get R.DBG_STAT_MH = 0)
    ∧ Memory.wf u' = true ∧ (u'.pwm 7).bemfLeft ≠ 0 :=
  ⟨live.put (R.ARR 7) 2, live, onPwm (live.put (R.PWM_MCFG_MSRC 7) 2) 7 (fun x => { x with bemfArmed := true }),
    onPwm live 7 (fun x => { x with bemfArmed := true, bemfLeft := 1 }), by decide +kernel⟩

theorem witness_Commutation_due : ∀ k : Fin 3, ∃ (s : State) (w : Commut), Memory.wf s = true ∧ (s.pwm 7).wait = some w ∧ w.idx < 8
    ∧ 2 ≤ (s.time.dtime - w.beat).toNat ∧ s.get R.DBG_STAT_MH = 0 ∧ w.take = k.val ∧ (w.take = 0 ∨ (w.take = 1 ∧ (s.pwm 7).bndAt = some s.time.dtime)
      ∨ (w.take = 2 ∧ (s.pwm 7).auxAt = some s.time.dtime ∧ (s.pwm 7).due.getLsbD 0 = false)) := by
  intro k
  refine ⟨onPwm { live with time := { live.time with dtime := 2 } } 7 (fun x => { x with wait := some (commutes k.val 0), bndAt := some 2, auxAt := some 2 }),
    commutes k.val 0, ?_⟩
  revert k; decide +kernel

theorem witness_Commutation_replaced : ∃ (s : State) (w : Commut), Memory.wf s = true ∧ s.barred (.strand 0) 7 true = false ∧ (s.pwm 7).wait = some w
    ∧ ¬ 2 ≤ (s.time.dtime - w.beat).toNat ∧ w.beat ≠ s.time.dtime :=
  ⟨onPwm ({ live with time := { live.time with dtime := 1 } }.put (R.ARR 7) 2) 7 (fun x => { x with wait := some (commutes 0 0) }), commutes 0 0, by decide +kernel⟩

theorem witness_Commutation_crossing : ∃ w x : State, (Memory.wf w = true ∧ w.pwr.mode = .run ∧ w.get R.RST_STRAP_ROLE = 0
      ∧ w.get (R.PWM_MCFG_BBLK 7) ≤ (w.time.dtime - (w.pwm 7).lastEdge).toNat
      ∧ w.get (R.PWM_MCFG_MSRC 7) = 2 ∧ (∀ j : Fin 3, (w.pairState 7 j).1 = 0 ↔ j = 1) ∧ w.get R.FADC_CTL_EN = 1
      ∧ (w.get R.FADC_XEN_EN).testBit (hbOf 7 1).val = true ∧ (w.get R.FADC_XEN_EDGE).testBit 1 = true ∧ w.fadc.cross = [])
    ∧ Memory.wf x = true ∧ x.pwr.mode = .run ∧ x.get R.RST_STRAP_ROLE = 0 ∧ (x.time.dtime - (x.pwm 7).lastEdge).toNat < x.get (R.PWM_MCFG_BBLK 7) :=
  ⟨(((((live.put (R.PWM_OUT_OUTEN 7) 2).put (R.PWM_MCFG_MSRC 7) 2).put (R.PWM_MSTAT_MASK 7) 0x11).put R.FADC_CTL_EN 1).put R.FADC_XEN_EN 0xFFFFFF).put
      R.FADC_XEN_EDGE 3, live.put (R.PWM_MCFG_BBLK 7) 1, by decide +kernel⟩

theorem witness_GateRules_rises : ∃ s t : State, (Memory.wf s = true ∧ s.get R.DBG_STAT_MH = 0 ∧ (s.hb 9).dtH = true ∧ (s.hb 9).dtHLeft = 0
      ∧ (s.hb 9).ilL = true ∧ (s.hb 9).guard = true ∧ (s.hb 9).guardLeft = 0)
    ∧ Memory.wf t = true ∧ t.get R.DBG_STAT_MH = 0 ∧ (t.hb 9).dtH = true ∧ (t.hb 9).dtHLeft ≠ 0 ∧ (t.hb 9).guardLeft ≠ 0 :=
  ⟨onHb live 9 (fun y => { y with dtH := true, ilL := true, guard := true }), onHb live 9 (fun y => { y with dtH := true, dtHLeft := 1, guardLeft := 1 }),
    by decide +kernel⟩

theorem witness_GateRules_supplies : ∃ t t' u : State, (Memory.wf t = true ∧ t.get (R.GDRV_DOM_CTL_EN 1) = 1 ∧ t.pwr.mode = .run
      ∧ t.get R.RST_STRAP_ROLE = 0 ∧ t.get (R.GDRV_DOM_STAT_RDY 1) = 0 ∧ (t.dom 1).vglLow = true ∧ (t.dom 1).vcpLow = false)
    ∧ (Memory.wf t' = true ∧ t'.get (R.GDRV_DOM_CTL_EN 1) = 1 ∧ t'.pwr.mode = .run ∧ t'.get R.RST_STRAP_ROLE = 0 ∧ (t'.dom 1).vglLow = false
      ∧ (t'.dom 1).vcpLow = true)
    ∧ Memory.wf u = true ∧ u.get (R.GDRV_DOM_CTL_EN 1) = 1 ∧ (u.dom 1).latched = true ∧ (u.dom 1).vglLow = false ∧ (u.dom 1).vcpLow = false
      ∧ u.get (R.GDRV_DOM_STAT_RDY 1) = 1 :=
  ⟨onDom ((live.put (R.GDRV_DOM_CTL_EN 1) 1).put (R.GDRV_DOM_CTL_ARST 1) 1) 1 (fun y => { y with latched := true, vglLow := true }),
    onDom (live.put (R.GDRV_DOM_CTL_EN 1) 1) 1 (fun y => { y with latched := true, vcpLow := true }),
    onDom ((live.put (R.GDRV_DOM_CTL_EN 1) 1).put (R.GDRV_DOM_STAT_RDY 1) 1) 1 (fun y => { y with latched := true }), by decide +kernel⟩

theorem witness_GateRules_serial : ∃ v v' w : State, (Memory.wf v = true ∧ v.barred .host 1 true = false ∧ (v.pwm 1).tok = some ((0xC00#48).extractLsb' 8 4)
      ∧ (v.pwm 1).tok ≠ some ((0xB00#48).extractLsb' 8 4))
    ∧ (Memory.wf v' = true ∧ v'.barred (.strand 0) 1 true = true)
    ∧ Memory.wf w = true ∧ w.get R.GDRV_SGCFG_SGTO ≠ 0 ∧ w.get (R.PWM_OUT_OUTEN 0) = 2 ∧ w.get R.DBG_STAT_MH = 0 ∧ (w.pwm 0).sgOff = false
      ∧ w.get (R.SRC (hbOf 0 1)) = 2 ∧ 240 * w.get R.GDRV_SGCFG_SGTO ≤ (w.pwm 0).sgAge ∧ w.reaction 0 < 2 ∧ w.dbg.pinsHeld = false
      ∧ (w.hb (hbOf 0 1)).src = 2 :=
  ⟨onPwm (live.put (R.ARR 1) 2) 1 (fun y => { y with tok := some 12 }), live,
    onPwm (onHb (((live.put R.GDRV_SGCFG_SGTO 1).put (R.PWM_OUT_OUTEN 0) 2).put (R.SRC 1) 2) 1 (fun y => { y with src := 2 })) 0
      (fun x => { x with sgAge := 240 }), by decide +kernel⟩

theorem witness_GateRules_faults : ∀ k ∈ [1, 2, 3], ∃ (s : State) (h : HB) (high : Bool) (kind : BitVec 2), Memory.wf s = true
    ∧ s.get R.RST_STRAP_ROLE = 0 ∧ s.get (R.GDRV_HB_CFG_GFT h) ≠ 0 ∧ s.get R.GDRV_GFLT_VALID = 0 ∧ kind.toNat = k
    ∧ s.get (R.GDRV_HB_CFG_GFT h) ≤ (s.time.dtime - (if high then (s.hb h).edgeH else (s.hb h).edgeL)).toNat
    ∧ (let on := if high then (s.hb h).outH else (s.hb h).outL
      let held := if high then (s.hb h).ilH else (s.hb h).ilL
      (kind = 1 ∧ on = true) ∨ (kind = 2 ∧ on = false ∧ held = false) ∨ (kind = 3 ∧ held = true)) := by
  intro k hk
  refine ⟨onHb ({ live with time := { live.time with dtime := 1 } }.put (R.GDRV_HB_CFG_GFT 9) 1) 9 (fun x => { x with outH := k = 1, ilH := k = 3 }),
    9, true, BitVec.ofNat 2 k, ?_⟩
  simp only [List.mem_cons, List.not_mem_nil, or_false] at hk
  rcases hk with rfl | rfl | rfl <;> decide +kernel

theorem witness_ProtectionRules : ∃ s t u u' : State, (Memory.wf s = true ∧ s.pwr.mode = .run ∧ s.get R.RST_STRAP_ROLE = 0
      ∧ s.get (R.PROTC_VDS_VEN (courseOf 9)) = 1 ∧ (s.hb 9).outH = true
      ∧ s.get (R.PROTC_VDS_VBLK (courseOf 9)) + s.get (R.PROTC_VDS_VFILT (courseOf 9)) ≤ (s.time.dtime - (s.hb 9).edgeH).toNat
      ∧ s.blanked (courseOf 9) (R.PROTC_BLK_WVDS (courseOf 9)) (s.get (R.PROTC_VDS_VFILT (courseOf 9))) = false ∧ s.get R.PROT_FREC_VALID = 0)
    ∧ (Memory.wf t = true ∧ t.pwr.mode = .run ∧ t.get R.RST_STRAP_ROLE = 0 ∧ t.get (R.PROTC_OC_OCEN 1) = 1 ∧ t.get (R.PROTC_OC_POS 1) = 1
      ∧ t.get (R.PWM_OUT_OUTEN 1) ≠ 0 ∧ t.get (R.PROTC_OC_OCBLK 1) + t.get (R.PROTC_OC_OCFILT 1) ≤ (t.time.dtime - (t.pwm 1).lastEdge).toNat
      ∧ t.blanked 1 (R.PROTC_BLK_WOC 1) (t.get (R.PROTC_OC_OCFILT 1)) = false ∧ t.get R.PROT_VBAT_OVEN = 1 ∧ t.get R.PROT_VBAT_UVEN = 1)
    ∧ (Memory.wf u = true ∧ u.pwr.mode = .run ∧ u.get R.RST_STRAP_ROLE = 0 ∧ u.get (R.PROTC_BLK_WOC 1) = 1 ∧ (u.pwm 2).win = some 1
      ∧ (u.get (R.PROTC_BLK_WEN 1)).testBit (2 : Course).val = true ∧ (u.pwm 2).winLeft = 0)
    ∧ Memory.wf u' = true ∧ u'.pwr.mode = .run ∧ u'.get R.RST_STRAP_ROLE = 0 ∧ (u'.pwm 2).win = some 1 ∧ (u'.pwm 2).winLeft ≠ 0 := by
  let z : State := { live with time := { live.time with dtime := 2000 } }
  exact ⟨onHb ((z.put (R.PROTC_VDS_VEN 3) 1).put (R.PROTC_BLK_WVDS 3) 0) 9 (fun x => { x with outH := true }),
    (((((z.put (R.PROTC_OC_OCEN 1) 1).put (R.PROTC_OC_POS 1) 1).put (R.PROTC_BLK_WOC 1) 0).put R.PROT_VBAT_OVEN 1).put R.PROT_VBAT_UVEN 1).put
      (R.PWM_OUT_OUTEN 1) 2,
    onPwm ((live.put (R.PROTC_BLK_WOC 1) 1).put (R.PROTC_BLK_WEN 1) 0xFF) 2 (fun x => { x with win := some 1 }),
    onPwm live 2 (fun x => { x with win := some 1, winLeft := 1 }), by decide +kernel⟩

theorem witness_ProtectionRules_clear : ∃ t u : State, (Memory.wf t = true ∧ t.pwr.mode = .run ∧ t.get R.RST_STRAP_ROLE = 0
      ∧ t.barred (.strand 0) 1 false = true ∧ t.barred .debug 1 false = false ∧ (∀ k : Fin 4, t.stage.ntcCond[k] = false)
      ∧ t.get (R.PROT_NTC_EN 2) = 1 ∧ 24000000 ≤ t.stage.ntcAge[(2 : Fin 4)] ∧ t.get (R.PROTC_FSTAT_SRC 1) = 7)
    ∧ Memory.wf u = true ∧ u.pwr.mode = .run ∧ u.get R.RST_STRAP_ROLE = 0 ∧ u.get (R.PROT_NTC_EN 2) = 1 ∧ u.stage.ntcAge[(2 : Fin 4)] < 24000000 := by
  let aged := fun n : Nat => ({ live with stage := { live.stage with ntcAge := Vector.replicate 4 n } } : State).put (R.PROT_NTC_EN 2) 1
  exact ⟨((aged 24000000).put (R.PROTC_FSTAT_SRC 1) 7).put R.RST_KEYST_OPEN 1, aged 23999999, by decide +kernel⟩

/-! ## Witnesses: converters, engines, positions and acquisition -/

/-- The fast converter runs. -/
def fast : State := live.put R.FADC_CTL_EN 1
def onFadc (s : State) (f : Fadc → Fadc) : State := { s with fadc := f s.fadc }
def onIc (s : State) (f : Iconv → Iconv) : State := { s with iconv := f s.iconv }
def onFe (s : State) (n : Engine) (f : Fe → Fe) : State := s.modFe n f
def onPos (s : State) (c : Course) (f : Pos → Pos) : State := s.modPos c f
def onTc (s : State) (n : Fin 16) (f : Tc → Tc) : State := { s with tc := s.tc.set n (f s.tc[n]) }
def onAq (s : State) (n : Engine) (f : Aq → Aq) : State := s.modAq n f
def aConv : Conv := { kind := 1, ch := 3, slot := 0x40, slice := 2 }

/-- One entry waits for every consumer. -/
def filled (s : State) : State := onFadc s (fun f => { f with queue := [{ word := 1, mask := 0x1FF }] })

/-- At device time n, in RUN, in a pair of no other chip, with the converter on. -/
def fastAt (n : Word) (f : Fadc → Fadc) : State := onFadc (atTime fast n) f

theorem witness_FastConverter_slots : ∃ s t u v w : State, (Memory.wf s = true ∧ s.pwr.mode = .run ∧ s.get R.RST_STRAP_ROLE = 0 ∧ s.get R.FADC_CTL_EN = 1
      ∧ (s.time.dtime.toNat + 2) % 4 = 0 ∧ s.fadc.lastSlot ≠ some (s.time.dtime + 2) ∧ s.get R.FADC_SCTL_SRUN = 0
      ∧ s.fadc.urgent = aConv :: [] ∧ aConv.reg ≠ s.time.dtime)
    ∧ (Memory.wf t = true ∧ t.pwr.mode = .run ∧ t.get R.RST_STRAP_ROLE = 0 ∧ t.get R.FADC_CTL_EN = 1
      ∧ (t.time.dtime.toNat + 2) % 4 = 0 ∧ t.fadc.lastSlot ≠ some (t.time.dtime + 2) ∧ t.get R.FADC_SCTL_SRUN = 0 ∧ t.fadc.urgent = []
      ∧ t.fadc.cross = [aConv] ∧ aConv.reg ≠ t.time.dtime)
    ∧ (Memory.wf u = true ∧ u.pwr.mode = .run ∧ u.get R.RST_STRAP_ROLE = 0 ∧ u.get R.FADC_CTL_EN = 1
      ∧ (u.time.dtime.toNat + 2) % 4 = 0 ∧ u.fadc.lastSlot ≠ some (u.time.dtime + 2) ∧ u.fadc.urgent = [] ∧ u.fadc.cross = []
      ∧ u.fadc.restart = none ∧ u.fadc.scan = 0 :: [5] ∧ u.fadc.scanAt ≠ u.time.dtime ∧ u.get R.FADC_SCTL_SRUN = 1)
    ∧ (Memory.wf v = true ∧ v.pwr.mode = .run ∧ v.get R.RST_STRAP_ROLE = 0 ∧ v.get R.FADC_CTL_EN = 1
      ∧ (v.time.dtime.toNat + 2) % 4 = 0 ∧ v.fadc.lastSlot ≠ some (v.time.dtime + 2) ∧ v.fadc.urgent = [] ∧ v.fadc.cross = []
      ∧ v.fadc.restart = none ∧ v.fadc.scan = [])
    ∧ Memory.wf w = true ∧ w.pwr.mode = .run ∧ w.get R.RST_STRAP_ROLE = 0 ∧ w.get R.FADC_CTL_EN = 1 ∧ (w.time.dtime.toNat + 2) % 4 ≠ 0 :=
  ⟨fastAt 2 (fun f => { f with urgent := [aConv] }), fastAt 2 (fun f => { f with cross := [aConv] }),
    (fastAt 2 (fun f => { f with scan := [0, 5] })).put R.FADC_SCTL_SRUN 1, fastAt 2 id, fastAt 3 id, by decide +kernel⟩

theorem witness_FastConverter_results : ∃ s t u v : State, (Memory.wf s = true ∧ s.pwr.mode = .run ∧ s.get R.RST_STRAP_ROLE = 0
      ∧ s.get R.FADC_CTL_EN = 1 ∧ s.fadc.convs = aConv :: [] ∧ 0 ≤ (s.time.dtime - (aConv.slot + 18)).toInt ∧ aConv.ch < 48 ∧ aConv.kind < 3
      ∧ BitVec.ofNat 9 (s.get (R.ROUTE aConv.ch)) &&& s.consumers ≠ 0 ∧ s.fadc.queue.length = 255)
    ∧ (Memory.wf t = true ∧ t.pwr.mode = .run ∧ t.get R.RST_STRAP_ROLE = 0 ∧ t.get R.FADC_CTL_EN = 1 ∧ t.fadc.convs = aConv :: []
      ∧ 0 ≤ (t.time.dtime - (aConv.slot + 18)).toInt ∧ BitVec.ofNat 9 (t.get (R.ROUTE aConv.ch)) &&& t.consumers = 0)
    ∧ (Memory.wf u = true ∧ u.pwr.mode = .run ∧ u.get R.RST_STRAP_ROLE = 0 ∧ u.get R.FADC_CTL_EN = 1 ∧ u.fadc.convs = aConv :: []
      ∧ 0 ≤ (u.time.dtime - (aConv.slot + 18)).toInt ∧ 256 ≤ u.fadc.queue.length)
    ∧ Memory.wf v = true ∧ v.pwr.mode = .run ∧ v.get R.RST_STRAP_ROLE = 0 ∧ v.get R.FADC_CTL_EN = 1 ∧ v.fadc.convs ≠ []
      ∧ ∀ c ∈ v.fadc.convs, (v.time.dtime - (c.slot + 18)).toInt < 0 := by
  let q := fun n : Nat => List.replicate n ({ word := 1, mask := 1 } : QEntry)
  exact ⟨(fastAt 82 (fun f => { f with convs := [aConv], queue := q 255 })).put (R.ROUTE 3) 1,
    (fastAt 82 (fun f => { f with convs := [aConv] })).put (R.ROUTE 3) 0, fastAt 82 (fun f => { f with convs := [aConv], queue := q 256 }),
    fastAt 81 (fun f => { f with convs := [aConv] }), by decide +kernel⟩

theorem witness_FastConverter_others : ∃ s t u v w : State, (Memory.wf s = true ∧ s.pwr.mode = .run ∧ s.get R.RST_STRAP_ROLE = 0 ∧ s.get R.FADC_CTL_EN = 1
      ∧ s.get R.FADC_STAT_SPARE = 4 ∧ s.time.dtime.toNat % 65536 = 0 ∧ s.fadc.rotAt ≠ some s.time.dtime)
    ∧ (Memory.wf t = true ∧ t.pwr.mode = .run ∧ t.get R.RST_STRAP_ROLE = 0 ∧ t.get R.FADC_CTL_EN = 1 ∧ t.get R.FADC_SCTL_SMODE = 1
      ∧ t.get R.FADC_SCTL_SRUN = 0 ∧ t.get R.FADC_SMASK_MASK ≠ 0)
    ∧ (Memory.wf u = true ∧ u.pwr.mode = .run ∧ u.get R.RST_STRAP_ROLE = 0 ∧ u.get R.FADC_CTL_EN = 1 ∧ u.get R.FADC_SCTL_SMODE = 1
      ∧ u.get R.FADC_SCTL_SRUN = 1 ∧ u.fadc.queue = { word := 1, mask := 0x1FF } :: [] ∧ (0x1FF : BitVec 9).getLsbD 0 = true ∧ u.now.missed = [])
    ∧ (Memory.wf v = true ∧ v.pwr.mode = .run ∧ v.get R.RST_STRAP_ROLE = 0 ∧ v.get R.FADC_CTL_EN = 1 ∧ v.get R.FADC_SCTL_SMODE ≠ 1
      ∧ ∀ e ∈ v.fadc.queue, e.mask.getLsbD 0 = false)
    ∧ Memory.wf w = true ∧ w.pwr.mode = .run ∧ w.get R.RST_STRAP_ROLE = 0 ∧ w.get R.FADC_CTL_EN = 1 ∧ w.time.dtime.toNat % 65536 = 65535 :=
  ⟨(fastAt 65536 id).put R.FADC_STAT_SPARE 4, (fast.put R.FADC_SCTL_SMODE 1).put R.FADC_SMASK_MASK 0x30001,
    filled ((fast.put R.FADC_SCTL_SMODE 1).put R.FADC_SCTL_SRUN 1), (onFadc fast (fun f => { f with queue := [{ word := 1, mask := 2 }] })).put
      R.FADC_SCTL_SMODE 0, fastAt 65535 id, by decide +kernel⟩

/-- Both integrating units measure with windows of a length of 5, and every window has run for n beats. -/
def integrating (n : Nat) : State :=
  onIc ((((((live.put R.ICONV_IC0CFG_EN 1).put R.ICONV_IC0CFG_WMODE 0).put R.ICONV_IC0CFG_WLEN 5).put R.ICONV_IC1CFG_EN 1).put R.ICONV_IC1CFG_WMODE 0).put
    R.ICONV_IC1CFG_WLEN 5) (fun x => { x with age := Vector.replicate 3 n, pass := [5, 6] })

def aRes : IcRes := { due := 5, closed := 3, unit := 1, code := 15, res := 0x7FFFF, n := 2 ^ 19 - 1, clip := true, short := true, test := false, ow := 0, last := false }

theorem witness_IntegratingConverter : ∃ s t u v : State, (Memory.wf s = true ∧ s.pwr.mode = .run ∧ s.get R.RST_STRAP_ROLE = 0
      ∧ (∀ k : Fin 3, s.icCloses k 0 5 false = true) ∧ s.iconv.pass = 5 :: [6] ∧ s.get R.ICONV_IC0CFG_EN = 1)
    ∧ (Memory.wf t = true ∧ t.pwr.mode = .run ∧ t.get R.RST_STRAP_ROLE = 0 ∧ ∀ k : Fin 3, t.icCloses k 0 6 false = false)
    ∧ (Memory.wf u = true ∧ u.pwr.mode = .run ∧ u.get R.RST_STRAP_ROLE = 0 ∧ u.iconv.due = [aRes] ∧ 0 ≤ (u.time.dtime - aRes.due).toInt
      ∧ aRes.unit ≠ 2 ∧ aRes.code < 16 ∧ aRes.n < 2 ^ 19)
    ∧ Memory.wf v = true ∧ v.pwr.mode = .run ∧ v.get R.RST_STRAP_ROLE = 0 ∧ v.get R.ICONV_IC1CFG_EN = 1 ∧ v.get R.ICONV_IC1CFG_CONT = 0
      ∧ v.iconv.pass = [] :=
  ⟨integrating 120, integrating 144, onIc (atTime live 5) (fun x => { x with due := [aRes] }), (live.put R.ICONV_IC1CFG_EN 1).put R.ICONV_IC1CFG_CONT 0,
    by decide +kernel⟩

/-- Engine 1 takes scan results of channel 0. -/
def engineOn (dec : Nat) : State := filled (((fast.put (R.FE_CFG_EN 1) 1).put (R.FE_CFG_ICHAN 1) 0).put (R.FE_CFG_DEC 1) dec)

theorem witness_FilterEngines : ∃ (s t u v w : State) (n : Engine), (Memory.wf s = true ∧ s.pwr.mode = .run ∧ s.qFirst (n.val + 1) = some 1
      ∧ s.get (R.FE_CFG_EN n) = 1 ∧ entryMatches 1 (s.get (R.FE_CFG_ICLS n)) (s.get (R.FE_CFG_ICHAN n)) = true ∧ (1 : Word).getLsbD 25 = false
      ∧ s.get (R.FE_BANK_SWPEND n) = 0 ∧ s.get (R.FE_DCFG_DSRC n) = 0 ∧ (s.eng n).dec = s.get (R.FE_CFG_DEC n) ∧ (s.eng n).comp = none
      ∧ (s.eng n).writes.length < 4 ∧ s.get (R.FE_CFG_MODE n) = 0)
    ∧ (Memory.wf t = true ∧ t.pwr.mode = .run ∧ t.qFirst (n.val + 1) = some 1
      ∧ t.get (R.FE_CFG_EN n) = 1 ∧ entryMatches 1 (t.get (R.FE_CFG_ICLS n)) (t.get (R.FE_CFG_ICHAN n)) = true
      ∧ t.get (R.FE_BANK_SWPEND n) = 0 ∧ t.get (R.FE_DCFG_DSRC n) = 0 ∧ (t.eng n).dec ≠ t.get (R.FE_CFG_DEC n))
    ∧ (Memory.wf u = true ∧ u.pwr.mode = .run ∧ u.qFirst (n.val + 1) = some 1
      ∧ u.get (R.FE_CFG_EN n) = 1 ∧ entryMatches 1 (u.get (R.FE_CFG_ICLS n)) (u.get (R.FE_CFG_ICHAN n)) = true
      ∧ u.get (R.FE_BANK_SWPEND n) = 0 ∧ u.get (R.FE_DCFG_DSRC n) = 0 ∧ (u.eng n).dec = u.get (R.FE_CFG_DEC n) ∧ (u.eng n).comp = some (9, true, 1)
      ∧ (u.eng n).writes = [5])
    ∧ (Memory.wf v = true ∧ v.pwr.mode = .run ∧ v.get (R.FE_BANK_LDBUSY n) = 0 ∧ v.get (R.FE_BANK_SWPEND n) = 0)
    ∧ Memory.wf w = true ∧ w.pwr.mode = .run ∧ (w.eng n).copy = some [5, 6] ∧ ∀ k < [5#48, 6].length, let a := w.get (R.FE_BANK_LADDR n) + k
        region a = .ram ∧ spGet (fun _ => 0) w.mem.ramErr a = 0 ∧ w.ramAt a = [5#48, 6].getD k 0 :=
  ⟨engineOn 0, engineOn 1, onFe (engineOn 0) 1 (fun x => { x with comp := some (9, true, 1), writes := [5] }), live,
    onFe (((live.put (R.FE_BANK_LADDR 1) 0x100000).ramSet 0x100000 5).ramSet 0x100001 6) 1 (fun x => { x with copy := some [5, 6] }), 1, by decide +kernel⟩

theorem witness_PositionAndCapture_halls : ∃ s t u v : State, (Memory.wf s = true ∧ s.pwr.mode = .run ∧ s.get R.RST_STRAP_ROLE = 0
      ∧ s.get (R.POS_CFG_EN 6) = 1 ∧ (s.posn 6).cmp = none ∧ s.phaseRv = 0 ∧ (s.posn 6).e2 = none ∧ s.get (R.PWM_MCFG_MSRC 6) ≠ 1
      ∧ sectorOf (3 ^^^ BitVec.ofNat 3 (s.get (R.POS_CFG_HPOL 6))) = some 1 ∧ (s.posn 6).ref = some 5
      ∧ sectorOf (7 ^^^ BitVec.ofNat 3 (s.get (R.POS_CFG_HPOL 6))) = none ∧ s.barred .host 6 false = false
      ∧ (s.posn 6).regBeat = some (s.time.dtime, 2))
    ∧ (Memory.wf t = true ∧ t.barred (.strand 0) 6 false = true ∧ (t.posn 6).regBeat = none)
    ∧ (Memory.wf u = true ∧ u.lpInstant 3 = true ∧ u.reg RW.PWR_WAKEHALL = 0 ∧ (6 : Course).val / 2 = (3 : Dom).val
      ∧ u.get (R.POS_CFG_EN 6) = 1 ∧ (0xC0000 : BitVec 24).extractLsb' (3 * (6 : Course).val) 3 ^^^ BitVec.ofNat 3 (u.get (R.POS_CFG_HPOL 6)) ≠ (u.posn 6).lpPrev
      ∧ sectorOf ((0xC0000 : BitVec 24).extractLsb' (3 * (6 : Course).val) 3 ^^^ BitVec.ofNat 3 (u.get (R.POS_CFG_HPOL 6))) = some 1 ∧ (u.posn 6).ref = some 5)
    ∧ Memory.wf v = true ∧ v.lpInstant 0 = false := by
  let at6 (s : State) : State := onPos ((s.put (R.POS_CFG_EN 6) 1).put (R.ARR 6) 2) 6 (fun p => { p with ref := some 5, regBeat := some (0, 2) })
  exact ⟨at6 live, live, ((at6 sleeping).put R.PWR_HSUP_LPEN 8).put R.PWR_HSUP_HON 1, live, by decide +kernel⟩

/-- Unit 3 captures rising edges of its first source from a mode on, with the edges of this beat kept. -/
def capturing (mode : Nat) (l : List (Fin 16 × Bool × Bool × Nat)) (f : Tc → Tc) : State :=
  let s := ((((live.put (R.TC_CFG_EN 3) 1).put (R.TC_CFG_SEDGE 3) 3).put (R.TC_CFG_PEDGE 3) 3).put (R.TC_CFG_PSRC 3) 9).put (R.TC_CFG_MODE 3) mode
  let s := (s.put R.TIME_STAT_DL0_LOCK 1).put R.TIME_STAT_DL1_LOCK 1
  onTc { s with now := { s.now with edges := l }, time := { s.time with dtime := 9 } } 3 f

theorem witness_PositionAndCapture_edges : ∃ v w x y z : State, (Memory.wf v = true ∧ v.pwr.mode = .run ∧ v.get R.RST_STRAP_ROLE = 0
      ∧ v.get (R.TC_CFG_EN 3) = 1 ∧ (∀ e ∈ v.now.edges, ¬ (e.1 = 3 ∧ e.2.1 = false)))
    ∧ (Memory.wf w = true ∧ w.now.edges = [(3, false, true, (31 : BitVec 5).toNat)] ∧ (w.get (R.TC_CFG_SEDGE 3)).testBit 0 = true ∧ w.get (R.TC_CFG_MODE 3) = 0
      ∧ (w.cap 3).recs.length = 7)
    ∧ (Memory.wf x = true ∧ x.now.edges = [(3, false, true, (31 : BitVec 5).toNat)] ∧ (x.get (R.TC_CFG_SEDGE 3)).testBit 0 = true ∧ x.get (R.TC_CFG_MODE 3) = 0
      ∧ (x.cap 3).recs.length = 8)
    ∧ (Memory.wf y = true ∧ y.now.edges = [(3, false, true, (31 : BitVec 5).toNat)] ∧ (y.get (R.TC_CFG_SEDGE 3)).testBit 0 = true ∧ y.get (R.TC_CFG_MODE 3) = 1
      ∧ y.get (R.TC_CFG_SRC 3) ≠ y.get (R.TC_CFG_PSRC 3))
    ∧ Memory.wf z = true ∧ z.now.edges = [(3, true, true, (31 : BitVec 5).toNat)] ∧ (z.get (R.TC_CFG_PEDGE 3)).testBit 0 = true ∧ z.get (R.TC_CFG_MODE 3) = 1
      ∧ z.get (R.TC_CFG_SRC 3) ≠ z.get (R.TC_CFG_PSRC 3) ∧ (z.stage.dlEdge[tcLine 3] == some z.time.dtime || !z.lineLocked (tcLine 3)) = false
      ∧ (z.cap 3).start = some (5, 1, false) ∧ (5 : Word) ≠ z.time.dtime ∧ (z.cap 3).recs.length < 8 :=
  ⟨capturing 0 [] id, capturing 0 [(3, false, true, 31)] (fun x => { x with recs := List.replicate 7 (1, 2) }),
    capturing 0 [(3, false, true, 31)] (fun x => { x with recs := List.replicate 8 (1, 2) }), capturing 1 [(3, false, true, 31)] id,
    capturing 1 [(3, true, true, 31)] (fun x => { x with start := some (5, 1, false) }), by decide +kernel, by decide +kernel,
    by decide +kernel, by decide +kernel, by decide +kernel⟩

theorem witness_PositionAndCapture_off : ∃ s : State, Memory.wf s = true ∧ s.get (R.TC_CFG_EN 3) = 0 ∧ (s.cap 3).recs.length ≤ 8 := ⟨live, by decide +kernel⟩

/-- Unit 1 takes samples of channel 0 into a ring of eight words. -/
def armed (s : State) : State :=
  onAq (filled (((s.put (R.AQ_CFG_EN 1) 1).put (R.AQ_STAT_STATE 1) 1).put (R.AQ_CFG_ICHAN 1) 0)) 1 (fun q => { q with len := 8, base := 0x100040 })

def aTrig : AqTrig := { num := 2, ofs := 1, cause := 0x10, tdt := 77 }

theorem witness_AcquisitionUnits : ∃ (s t u v w : State) (n : Engine), (let a := s.get (R.AQ_DESC_ADDR n)
      let d := s.ramAt a
      Memory.wf s = true ∧ s.pwr.mode = .run ∧ s.get (R.AQ_CFG_EN n) = 1 ∧ (s.get (R.AQ_STAT_STATE n) = 0 ∨ s.get (R.AQ_STAT_STATE n) = 3)
        ∧ spGet (fun _ => 0) s.mem.ramErr a = 0 ∧ s.get (R.AQ_DEPTH_PRE n) + s.get (R.AQ_DEPTH_POST n) < getBits d 24 16
        ∧ s.fencedBy (0x10 + n.val) (getBits d 0 24) (getBits d 24 16 * (s.get (R.AQ_CFG_MODE n) + 1)) = true)
    ∧ (Memory.wf t = true ∧ t.pwr.mode = .run ∧ t.get (R.AQ_STAT_STATE n) = 1 ∧ t.qFirst (n.val + 5) = some 1 ∧ t.get (R.AQ_CFG_EN n) = 1
      ∧ t.get (R.AQ_CFG_SRC n) = 0 ∧ entryMatches 1 (t.get (R.AQ_CFG_ICLS n)) (t.get (R.AQ_CFG_ICHAN n)) = true ∧ (t.unit n).closing = none
      ∧ t.get (R.AQ_CFG_MODE n) = 0 ∧ (t.unit n).waits.length = 7 ∧ (∀ k < 4, t.get (R.AQ_COND_KIND n k) = 0) ∧ (t.unit n).trig = none ∧ (t.unit n).force = true)
    ∧ (Memory.wf u = true ∧ u.pwr.mode = .run ∧ u.get (R.AQ_STAT_STATE n) = 1 ∧ u.qFirst (n.val + 5) = some 1 ∧ u.get (R.AQ_CFG_EN n) = 1
      ∧ u.get (R.AQ_CFG_SRC n) = 0 ∧ entryMatches 1 (u.get (R.AQ_CFG_ICLS n)) (u.get (R.AQ_CFG_ICHAN n)) = true ∧ (u.unit n).closing = none
      ∧ u.get (R.AQ_CFG_MODE n) = 0 ∧ (u.unit n).waits = (0x100040, 5) :: List.replicate 7 (0x100040, 5))
    ∧ (Memory.wf v = true ∧ v.pwr.mode = .run ∧ v.get (R.AQ_STAT_STATE n) = 2 ∧ (v.unit n).closing = none ∧ (v.unit n).trig = some aTrig)
    ∧ Memory.wf w = true ∧ w.pwr.mode = .run ∧ (w.unit n).closing = some false ∧ (w.unit n).trig = some aTrig ∧ (w.unit n).waits = []
      ∧ w.get (R.AQ_CFG_AUTO n) = 0 :=
  ⟨(((((((live.put (R.AQ_CFG_EN 1) 1).put (R.AQ_DESC_ADDR 1) 0x100000).put (R.AQ_DEPTH_PRE 1) 4).put (R.AQ_DEPTH_POST 1) 4).put (R.MEM_FENCE_BASE 0) 0x4001).put
      (R.MEM_FENCE_LEN 0) 1).put (R.MEM_FENCE_OWNER 0) 0x11).ramSet 0x100000 0x800010100040,
    onAq (armed fast) 1 (fun q => { q with force := true, waits := List.replicate 7 (0x100040, 5) }),
    onAq (armed fast) 1 (fun q => { q with waits := List.replicate 8 (0x100040, 5) }), onAq (live.put (R.AQ_STAT_STATE 1) 2) 1 (fun q => { q with trig := some aTrig }),
    onAq (live.put (R.AQ_STAT_STATE 1) 2) 1 (fun q => { q with closing := some false, trig := some aTrig }), 1, by decide +kernel⟩

theorem witness_AcquisitionUnits_chips : ∃ (x x' y y' : State) (n : Engine), (Memory.wf x = true ∧ x.pwr.mode = .run ∧ x.masterChip = true
      ∧ x.multiChip = true ∧ (x.time.dtime - (x.reg RW.AQ_GARMAT + 1)).toInt < 0 ∧ (x.get R.AQ_FIRESTAT_VALID).testBit (2 : Chip).val = false
      ∧ x.acq.firing = true ∧ 240 ≤ (x.time.dtime - x.acq.fireAt).toNat)
    ∧ (Memory.wf x' = true ∧ x'.pwr.mode = .run ∧ x'.masterChip = true ∧ 0 ≤ (x'.time.dtime - (x'.reg RW.AQ_GARMAT + 1)).toInt)
    ∧ (Memory.wf y = true ∧ y.pwr.mode = .run ∧ y.masterChip = false ∧ y.multiChip = false ∧ y.acq.garm = some y.time.dtime
      ∧ (∀ k : Engine, k ≠ n → y.get (R.AQ_MC_GRP k) = 0) ∧ y.get (R.AQ_MC_GRP n) = 1 ∧ y.get (R.AQ_CFG_EN n) = 1 ∧ y.get (R.AQ_STAT_STATE n) = 0)
    ∧ Memory.wf y' = true ∧ y'.pwr.mode = .run ∧ y'.acq.garm = some y'.time.dtime ∧ (∀ k : Engine, k ≠ n → y'.get (R.AQ_MC_GRP k) = 0)
      ∧ y'.get (R.AQ_MC_GRP n) = 0 ∧ y'.acq.garm ≠ none := by
  let chip := (live.put R.RST_STRAP_ROLE 1).put R.PEER_TWSTAT_STATE 2
  let arm : State := { live with acq := { live.acq with garm := some 0 } }
  exact ⟨atTime (({ chip with acq := { chip.acq with firing := true, fireAt := 260 } } : State).setReg RW.AQ_GARMAT 500) 500, atTime (chip.setReg RW.AQ_GARMAT 500) 501,
    (arm.put (R.AQ_MC_GRP 1) 1).put (R.AQ_CFG_EN 1) 1, arm, 1, by decide +kernel⟩

/-! ## Witnesses: the supervisor, the reserve stack, the flash port and the buses -/

def onSup (s : State) (c : Course) (f : SupCourse → SupCourse) : State := s.modSupc c f

/-- The default section with its course enabled. -/
def secEn : Vector Word 16 := supSecDefault.set 0 (supSecDefault[0] ||| 1)

/-- Course 1 is enabled, and strand 0 holds the operands of a call in w2 and w3. -/
def calling (ra rb : Word) : State := onSup (onStrand live 0 (fun y => (y.wr 2 ra).wr 3 rb)) 1 (fun x => { x with sec := secEn })

/-- What every clause on a call of service n over course c assumes. -/
def mayCall (s : State) (n : BitVec 16) (c : Course) : Prop :=
  Memory.wf s = true ∧ s.arr c = 0 ∧ (s.supc c).take = none ∧ s.get R.RSV_SDSTAT_STEP = 0 ∧ s.calls 0 (fx 1 2 3 n) n.toNat

theorem mayCall_of {s : State} {n : BitVec 16} {c : Course} (h : Memory.wf s = true ∧ s.arr c = 0 ∧ (s.supc c).take = none
    ∧ s.get R.RSV_SDSTAT_STEP = 0) (r : s.canIssue 0 = true ∧ [1, 2, 3].any (s.pendingReg 0) = false ∧ s.shalted 0 = false
    ∧ s.bpMatch 0 0 (s.strand 0).pc.toNat = [] ∧ s.fetchFault 0 = none ∧ s.fetchMiss 0 = false ∧ s.limited 0 = false ∧ s.core.esc = none
    ∧ ∀ o ∈ s.core.ops, o.isCall = false) : mayCall s n c :=
  ⟨h.1, h.2.1, h.2.2.1, h.2.2.2, ⟨⟨r.1, r.2.1, Or.inr ⟨r.2.2.1, r.2.2.2.1⟩, r.2.2.2.2.1, r.2.2.2.2.2.1⟩, r.2.2.2.2.2.2.1, r.2.2.1⟩, rfl, rfl, by decide,
    r.2.2.2.2.2.2.2⟩

def operands (s : State) (ra rb : Nat) : Prop := ((s.strand 0).rd 2).toNat = ra ∧ ((s.strand 0).rd 3).toNat = rb

/-- Course 1 is held with its gate supply ready; strand 0 holds 1 and 1. -/
def callHeld : State := (calling 1 1).put (R.GDRV_DOM_STAT_RDY (domOf 1)) 1

theorem witness_SupervisorServices : (∀ n ∈ [1#16, 0x10, 0x11, 0x12, 0x14, 0x16, 0x17, 0x20, 0x22], mayCall callHeld n 1) ∧ operands callHeld 1 1
    ∧ callHeld.svst 1 = 0 ∧ callHeld.supEn 1 = true ∧ callHeld.anyLatched 1 = false ∧ callHeld.get (R.GDRV_DOM_STAT_RDY (domOf 1)) = 1
    ∧ (callHeld.supc 1).fld 0 6 1 = 0 ∧ ((callHeld.supc 1).word 6).toInt ≤ 1 ∧ 1 ≤ ((callHeld.supc 1).word 7).toInt
    ∧ (1 : Int).natAbs ≤ (callHeld.supc 1).fld 13 24 16 * 2 ^ 24 ∧ (callHeld.supc 1).fld 10 0 24 = 0 :=
  ⟨fun _ _ => mayCall_of (by decide +kernel) (by decide +kernel), by unfold operands; decide +kernel, by decide +kernel⟩

def callMoving : State := (calling 1 77).put (R.SYS_SVST_STATE 1) 2
def callStopped : State := ((calling 1 1).put (R.SYS_SVST_STATE 1) 5).put (R.PWM_OUT_OUTEN 1) 2
def callFaulty : State := ((calling 1 1).put (R.SYS_SVST_STATE 1) 8).put (R.PROTC_FSTAT_SRC 1) 5

theorem witness_SupervisorServices_states : (mayCall callMoving 0x13 1 ∧ operands callMoving 1 77 ∧ callMoving.svst 1 = 2)
    ∧ (mayCall callStopped 0x15 1 ∧ operands callStopped 1 1 ∧ callStopped.svst 1 = 5)
    ∧ mayCall callFaulty 0x18 1 ∧ operands callFaulty 1 1 ∧ callFaulty.svst 1 = 8 ∧ ∀ k : Fin 4, callFaulty.stage.ntcCond[k] = false :=
  ⟨⟨mayCall_of (by decide +kernel) (by decide +kernel), by unfold operands; decide +kernel, by decide +kernel⟩,
    ⟨mayCall_of (by decide +kernel) (by decide +kernel), by unfold operands; decide +kernel, by decide +kernel⟩,
    mayCall_of (by decide +kernel) (by decide +kernel), by unfold operands; decide +kernel, by decide +kernel⟩

def called : State :=
  let s := (((calling 0x20 7).put (R.SYS_SVCALL_SVC 0) 0x20).put (R.SYS_SVCALL_OUTCOME 0) 3).put (R.SYS_SVCALL_TIME 0) 0x123456
  { s with sup := { s.sup with calls := 1 } }

theorem witness_SupervisorServices_others : (mayCall (calling 1 16) 0x20 1 ∧ operands (calling 1 16) 1 16)
    ∧ (mayCall (calling 0xF1 7) 0x21 1 ∧ operands (calling 0xF1 7) ((1 : Course).val + 16 * (15 : Fin 16).val) 7 ∧ (calling 0xF1 7).svst 1 = 0)
    ∧ (mayCall called 3 1 ∧ operands called 0x20 7 ∧ 1 ≤ called.sup.calls ∧ called.get (R.SYS_SVCALL_SVC ((called.sup.calls - 1) % 8)) = 0x20
      ∧ called.get (R.SYS_SVCALL_OUTCOME ((called.sup.calls - 1) % 8)) ≠ 0)
    ∧ (mayCall (calling 1 7) 0x23 1 ∧ (∀ d, (calling 1 7).svst d = 0 ∨ (calling 1 7).svst d = 9) ∧ (calling 1 7).sup.table = 0)
    ∧ mayCall ((calling 1 7).put (R.ARR 1) 2) 2 0 ∧ operands ((calling 1 7).put (R.ARR 1) 2) 1 7 ∧ ((calling 1 7).put (R.ARR 1) 2).arr 1 = 2
      ∧ (((calling 1 7).put (R.ARR 1) 2).supc 1).take = none :=
  ⟨⟨mayCall_of (by decide +kernel) (by decide +kernel), by unfold operands; decide +kernel⟩,
    ⟨mayCall_of (by decide +kernel) (by decide +kernel), by unfold operands; decide +kernel, by decide +kernel⟩,
    ⟨mayCall_of (by decide +kernel) (by decide +kernel), by unfold operands; decide +kernel, by decide +kernel⟩,
    ⟨mayCall_of (by decide +kernel) (by decide +kernel), by decide +kernel, by decide +kernel⟩,
    mayCall_of (by decide +kernel) (by decide +kernel), by unfold operands; decide +kernel, by decide +kernel⟩

/-- Two calls of each of eight strands wait. -/
def sixteen (s : State) : State :=
  withOps s ((List.range 16).map (fun k => { id := k, str := BitVec.toFin (BitVec.ofNat 6 (1 + k % 8)), pc := 0x100000, issue := 0, body := .svc 0 3 0 0, stage := .begun }))

theorem witness_SupervisorServices_busy : let s := sixteen (calling 1 7)
    Memory.wf s = true ∧ s.arr 1 = 0 ∧ (s.supc 1).take = none ∧ s.get R.RSV_SDSTAT_STEP = 0 ∧ s.readyLong 0 [1, 2, 3] ∧ isSup 0 = false
      ∧ 16 ≤ s.svcPending := by
  unfold State.readyLong State.ready; decide +kernel

theorem witness_SupervisorServices_waits : let s := withOps (calling 1 7) [flying 1 (.svc 0 3 0 0) (.ended 0 0 0)]
    Memory.wf s = true ∧ s.arr 1 = 0 ∧ (s.supc 1).take = none ∧ s.get R.RSV_SDSTAT_STEP = 0 ∧ s.readyLong 0 [1, 2, 3] ∧ isSup 0 = false
      ∧ s.svcPending < 16 ∧ s.svcBusy = true := by
  unfold State.readyLong State.ready; decide +kernel

def aMotion : SupMotion := { svc := 0x11, arg := 5, call := { caller := .op 0, num := 0 }, up := true }

/-- Course 1, enabled, in a state and with a motion, n beats after it entered the state. -/
def moving (st : Nat) (m : SupMotion) (n : Word := 0x100000000) : State :=
  onSup (atTime (live.put (R.SYS_SVST_STATE 1) st) n) 1 (fun x => { x with sec := secEn, mot := some m })

/-- The same with its pinch judged and its bins full of profile. -/
def pinching (n : Nat) : State := onSup (moving 2 aMotion) 1 (fun x => { x with
  sec := (secEn.set 0 (secEn[0] ||| 0x100)).set 10 (secEn[10] ||| 0x100), prof := List.replicate 9 7, pinch := n })

def aCall : SupCall := { caller := .op 0, num := 0 }

/-- A call over course 1 waits, judged in the beat before, to give it the arrangement a. -/
def taking (a : Nat) (capo : Nat) : State := onSup (atTime (live.put (R.PWM_OUT_CAPO 1) capo) 1) 1 (fun x => { x with take := some (aCall, a), takeAt := 0 })

theorem witness_SupervisorEvents_changes : (∀ a ∈ [0, 1, 2], ∀ capo ∈ [0, 1], let s := taking a capo
      Memory.wf s = true ∧ (s.supc 1).take = some (aCall, a) ∧ (s.supc 1).takeAt ≠ s.time.dtime
        ∧ (s.get (R.PWM_STAT_RUN 1) = 0 ∨ (s.pwm 1).bndAt = some s.time.dtime) ∧ s.svst 1 ≠ 8 ∧ s.get (R.PWM_OUT_CAPO 1) = capo)
    ∧ (let s := (taking 2 0).put (R.PWM_STAT_RUN 1) 1
      Memory.wf s = true ∧ ¬ ((s.supc 1).takeAt ≠ s.time.dtime ∧ (s.get (R.PWM_STAT_RUN 1) = 0 ∨ (s.pwm 1).bndAt = some s.time.dtime))) := by decide +kernel

theorem witness_SupervisorEvents_times : (∀ n ∈ [9599999, 9600000], let s := onSup (moving 1 aMotion (BitVec.ofNat 48 n)) 1 (fun x => { x with step := 2 })
      Memory.wf s = true ∧ (s.supc 1).step = 2 ∧ (s.supc 1).saving = false ∧ s.svst 1 = 1 ∧ (s.supc 1).mot ≠ none
        ∧ (9600000 ≤ (s.time.dtime - (s.supc 1).since).toNat ↔ n = 9600000))
    ∧ (∀ n ∈ [119999999, 120000000], let s := moving 6 aMotion (BitVec.ofNat 48 n)
      Memory.wf s = true ∧ (s.supc 1).mot = some aMotion ∧ s.svst 1 = 6 ∧ (120000000 ≤ (s.time.dtime - (s.supc 1).since).toNat ↔ n = 120000000))
    ∧ (let s := moving 2 aMotion 0
      Memory.wf s = true ∧ ¬ (s.supc 1).fld 4 16 16 * 240000 ≤ (s.time.dtime - (s.supc 1).since).toNat) := by decide +kernel

theorem witness_SupervisorEvents : (∀ st : Fin 10, let s := moving st.val aMotion
      Memory.wf s = true ∧ (s.supc 1).mot = some aMotion ∧ (s.supc 1).learnOn = false ∧ s.svst 1 = st.val ∧ aMotion.svc = 0x11 ∧ aMotion.cause = 0
        ∧ (s.supc 1).fld 4 16 16 * 240000 ≤ (s.time.dtime - (s.supc 1).since).toNat ∧ 120000000 ≤ (s.time.dtime - (s.supc 1).since).toNat
        ∧ s.get R.RSV_SDSTAT_STEP = 0 ∧ s.supEn 1 = true)
    ∧ (let s := onSup (moving 6 aMotion) 1 (fun x => { x with sec := x.sec.set 4 (x.sec[4] ||| (3 <<< 40)) })
      Memory.wf s = true ∧ (s.supc 1).mot = some aMotion ∧ s.svst 1 = 6 ∧ 120000000 ≤ (s.time.dtime - (s.supc 1).since).toNat
        ∧ aMotion.retries < (s.supc 1).fld 4 40 4 ∧ s.get R.RSV_SDSTAT_STEP = 0 ∧ s.supEn 1 = true)
    ∧ (let m := { aMotion with retries := 15 }
      Memory.wf (moving 6 m) = true ∧ ((moving 6 m).supc 1).mot = some m ∧ (moving 6 m).svst 1 = 6 ∧ ((moving 6 m).supc 1).fld 4 40 4 ≤ m.retries)
    ∧ (let s := moving 2 aMotion
      Memory.wf s = true ∧ s.supHeld 1 = true ∧ s.supEn 1 = true ∧ s.watching = true ∧ (s.supc 1).derAt = none)
    ∧ (let s := onSup { moving 2 aMotion 1 with sup := { (moving 2 aMotion 1).sup with hdr := supHdrDefault } } 1 (fun x => { x with derAt := some 0 })
      Memory.wf s = true ∧ (s.supc 1).derAt = some 0 ∧ (s.time.dtime - 0).toNat < s.hdrFld 3 16 8 * 240000)
    ∧ ∀ n : Fin 2, let s := pinching (9 * n.val)
      let p := (s.reg (RW.POS_CNT 1)).toInt
      Memory.wf s = true ∧ (s.supc 1).mot = some aMotion ∧ s.supHeld 1 = true ∧ s.supEn 1 = true ∧ (s.supc 1).pinchOn = true ∧ (s.supc 1).learnOn = false
        ∧ (aMotion.up = true ↔ (s.supc 1).fld 0 10 1 ≠ 1) ∧ ((s.supc 1).word 8).toInt ≤ p ∧ p ≤ ((s.supc 1).word 9).toInt ∧ s.svst 1 = 2
        ∧ (s.supc 1).overThr ((s.supc 1).binOf p) 0x7FFFFFFFFFFF 0 = true ∧ (s.supc 1).overThr ((s.supc 1).binOf p) (-5) 0 = false
        ∧ ((s.supc 1).pinch + 1 < (s.supc 1).fld 5 16 4 ↔ n = 0) := by decide +kernel

def onRsv (s : State) (f : Reserve → Reserve) : State := { s with rsv := f s.rsv }
def onFlash (s : State) (f : Flash → Flash) : State := { s with flash := f s.flash }
def onNet (s : State) (f : Net → Net) : State := { s with net := f s.net }
def onLedg (s : State) (f : Ledger → Ledger) : State := { s with ledg := f s.ledg }

/-- RESERVE of the shutdown: STEP is n, and the device time is late. -/
def shutting (n : Nat) (f : Reserve → Reserve) : State := onRsv (atTime (live.put R.RSV_SDSTAT_STEP n) 0x100000000000) f

theorem witness_ReserveAndShutdown : ∃ s t u u' v w x : State, (Memory.wf s = true ∧ s.rsv.check = none ∧ s.get R.RSV_CFG_EN = 1
      ∧ s.get R.ICONV_IC1CFG_EN = 1 ∧ s.pwr.mode = .run ∧ s.iconv.pass = [] ∧ s.pwr.boot = .user ∧ s.get R.RSV_SDSTAT_STEP = 0
      ∧ s.get R.RST_STRAP_ROLE = 0 ∧ s.get R.PWR_STAT_VBATUV = 0)
    ∧ (Memory.wf t = true ∧ t.rsv.check = none ∧ t.get R.RSV_CFG_EN = 1 ∧ t.get R.ICONV_IC1CFG_EN = 1 ∧ t.pwr.mode = .run ∧ t.iconv.pass ≠ []
      ∧ t.get R.RSV_SDSTAT_STEP = 1 ∧ t.arr 1 ≠ 2 ∧ t.svst 1 = 3)
    ∧ (∃ c, Memory.wf u = true ∧ u.rsv.check = some c ∧ c.step = .settle 2
      ∧ 0 ≤ (u.time.dtime - (c.since + BitVec.ofNat 48 (u.get R.RSV_OWCFG_OWSET * 240000))).toInt)
    ∧ (∃ c, Memory.wf u' = true ∧ u'.rsv.check = some c ∧ c.step = .settle 2
      ∧ ¬ 0 ≤ (u'.time.dtime - (c.since + BitVec.ofNat 48 (u'.get R.RSV_OWCFG_OWSET * 240000))).toInt)
    ∧ (Memory.wf v = true ∧ v.pwr.mode = .srrHold ∧ v.get R.RST_STRAP_ROLE = 0 ∧ v.get R.PWR_STAT_VBATUV = 0 ∧ v.get R.RSV_SDCFG_S4DOZE = 0)
    ∧ (Memory.wf w = true ∧ w.pwr.mode ≠ .off ∧ w.get R.RST_STRAP_ROLE = 0 ∧ w.get R.PWR_STAT_VBATUV = 1 ∧ w.get R.RSV_SDSTAT_STEP = 2
      ∧ ∀ c, w.running c = false ∧ (w.arr c ≠ 2 → w.svst c ≠ 4))
    ∧ Memory.wf x = true ∧ x.pwr.mode ≠ .off ∧ x.get R.RST_STRAP_ROLE = 0 ∧ x.get R.PWR_STAT_VBATUV = 1 ∧ x.get R.RSV_SDSTAT_STEP = 5 := by
  let on : State := (live.put R.RSV_CFG_EN 1).put R.ICONV_IC1CFG_EN 1
  let settling := fun (s : State) (n : Word) =>
    onRsv (atTime (s.put R.RSV_OWCFG_OWSET 1) n) (fun r => { r with check := some { step := .settle 2, since := 0 } })
  exact ⟨on, (onIc on (fun x => { x with pass := [5] })).put R.RSV_SDSTAT_STEP 1 |>.put (R.SYS_SVST_STATE 1) 3, settling live 240000, settling live 239999,
    onPwr (live.put R.RSV_SDCFG_S4DOZE 0) (fun p => { p with mode := .srrHold }), (shutting 2 id).put R.PWR_STAT_VBATUV 1,
    (shutting 5 id).put R.PWR_STAT_VBATUV 1, by decide +kernel, by decide +kernel, ⟨{ step := .settle 2, since := 0 }, by decide +kernel⟩,
    ⟨{ step := .settle 2, since := 0 }, by decide +kernel⟩, by decide +kernel, by decide +kernel, by decide +kernel⟩

theorem witness_ReserveAndShutdown_parks : ∃ v w x y : State, (Memory.wf v = true ∧ v.get R.RSV_SDSTAT_STEP = 2 ∧ v.running 1 = true
      ∧ 0 ≤ (v.time.dtime - (v.reg RW.RSV_SDTIME + 1 + BitVec.ofNat 48 (v.get R.RSV_SDCFG_S2MAX * 240000))).toInt)
    ∧ (Memory.wf w = true ∧ w.get R.RSV_SDSTAT_STEP = 4 ∧ w.get R.RSV_SDCFG_S5 = 0 ∧ w.pwr.mode = .run ∧ w.rcrsStopped = true
      ∧ 0 ≤ (w.time.dtime - (w.rsv.s4At + BitVec.ofNat 48 (w.get R.RSV_SDCFG_TRSV * 240000000))).toInt)
    ∧ (Memory.wf x = true ∧ x.get R.RSV_SDSTAT_STEP = 4 ∧ x.get R.RSV_SDCFG_S5 = 0 ∧ x.pwr.mode = .run ∧ x.rcrsStopped = false
      ∧ ¬ 0 ≤ (x.time.dtime - (x.rsv.s4At + BitVec.ofNat 48 (x.get R.RSV_SDCFG_TRSV * 240000000))).toInt)
    ∧ Memory.wf y = true ∧ y.get R.RSV_SDSTAT_STEP = 2
      ∧ ¬ 0 ≤ (y.time.dtime - (y.reg RW.RSV_SDTIME + 1 + BitVec.ofNat 48 (y.get R.RSV_SDCFG_S2MAX * 240000))).toInt :=
  ⟨(shutting 2 id).put (R.PWM_STAT_RUN 1) 1, shutting 4 id,
    onRsv ((((shutting 4 id).put (R.PWM_STAT_RUN 1) 1).put R.RSV_SDCFG_RCRS 2).put R.RSV_SDCFG_TRSV 1) (fun r => { r with s4At := 0x100000000000 }),
    (shutting 2 id).setReg RW.RSV_SDTIME 0x100000000000, by decide +kernel⟩

theorem witness_ReserveAndShutdown_connects : ∃ y y' z z' : State, (Memory.wf y = true ∧ y.get R.RSV_SDSTAT_STEP = 4 ∧ y.rsv.connect = true
      ∧ y.rcrsStopped = true ∧ 0 ≤ (y.time.dtime - (y.rsv.movedAt + BitVec.ofNat 48 2400000)).toInt ∧ y.get R.RSV_SDCTL_CONN = 0
      ∧ y.get R.RSV_SDCFG_S4DOZE = 0 ∧ y.rsv.vend = false ∧ ¬ (y.rsv.connect = false))
    ∧ (Memory.wf y' = true ∧ ¬ 0 ≤ (y'.time.dtime - (y'.rsv.movedAt + BitVec.ofNat 48 2400000)).toInt)
    ∧ (Memory.wf z = true ∧ z.get R.RSV_SDSTAT_STEP = 4 ∧ z.rsv.connect = false ∧ z.rsv.connEnd = some 5
      ∧ 0 ≤ (z.time.dtime - (5 + BitVec.ofNat 48 960000)).toInt ∧ z.get R.PWR_STAT_VBATUV = 0)
    ∧ Memory.wf z' = true ∧ z'.get R.RSV_SDSTAT_STEP = 4 ∧ z'.rsv.connect = false ∧ z'.rsv.connEnd = some 0x100000000000
      ∧ ¬ 0 ≤ (z'.time.dtime - (0x100000000000 + BitVec.ofNat 48 960000)).toInt ∧ z'.pwr.mode ≠ .off ∧ z'.get R.RST_STRAP_ROLE = 0
      ∧ z'.get R.PWR_STAT_VBATUV = 1 :=
  ⟨shutting 4 (fun r => { r with connect := true }), shutting 4 (fun r => { r with movedAt := 0x100000000000 }),
    shutting 4 (fun r => { r with connEnd := some 5 }), (shutting 4 (fun r => { r with connEnd := some 0x100000000000 })).put R.PWR_STAT_VBATUV 1,
    by decide +kernel⟩

/-- Strand 0 waits for the last word of a line, which is the next to arrive, since beat 0; a limit of 240 beats; it is beat n. -/
def missing (n : Word) : State :=
  atTime ((onFlash (onStrand live 0 (fun y => { y with xipWait := some (0x80001F, fm 4 1 0) })) (fun f => { f with
    fill := some { next := 0x80001F, last := 0x80001F, stale := false }, misses := [(0, 0x80001F)], missAt := [(0, 0)] })).put R.XSP_XTO_TO 1) n

theorem witness_FlashAndXip_words : (let s := onFlash live (fun f => { f with fill := some { next := 0x800010, last := 0x80001F, stale := false } })
      Memory.wf s = true ∧ s.get R.RST_STRAP_ROLE = 0 ∧ s.flash.fill = some { next := 0x800010, last := 0x80001F, stale := false }
        ∧ s.flash.misses = [] ∧ s.get R.XSP_LOCK_HELD = 0 ∧ s.flash.lockReq = false)
    ∧ (let s := missing 240
      Memory.wf s = true ∧ s.get R.RST_STRAP_ROLE = 0 ∧ s.flash.fill = some { next := 0x80001F, last := 0x80001F, stale := false }
        ∧ s.flash.misses = [(0, 0x80001F)] ∧ (s.strand 0).xipWait = some (0x80001F, fm 4 1 0) ∧ (fm 4 1 0).rt ≠ 0 ∧ (s.strand 0).state = .runnable
        ∧ s.core.esc = none) := by decide +kernel

theorem witness_FlashAndXip_late : (let s := missing 240
      s.get R.XSP_XTO_TO = 1 ∧ s.flash.missAt = [(0, 0)] ∧ decide (240 ≤ (s.time.dtime - 0).toNat) = true)
    ∧ (let s := missing 239
      Memory.wf s = true ∧ s.get R.RST_STRAP_ROLE = 0 ∧ s.get R.XSP_XTO_TO = 1 ∧ s.flash.missAt = [(0, 0)]
        ∧ decide (240 ≤ (s.time.dtime - 0).toNat) = false) := by decide +kernel

theorem witness_FlashAndXip_lock : (let s := onFlash live (fun f => { f with lockReq := true })
      Memory.wf s = true ∧ s.get R.RST_STRAP_ROLE = 0 ∧ s.flash.lockReq = true ∧ s.flash.fill = none ∧ s.now.fillEnd = false)
    ∧ (let s := { onFlash live (fun f => { f with lockReq := true }) with now := { live.now with fillEnd := true } }
      Memory.wf s = true ∧ s.get R.RST_STRAP_ROLE = 0 ∧ s.flash.lockReq = true ∧ s.flash.fill = none ∧ s.now.fillEnd = true)
    ∧ (let s := (live.put R.XSP_LOCK_HELD 1).put R.XSP_STAT_SFBUSY 1
      Memory.wf s = true ∧ s.get R.RST_STRAP_ROLE = 0 ∧ s.get R.XSP_LOCK_HELD = 1 ∧ s.get R.XSP_STAT_SFBUSY = 1)
    ∧ (Memory.wf live = true ∧ live.get R.RST_STRAP_ROLE = 0 ∧ live.get R.XSP_LOCK_HELD = 0) := by decide +kernel

/-- A software frame of two words to the flash, in the last words of the strand RAM. -/
def framing : State :=
  onFlash ((((live.put R.XSP_LOCK_HELD 1).put R.XSP_SFCFG_DIR 1).put R.XSP_SFBUF_BUF 0x1FFFFE).put R.XSP_SFBUF_LEN 12) (fun f => { f with wrote := true })

theorem witness_FlashAndXip_frame : (let s := framing
      Memory.wf s = true ∧ s.get R.RST_STRAP_ROLE = 0 ∧ s.get R.XSP_LOCK_HELD = 1 ∧ s.get R.XSP_STAT_SFBUSY = 0 ∧ s.flash.wrote = true ∧ s.flash.misses = []
        ∧ s.get R.XSP_SFCFG_DIR = 1 ∧ s.get R.XSP_SFCFG_SEL < 0x40 ∧ s.get R.XSP_SFBUF_BUF = 0x1FFFFE ∧ s.get R.XSP_SFBUF_LEN = 12)
    ∧ (∀ k < 2, spGet (fun _ => 0) framing.mem.ramErr (0x1FFFFE + k) = 0)
    ∧ (let s := onFlash (live.put R.XSP_STAT_SFBUSY 1) (fun f => { f with frame := some (false, 0x100005, 4) })
      Memory.wf s = true ∧ s.get R.RST_STRAP_ROLE = 0 ∧ s.flash.frame = some (false, 0x100005, 4) ∧ [1#8, 2, 3, 4].length = 4 ∧ s.flash.lockRel = false)
    := by decide +kernel

/-- Where no fence is on, no address has an owner. -/
theorem no_owner {s : State} (h : ∀ n ∈ List.range 8, s.fenceOn n = false) (a : Nat) : s.fenceOwner a = none := by
  unfold State.fenceOwner
  have : (List.range 8).find? (fun n => s.fenceOn n && decide ((s.fence n).1 ≤ a ∧ a < (s.fence n).1 + (s.fence n).2.1)) = none := by
    rw [List.find?_eq_none]; intro n hn; simp [h n hn]
  simp_all

/-- Buffer 3 holds a message to send. -/
def buffered (sof : Option Word) (w0 : Word) : State :=
  onNet (live.put R.CAN_CTL_MODE 2) (fun n => { n with can := n.can.set 3 (some { desc := [w0, 1, 2], sof := sof }) })

/-- Filter 5 takes the frame's identifier into ring 0, of four slots that end with RAM. -/
def hearing : State := (((((live.put R.CAN_CTL_MODE 2).put (R.CAN_FLT_EN 5) 1).put (R.CAN_FLT_IDE 5) 1).put (R.CAN_FLT_ID 5) 0x12345678).put
  (R.CAN_RXR_BASE 0) (0x200000 - 56)).put (R.CAN_RXR_LEN 0) 4

theorem witness_CanAndLin : ∃ s t t' u v w : State, (Memory.wf s = true ∧ s.get R.RST_STRAP_ROLE = 0 ∧ s.pwr.mode = .run ∧ s.canMode = 2
      ∧ s.get R.CAN_STAT_STATE ≠ 2 ∧ s.canNext = some 3 ∧ s.net.can[(3 : Fin 8)] = some { desc := [0x10005A3C96, 1, 2] }
      ∧ (∀ j : Fin 8, (s.net.can[j]).all (fun y => y.sof.isNone) = true) ∧ ({ desc := [0x10005A3C96, 1, 2] } : CanTx).kind = .txBuffer
      ∧ s.net.engine = [] ∧ s.net.can[(7 : Fin 8)] = none ∧ ∀ k < 12, spGet (fun _ => 0) s.mem.ramErr (s.get R.CAN_WAKETX_DESC + k) = 0)
    ∧ (Memory.wf t = true ∧ t.get R.RST_STRAP_ROLE = 0 ∧ t.pwr.mode = .run ∧ t.canMode = 2
      ∧ t.net.can[(3 : Fin 8)] = some { desc := [0x10005A3C96, 1, 2], sof := some 9 } ∧ getBits (0x10005A3C96 : Word) 41 1 = 0
      ∧ t.net.engine = [] ∧ t.pwr.rvTx = 0)
    ∧ (Memory.wf t' = true ∧ t'.get R.RST_STRAP_ROLE = 0 ∧ t'.pwr.mode = .run ∧ t'.canMode = 2
      ∧ t'.get R.CAN_STAT_STATE ≠ 2 ∧ t'.canNext = some 3 ∧ t'.net.can[(3 : Fin 8)] = some { desc := [0, 0x010000000000], kind := .control }
      ∧ (∀ j : Fin 8, (t'.net.can[j]).all (fun y => y.sof.isNone) = true) ∧ descByte [0, 0x010000000000] 0 = 1)
    ∧ (Memory.wf u = true ∧ u.get R.RST_STRAP_ROLE = 0 ∧ u.pwr.mode = .run ∧ u.canMode = 2 ∧ u.get R.CAN_STAT_STATE = 1 ∧ 248 ≤ u.get R.CAN_STAT_TEC
      ∧ u.get R.CAN_STAT_TEC < 256)
    ∧ (Memory.wf v = true ∧ v.get R.RST_STRAP_ROLE = 0 ∧ v.pwr.mode = .run ∧ v.get R.CAN_STAT_STATE = 2 ∧ v.net.recover = true ∧ v.canMode = 2
      ∧ v.net.can[(7 : Fin 8)] ≠ none)
    ∧ Memory.wf w = true ∧ w.get R.RST_STRAP_ROLE = 0 ∧ w.pwr.mode = .run ∧ 2 ≤ w.canMode ∧ w.get R.CAN_STAT_STATE = 0 ∧ w.get R.CAN_STAT_REC < 128
      ∧ w.get R.CAN_STAT_TEC = 119 :=
  ⟨buffered none 0x10005A3C96, buffered (some 9) 0x10005A3C96,
    onNet (live.put R.CAN_CTL_MODE 2) (fun n => { n with can := n.can.set 3 (some { desc := [0, 0x010000000000], kind := .control }) }), ((live.put R.CAN_CTL_MODE 2).put R.CAN_STAT_STATE 1).put R.CAN_STAT_TEC 250,
    onNet ((live.put R.CAN_CTL_MODE 2).put R.CAN_STAT_STATE 2) (fun n => { n with recover := true, can := n.can.set 7 (some { desc := [1, 2] }) }),
    (live.put R.CAN_CTL_MODE 2).put R.CAN_STAT_TEC 119, by decide +kernel⟩

theorem witness_CanAndLin_received : (Memory.wf hearing = true ∧ hearing.get R.RST_STRAP_ROLE = 0 ∧ hearing.pwr.mode = .run ∧ hearing.canMode = 2
      ∧ hearing.ledgFrame aFrame = false ∧ hearing.pnAccepts aFrame = false)
    ∧ (let hits := fun n : Nat => hearing.get (R.CAN_FLT_EN n) = 1 ∧ (hearing.get (R.CAN_FLT_IDE n) = 1 ↔ aFrame.ide = true)
        ∧ (aFrame.id.toNat ^^^ hearing.get (R.CAN_FLT_ID n)) &&& hearing.get (R.CAN_FMSK_MASK n) = 0
      hits 5 ∧ (∀ j < 5, ¬ hits j) ∧ hearing.get (R.CAN_FLT_RING 5) = (0 : Fin 2).val)
    ∧ hearing.get (R.CAN_RXR_LEN 0) ≠ 0 ∧ 0x100000 ≤ hearing.get (R.CAN_RXR_BASE 0)
    ∧ hearing.get (R.CAN_RXR_BASE 0) + 14 * hearing.get (R.CAN_RXR_LEN 0) ≤ 0x200000 ∧ (∀ a, hearing.fenceOwner a = none)
    ∧ (hearing.get R.CAN_CTL_RXCHK).testBit (0 : Fin 2).val = false :=
  ⟨by decide +kernel, by decide +kernel, by decide +kernel, by decide +kernel, by decide +kernel, no_owner (by decide +kernel), by decide +kernel⟩

theorem witness_CanAndLin_unheard : let s := live.put R.CAN_CTL_MODE 2
    Memory.wf s = true ∧ s.get R.RST_STRAP_ROLE = 0 ∧ s.pwr.mode = .run ∧ s.canMode = 2 ∧ s.ledgFrame aFrame = false ∧ s.pnAccepts aFrame = false
      ∧ ∀ n < 16, s.get (R.CAN_FLT_EN n) ≠ 1 := by decide +kernel

def aLinFrame : LinFrame := { id := 5, len := 2, cks := 1, err := 0, brk := 99, data := [7, 8], own := none }

theorem witness_CanAndLin_lin : (let s := (((live.put R.LIN_CTL_MODE 1).put R.LIN_RXR_BASE 0x100000).put R.LIN_RXR_LEN 4).put R.LIN_IDMASK0_M 0x20
      Memory.wf s = true ∧ s.get R.RST_STRAP_ROLE = 0 ∧ s.pwr.mode = .run ∧ s.linMode ≠ 0 ∧ s.linRecords aLinFrame.id.toNat = true ∧ aLinFrame.own = none
        ∧ aLinFrame.err = 0 ∧ s.get R.LIN_RXR_LEN = 4 ∧ s.get R.LIN_RXR_BASE = 0x100000 ∧ ∀ a, s.fenceOwner a = none)
    ∧ (let s := onLedg (((live.put R.LIN_CTL_MODE 2).put R.LEDG_CFG_EN 1).put R.LEDG_CFG_LRPID 1) (fun l => { l with linOut := [[5, 6]] })
      Memory.wf s = true ∧ s.get R.RST_STRAP_ROLE = 0 ∧ s.pwr.mode = .run ∧ s.linMode = 2 ∧ s.get R.LEDG_CFG_EN = 1
        ∧ (1 : BitVec 6).toNat = s.get R.LEDG_CFG_LRPID ∧ s.ledg.linOut = [[5, 6]])
    ∧ (let s := onNet (live.put R.LIN_CTL_MODE 2) (fun n => { n with lin := n.lin.set 0 (some [0x3F]) })
      Memory.wf s = true ∧ s.get R.RST_STRAP_ROLE = 0 ∧ s.pwr.mode = .run ∧ s.linMode = 2 ∧ s.get R.LEDG_CFG_EN = 0 ∧ s.net.lin[(0 : Fin 4)] = some [0x3F]
        ∧ getBits (0x3F : Word) 0 6 = (0x3F : BitVec 6).toNat) := by
  refine ⟨?_, by decide +kernel, by decide +kernel⟩
  intro s
  exact ⟨by decide +kernel, by decide +kernel, by decide +kernel, by decide +kernel, by decide +kernel, by decide +kernel, by decide +kernel,
    by decide +kernel, by decide +kernel, no_owner (by decide +kernel)⟩

/-! ## Witnesses: the ledger, the twin pair and the cascade -/

def aRequest (id : BitVec 29) (seqHi seqLo : BitVec 8) : RcpRequest := { lin := false, id := id, bytes := [seqHi, seqLo, 0x10, 1, 9, 9], t := 55 }
def anEntry (seq : BitVec 16) (st : BitVec 3) : LEntry := { seq := seq, state := st, cls := 0, op := 0x1001 }

/-- The ledger runs over CAN and is open, with a ring of sixteen records. -/
def ledger : State :=
  onLedg (((((live.put R.LEDG_CFG_EN 1).put R.LEDG_CFG_PFX 0).put R.CAN_CTL_MODE 2).put R.LEDG_RQR_BASE 0x100000).put R.LEDG_RQR_LEN 16) (fun l => { l with open' := true })

@[reducible] def ledgerOn (s : State) : Prop :=
  Memory.wf s = true ∧ s.get R.RST_STRAP_ROLE = 0 ∧ s.pwr.mode = .run ∧ s.pwr.entry = none ∧ s.get R.LEDG_CFG_EN = 1
/-- A request of source 1 that the clauses on requests are about. -/
@[reducible] def heardReq (s : State) (q : RcpRequest) (cls : BitVec 2) : Prop :=
  ledgerOn s ∧ s.canMode = 2 ∧ q.lin = false ∧ 4 ≤ q.bytes.length ∧ s.rcpHead q = some (1, cls) ∧ s.unsync 1 = false ∧ s.get R.PWR_RVSTAT_PHASE = 0

theorem witness_LedgerRules_frames : (ledgerOn ledger ∧ ledger.net.engine = [] ∧ ledger.net.can[ledger.txbuf] = none)
    ∧ (let s := onNet ledger (fun n => { n with can := n.can.set ledger.txbuf (some { kind := .credit, desc := [] }) })
      ledgerOn s ∧ s.net.engine = [] ∧ s.net.can[s.txbuf] ≠ none) := by decide +kernel

theorem witness_LedgerRules_requests : (let s := onLedg ledger (fun l => { l with open' := false })
      heardReq s (aRequest 0x51F 0 1) 2 ∧ s.ledg.open' = false ∧ s.ledg.held.length < 8)
    ∧ (let s := ledger.modOrig 1 (fun x => { x with h := 5, entries := [anEntry 5 3] })
      heardReq s (aRequest 0x51F 0 5) 2 ∧ s.ledg.open' = true ∧ s.lEntry 1 5 = some (anEntry 5 3) ∧ (anEntry 5 3).lin = false
        ∧ (5 - (s.orig 1).h).toInt = 0) := by decide +kernel

theorem witness_LedgerRules_stale : (let s := ledger.modOrig 1 (fun x => { x with h := 5, entries := [anEntry 0xFFE6 3] })
      heardReq s (aRequest 0x51F 0xFF 0xE6) 2 ∧ s.lEntry 1 0xFFE6 = some (anEntry 0xFFE6 3) ∧ (0xFFE6 - (s.orig 1).h).toInt = -31)
    ∧ (let s := ledger.modOrig 1 (fun x => { x with h := 5 })
      heardReq s (aRequest 0x51F 0xFF 0xE5) 2 ∧ s.ledg.open' = true ∧ (0xFFE5 - (s.orig 1).h).toInt = -32) := by decide +kernel

theorem witness_LedgerRules_accepted : (let s := ledger.modOrig 1 (fun x => { x with h := 5 })
      heardReq s (aRequest 0x51F 0 6) 2 ∧ s.ledg.open' = true ∧ (6 - (s.orig 1).h).toInt = 1 ∧ s.get R.RSV_SDSTAT_STEP = 0 ∧ s.lBusy 1 = false
        ∧ (s.orig 1).hold 2 = 0)
    ∧ (let s := ledger.modOrig 1 (fun x => { x with g := Vector.replicate 3 4 })
      heardReq s (aRequest 0x51F 0 1) 2 ∧ s.ledg.open' = true ∧ 0 < (1 - (s.orig 1).h).toInt ∧ s.get R.RSV_SDSTAT_STEP = 0 ∧ s.lBusy 1 = false
        ∧ 0 < (s.orig 1).hold 2 ∧ s.ringFull = false)
    ∧ (heardReq ledger (aRequest 0x1F 0 1) 0 ∧ ledger.ledg.open' = true ∧ 0 < (1 - (ledger.orig 1).h).toInt ∧ ledger.lBusy 1 = false
        ∧ ledger.ringFull = false) := by decide +kernel

theorem witness_LedgerRules_entries : (let s := ledger.modOrig 2 (fun x => { x with entries := [anEntry 3 1] })
      ledgerOn s ∧ s.lEntry 2 (BitVec.ofNat 16 (getBits (0xD00032 : Word) 4 16)) = some (anEntry 3 1) ∧ getBits (0xD00032 : Word) 0 4 = 2
        ∧ (anEntry 3 1).live = true ∧ getBits (0x500032 : Word) 20 2 = 1 ∧ getBits (0x600032 : Word) 20 2 = 2)
    ∧ (let s := ledger.modOrig 2 (fun x => { x with entries := [anEntry 3 3] })
      ledgerOn s ∧ s.lEntry 2 (BitVec.ofNat 16 (getBits (0x32 : Word) 4 16)) = some (anEntry 3 3) ∧ (anEntry 3 3).live = false)
    ∧ (let s := (ledger.modOrig 1 (fun x => { x with owed := Vector.replicate 3 2 })).put R.LEDG_STAT_UNSYNC 2
      ledgerOn s ∧ (s.orig (1 : BitVec 4).toNat).owed.toList.all (· == 0) = false ∧ (s.orig (2 : BitVec 4).toNat).owed.toList.all (· == 0) = true
        ∧ s.unsync 1 = true) := by decide +kernel

/-- A node whose own SYNC frame, sent at beat 77, has the transmit buffer of the ledger. -/
def syncSent : State :=
  onNet ledger (fun n => { n with can := n.can.set ledger.txbuf (some { kind := .beacon, desc := rcpDesc true (ledger.rcpId 2 0xF) [1, 9], sof := some 77, nl := 5 }) })

theorem witness_LedgerRules_beacons : (let s := onLedg ledger (fun l => { l with beacon := some (7, 0, 5) })
      ledgerOn s ∧ s.ledg.beacon = some (7, 0, 5) ∧ s.time.beacons.length < 2 ∧ (s.time.dtime - 0).toNat ≤ 24000000)
    ∧ (ledgerOn ledger ∧ ledger.ledg.beacon = none ∧ ledger.get R.LEDG_TBCFG_MASTER = 0)
    ∧ (let s := ledger.put R.LEDG_TBCFG_MASTER 1
      ledgerOn s ∧ s.get R.LEDG_TBCFG_MASTER = 1 ∧ s.ledg.syncAt = none)
    ∧ (let s := onLedg ((atTime ledger 240005).put R.LEDG_TBCFG_MASTER 1 |>.put R.LEDG_TBCFG_PER 1) (fun l => { l with syncAt := some 5 })
      ledgerOn s ∧ s.get R.LEDG_TBCFG_MASTER = 1 ∧ 0 ≤ (s.time.dtime - (5 + BitVec.ofNat 48 (s.get R.LEDG_TBCFG_PER * 240000))).toInt)
    ∧ (let s := syncSent
      ledgerOn s ∧ s.canMode = 2 ∧ s.net.can[s.txbuf].any (fun x => x.sof = some 77 ∧ x.wupf = false ∧ x.kind = .beacon ∧ descByte x.desc 0 = 1) = true
        ∧ s.net.engine = [] ∧ s.pwr.rvTx = 0 ∧ s.time.beacons.length < 2) := by decide +kernel

def onTwin (s : State) (f : Twin → Twin) : State := { s with twin := f s.twin }
def onLink (s : State) (f : Link → Link) : State := { s with link := f s.link }
/-- The two chips of a pair at beat n. -/
def primary (n : Word) : State := atTime ((live.put R.RST_STRAP_ROLE 1).put R.PEER_TWSTAT_STATE 1) n
def shadow (n : Word) : State := atTime ((live.put R.RST_STRAP_ROLE 2).put R.PEER_TWSTAT_STATE 3) n
def aTwinFrame (n : BitVec 16) : TwinFrame := { seq := n, win := 7, good := true, items := [] }
def anItem (k : BitVec 5) : TwinItem := { kind := k, ofs := 5, data := [0x99], rx := none }
def accepted (s : State) : State := onPwr s (fun p => { p with boot := .accepted, image := some { entry := 0x100000, ecls := 0, policy := 0 } })

/-- A time n beats after beat a has come. -/
@[reducible] def since (s : State) (a : Word) (n : Nat) : Prop := 0 ≤ (s.time.dtime - (a + BitVec.ofNat 48 n)).toInt

theorem witness_TwinRules_windows : (let s := primary 959
      Memory.wf s = true ∧ s.active = true ∧ s.halted = false ∧ ¬ since s s.twin.start (960 * (s.twin.win + 1)))
    ∧ (let s := primary 960
      Memory.wf s = true ∧ s.active = true ∧ s.halted = false ∧ since s s.twin.start (960 * (s.twin.win + 1)))
    ∧ (let s := onTwin (primary 2879) (fun w => { w with held := [aTwinFrame 0] })
      Memory.wf s = true ∧ s.active = true ∧ s.twin.held = [aTwinFrame 0] ∧ 0 ≤ ((aTwinFrame 0).seq - 0).toInt ∧ s.twin.outbox = []
        ∧ s.get R.PEER_TWCFG_DIVPOL ≠ 1 ∧ ¬ since s s.twin.statAt 2880 ∧ s.twin.handover = none)
    ∧ (let s := primary 2880
      Memory.wf s = true ∧ s.active = true ∧ since s s.twin.statAt 2880) := by decide +kernel

theorem witness_TwinRules_handover : (let s := onTwin (primary 4800) (fun w => { w with handover := some 4000 })
      Memory.wf s = true ∧ s.active = true ∧ s.twin.handover = some 4000 ∧ since s 4000 0 ∧ s.core.esc = none
        ∧ s.get (R.PWM_STAT_RUN 0) = 0 ∧ (s.time.dtime - s.twin.start).toNat % 960 = 0)
    ∧ (let s := onPwm (onTwin ((primary 4801).put (R.PWM_STAT_RUN 0) 1) (fun w => { w with handover := some 4000 })) 0 (fun x => { x with bndAt := some 4801 })
      Memory.wf s = true ∧ s.active = true ∧ since s 4000 0 ∧ s.get (R.PWM_STAT_RUN 0) ≠ 0 ∧ (s.pwm 0).bndAt = some s.time.dtime) := by decide +kernel

theorem witness_TwinRules_frames : (let s := shadow 5
      Memory.wf s = true ∧ s.shadowing = true ∧ s.halted = false ∧ s.twin.ended = none ∧ s.twin.handed = none ∧ (aTwinFrame 0).seq = s.twin.seq
        ∧ 0 < ((aTwinFrame 1).seq - s.twin.seq).toInt ∧ ((aTwinFrame 0xFFFF).seq - s.twin.seq).toInt < 0)
    ∧ (let s := onTwin (shadow 5) (fun w => { w with rxq := [(5, anItem 5)] })
      Memory.wf s = true ∧ s.twin.ended = none ∧ s.twin.rxq = [(5, anItem 5)] ∧ since s 5 0 ∧ (anItem 5).kind = 5 ∧ (anItem 5).data = [0x99])
    ∧ (let s := onTwin (shadow 5) (fun w => { w with rxq := [(5, anItem 0xC)] })
      Memory.wf s = true ∧ s.twin.ended = none ∧ s.twin.rxq = [(5, anItem 0xC)] ∧ since s 5 0 ∧ (anItem 0xC).kind = 0xC)
    ∧ (let s := onTwin (shadow 5) (fun w => { w with rxq := [(6, anItem 5)] })
      Memory.wf s = true ∧ s.twin.ended = none ∧ s.twin.rxq = [(6, anItem 5)] ∧ ¬ since s 6 0) := by decide +kernel

/-- When frame n after the last good one is missing (R749). -/
@[reducible] def missed (s : State) : Prop :=
  0 ≤ (s.time.dtime + s.twin.pdt - (s.twin.start + BitVec.ofNat 48 (960 * (s.twin.win + s.twin.miss) + s.get R.PEER_TWCFG_LAG))).toInt

theorem witness_TwinRules_missing : (let s := shadow 0
      Memory.wf s = true ∧ s.shadowing = true ∧ s.twin.ended = none ∧ s.twin.miss < 2 ∧ s.twin.claim = none ∧ s.twin.twfail = none)
    ∧ (let s := onTwin (shadow 0x100000) (fun w => { w with miss := 1 })
      Memory.wf s = true ∧ s.shadowing = true ∧ s.twin.ended = none ∧ missed s ∧ s.twin.miss < 2)
    ∧ (let s := onTwin (shadow 0x100000) (fun w => { w with miss := 2 })
      Memory.wf s = true ∧ s.shadowing = true ∧ s.twin.ended = none ∧ missed s ∧ 2 ≤ s.twin.miss ∧ s.twin.claim = none ∧ s.twin.twfail = none
        ∧ s.get R.TIME_STAT_REFLOST = 0)
    ∧ (let s := onTwin (shadow 0x100000) (fun w => { w with miss := 2, twfail := some 7 })
      Memory.wf s = true ∧ s.shadowing = true ∧ s.twin.ended = none ∧ missed s ∧ 2 ≤ s.twin.miss ∧ s.twin.claim = none ∧ s.twin.twfail ≠ none)
    := by decide +kernel

theorem witness_TwinRules_not_missing : let s := onTwin ((shadow 0).put R.PEER_TWCFG_LAG 960) (fun w => { w with win := 7 })
    Memory.wf s = true ∧ s.shadowing = true ∧ s.twin.ended = none ∧ ¬ missed s := by decide +kernel

/-- A checkpoint is due every 480 beats. -/
def checking (s : State) (v : Option Word) : State :=
  onTwin ((s.put R.PEER_TWCFG_CKSRC 1).put R.PEER_TWCFG_CKPER 2) (fun w => { w with digest := v, fedAt := some 480 })

@[reducible] def checkDue (s : State) : Prop :=
  s.twin.ckAt ≠ s.time.dtime ∧ s.twin.rxq = [] ∧ s.get R.PEER_TWCFG_CKSRC ≠ 0 ∧ since s s.twin.ckAt (s.get R.PEER_TWCFG_CKPER * 240)

theorem witness_TwinRules_checkpoints : (let s := checking (primary 480) none
      Memory.wf s = true ∧ s.active = true ∧ checkDue s)
    ∧ (let s := checking (shadow 480) (some 0xFFFFFFFFFFFF)
      Memory.wf s = true ∧ s.shadowing = true ∧ s.twin.ended = none ∧ checkDue s ∧ s.twin.digest = some s.twin.crc ∧ s.twin.fedAt = some s.time.dtime)
    ∧ (let s := checking (shadow 480) (some 5)
      Memory.wf s = true ∧ s.shadowing = true ∧ s.twin.ended = none ∧ checkDue s ∧ s.twin.digest = some 5 ∧ (5 : Word) ≠ s.twin.crc
        ∧ s.twin.fedAt = some s.time.dtime ∧ s.halted = false)
    ∧ (let s := checking (shadow 479) none
      Memory.wf s = true ∧ s.shadowing = true ∧ s.twin.ended = none ∧ s.twin.rxq = [] ∧ s.get R.PEER_TWCFG_CKSRC ≠ 0
        ∧ ¬ since s s.twin.ckAt (s.get R.PEER_TWCFG_CKPER * 240)) := by decide +kernel

/-- A shadow with no Hall states or frames of its own to take. -/
@[reducible] def mayTake (s : State) : Prop := Memory.wf s = true ∧ s.shadowing = true ∧ s.twin.halls = [] ∧ s.twin.heard = []

theorem witness_TwinRules_claims : (let s := onTwin (shadow 0x4000) (fun w => { w with claim := some (4, 100, 50) })
      let due : Word := 100 + BitVec.ofNat 48 (s.get R.PEER_TWCFG_LAG)
      mayTake s ∧ s.twin.claim = some (4, 100, 50) ∧ 0 ≤ (due - 50).toInt ∧ 0 ≤ (s.time.dtime + s.twin.pdt - due).toInt)
    ∧ (let s := onTwin (shadow 0x4000) (fun w => { w with claim := some (4, 100, 0x7000) })
      let due : Word := 100 + BitVec.ofNat 48 (s.get R.PEER_TWCFG_LAG)
      mayTake s ∧ s.twin.claim = some (4, 100, 0x7000) ∧ (due - 0x7000).toInt < 0 ∧ (s.time.dtime + s.twin.pdt - 0x7000).toInt < 0)
    ∧ (let s := onTwin ((shadow 240050).put R.PEER_TWCFG_PAIRTO 1) (fun w => { w with handed := some 50, twfail := some 4 })
      mayTake s ∧ s.twin.twfail ≠ none ∧ s.twin.handed = some 50 ∧ since s 50 (s.get R.PEER_TWCFG_PAIRTO * 240000))
    ∧ (let s := onTwin ((shadow 240049).put R.PEER_TWCFG_PAIRTO 1) (fun w => { w with handed := some 50 })
      mayTake s ∧ s.twin.handed = some 50 ∧ ¬ since s 50 (s.get R.PEER_TWCFG_PAIRTO * 240000)) := by decide +kernel

/-- A chip with its image accepted, of role r, at beat n. -/
def pairing (r : Nat) (n : Word) : State := atTime (accepted ((live.put R.RST_STRAP_ROLE r).put R.PEER_TWCFG_PAIRTO 1)) n
@[reducible] def pairs (s : State) : Prop :=
  Memory.wf s = true ∧ s.pwr.boot = .accepted ∧ s.get R.PEER_TWSTAT_STATE = 0 ∧ s.pwr.image ≠ none

theorem witness_TwinRules_start : (let s := pairing 1 240000
      pairs s ∧ s.get R.RST_STRAP_ROLE = 1 ∧ since s s.pwr.stepAt (s.get R.PEER_TWCFG_PAIRTO * 240000))
    ∧ (let s := pairing 2 240000
      pairs s ∧ s.get R.RST_STRAP_ROLE = 2 ∧ s.twin.twfail = none ∧ since s s.pwr.stepAt (s.get R.PEER_TWCFG_PAIRTO * 240000)
        ∧ region (0x1FFFFF : BitVec 24).toNat = .ram)
    ∧ (let s := pairing 2 239999
      pairs s ∧ ¬ since s s.pwr.stepAt (s.get R.PEER_TWCFG_PAIRTO * 240000)) := by decide +kernel

/-- Chip p of a cascade with its ports up, at beat n. -/
def chip (p : Nat) (n : Word := 5) : State :=
  atTime (((((live.put R.RST_STRAP_ROLE 3).put R.PEER_CSSTAT_POS p).put R.PEER_CSSTAT_LINKB 1).put R.PEER_CSSTAT_LINKA (if p = 0 then 0 else 1)).put
    R.PEER_CSCFG_CHAINTO 1) n

def aSent : Sent := { port := .peerA, kind := .census, words := [1] }

@[reducible] def chained (s : State) : Prop := Memory.wf s = true ∧ s.get R.RST_STRAP_ROLE = 3 ∧ s.pwr.mode = .run

theorem witness_CascadeRules_lead : (let s := onLink ((chip 0 240000).put R.PEER_CSSTAT_PRES 15) (fun l => { l with realign := true, wakeAlign := true })
      chained s ∧ s.get R.PEER_CSSTAT_POS = 0 ∧ s.pwr.boot = .user ∧ s.link.realign = true ∧ s.link.wakeAlign = true
        ∧ since s s.link.alignAt (s.get R.PEER_CSCFG_CHAINTO * 240000) ∧ (s.get R.PEER_CSSTAT_PRES).testBit (3 : Chip).val = true)
    ∧ (let s := accepted (chip 0 240000)
      chained s ∧ s.get R.PEER_CSSTAT_POS = 0 ∧ s.pwr.boot = .accepted ∧ s.pwr.image ≠ none
        ∧ since s s.pwr.stepAt (s.get R.PEER_CSCFG_CHAINTO * 240000))
    ∧ (let s := accepted (chip 1 239999)
      chained s ∧ s.get R.PEER_CSSTAT_POS ≠ 0 ∧ s.pwr.boot = .accepted ∧ s.pwr.image ≠ none
        ∧ ¬ since s s.pwr.stepAt (s.get R.PEER_CSCFG_CHAINTO * 240000))
    ∧ (let s := chip 0
      chained s ∧ s.get R.PEER_CSSTAT_POS = 0 ∧ s.link.realign = false ∧ s.link.wakeAlign = false ∧ s.pwr.boot = .user) := by decide +kernel

theorem witness_CascadeRules_follower :
    let o := flying 0 (.remote 1 1 0x100000 (some 9)) .begun
    let s := onLink (withOps (chip 3) [o]) (fun l => { l with lastA := some (aSent, false), lastB := some (aSent, true) })
    chained s ∧ s.get R.PEER_CSSTAT_POS ≠ 0 ∧ s.pwr.boot = .user ∧ s.get R.PEER_CSSTAT_LINKA = 1 ∧ s.link.lastA = some (aSent, false)
      ∧ s.link.lastB = some (aSent, true) ∧ s.get R.PEER_CSCFG_LOSSACT = 0 ∧ s.core.ops = [o] ∧ o.body = .remote 1 1 0x100000 (some 9)
      ∧ o.stage = .begun ∧ (1 : Chip).val ≤ s.get R.PEER_CSSTAT_POS := by decide +kernel

theorem witness_CascadeRules_served : (let s := onLink (chip 3) (fun l => { l with served := Vector.replicate 4 (some 5) })
      chained s ∧ s.repeated 0 5 = true ∧ s.repeated 0 6 = false ∧ s.get R.PEER_CSSTAT_POS ≠ (0 : Chip).val ∧ s.portUp (0 : Chip).val = true
        ∧ s.portServed = true ∧ (0x417014 : BitVec 24).toNat = RW.PEER_CSMB (0 : Chip).val ∧ region (0x100000 : BitVec 24).toNat ≠ .periph)
    := by decide +kernel

def calledFrom (n : Nat) (r : Option (BitVec 4 × Option Word)) : State := let s := (chip 2).put R.PEER_RSVCST_BUSY n
  { s with sup := { s.sup with rsvc := r } }

theorem witness_CascadeRules_calls : (let s := calledFrom 1 none
      chained s ∧ s.get R.PEER_CSSTAT_POS ≠ 0 ∧ s.rsvcTok ≠ some (getBits (0x2020 : Word) 12 4) ∧ s.get R.PEER_RSVCST_BUSY = 1 ∧ s.sup.rsvc = none)
    ∧ (let s := calledFrom 1 (some (1, some 5))
      chained s ∧ s.get R.PEER_RSVCST_BUSY = 1 ∧ s.sup.rsvc = some (1, some 5))
    ∧ (let s := ((calledFrom 0 none).setReg RW.PEER_RSVCA 7).setReg RW.PEER_RSVCB 15
      chained s ∧ s.get R.PEER_CSSTAT_POS ≠ 0 ∧ s.rsvcTok ≠ some (getBits (0x2020 : Word) 12 4) ∧ s.get R.PEER_RSVCST_BUSY = 0 ∧ s.pwr.boot = .user
        ∧ s.svcPending < 16 ∧ getBits (0x2020 : Word) 0 12 = 0x20 ∧ (s.reg RW.PEER_RSVCA).toNat = (7 : Course).val ∧ (s.reg RW.PEER_RSVCB).toNat < 16)
    ∧ (let s := sixteen (calledFrom 0 none)
      chained s ∧ s.get R.PEER_CSSTAT_POS ≠ 0 ∧ s.rsvcTok ≠ some (getBits (0x2020 : Word) 12 4) ∧ s.get R.PEER_RSVCST_BUSY = 0 ∧ s.pwr.boot = .user
        ∧ 16 ≤ s.svcPending) := by decide +kernel

/-! ## Words of Ibben-48, field by field from the tables of spec/07, spec/08 and spec/09 -/

/-- A word of format A with every flag field 0 (R249). -/
def wordA (op : BitVec 6) (fn : BitVec 11) : Word := op ++ 5#5 ++ 6#5 ++ 7#5 ++ fn ++ 0#1 ++ 0#1 ++ 0#1 ++ 0#1 ++ 0#2 ++ 0#10
/-- A word of format X (R249). -/
def wordX (op xfn : BitVec 6) (imm : BitVec 16) : Word := op ++ 5#5 ++ 6#5 ++ 7#5 ++ xfn ++ 0#5 ++ imm
def fieldsA : FmtA := { rd := 5, ra := 6, rb := 7, f := false, s := false, u := false, ac := false, am := 0, imm := 0 }
def fieldsX (n : BitVec 16) : FmtX := { rd := 5, ra := 6, rb := 7, rsv := 0, imm := n }

theorem test_decode_integer : decodeIbben 9 0 (wordA 0x01 0x001) = some (.sub 9 fieldsA) ∧ decodeIbben 9 0 (wordA 0x01 0x007) = some (.max 9 fieldsA)
    ∧ decodeIbben 9 0 (wordA 0x01 0x008) = none := by decide
theorem test_decode_logic_shift : decodeIbben 9 0 (wordA 0x02 0x005) = some (.xnor 9 fieldsA) ∧ decodeIbben 9 0 (wordA 0x03 0x004) = some (.asrr 9 fieldsA)
    ∧ decodeIbben 9 0 (wordA 0x04 0x003) = some (.clz 9 0 fieldsA) := by decide
theorem test_decode_flags_of_format_A : decodeIbben 9 0 (0x01#6 ++ 5#5 ++ 6#5 ++ 7#5 ++ 0#11 ++ 1#1 ++ 0#1 ++ 1#1 ++ 0#1 ++ 2#2 ++ 3#10) =
    some (.add 9 { fieldsA with f := true, u := true, am := 2, imm := 3 }) := by decide
theorem test_decode_immediate : decodeIbben 9 0 (0x0E#6 ++ 5#5 ++ 6#5 ++ 1#1 ++ 0#1 ++ 1#1 ++ 0x1FFFFFFE#29) =
    some (.rsbi 9 { rd := 5, ra := 6, f := true, s := false, u := true, imm := 0x1FFFFFFE }) ∧ decodeIbben 9 0 (0x0F#6 ++ 0#42) = none := by decide
theorem test_decode_accumulate : decodeIbben 9 0 (wordA 0x10 0x001) = some (.mulh 9 fieldsA) ∧ decodeIbben 9 0 (wordA 0x11 0x002) = some (.msu 9 fieldsA)
    ∧ decodeIbben 9 0 (wordA 0x12 0x003) = some (.mta 9 fieldsA) ∧ decodeIbben 9 0 (wordA 0x13 0x001) = some (.cvq47 9 fieldsA) := by decide
theorem test_decode_constant : decodeIbben 9 0 (0x14#6 ++ 5#5 ++ 2#2 ++ 0#11 ++ 0x800001#24) = some (.li 9 { rd := 5, p := 2, rsv := 0, imm := 0x800001 }) := by
  decide
theorem test_decode_memory : decodeIbben 9 0 (0x19#6 ++ 5#5 ++ 6#5 ++ 1#3 ++ 7#5 ++ 0xFFFFFE#24) =
    some (.st 9 { rt := 5, ra := 6, mode := 1, ri := 7, disp := 0xFFFFFE }) ∧ decodeIbben 9 0 (0x1B#6 ++ 0#42) = none := by decide
theorem test_decode_branch : decodeIbben 9 0 (0x20#6 ++ 3#4 ++ 31#5 ++ 0#9 ++ 0xFFFFFD#24) = some (.b 9 { cond := 3, rl := 31, rsv := 0, off := 0xFFFFFD })
    ∧ decodeIbben 9 0 (wordA 0x24 0x003) = some (.sel 9 fieldsA) ∧ decodeIbben 9 0 (wordA 0x24 0x013) = some (.stset 9 fieldsA) := by decide
theorem test_decode_long : decodeIbben 9 0 (wordX 0x28 0x05 0) = some (.divq47 9 (fieldsX 0)) ∧ decodeIbben 9 0 (wordX 0x28 0x06 0) = none
    ∧ decodeIbben 9 0 (wordX 0x29 0x01 0) = some (.polar 9 (fieldsX 0)) ∧ decodeIbben 9 0 (wordX 0x2A 0x05 4) = some (.amcas 9 (fieldsX 4))
    ∧ decodeIbben 9 0 (wordX 0x2C 0x01 2) = some (.rst 9 (fieldsX 2)) ∧ decodeIbben 9 0 (wordX 0x2D 0x00 1) = some (.nsend 9 (fieldsX 1)) := by decide
theorem test_decode_system : decodeIbben 9 0 (wordX 0x2E 0x00 47) = some (.sig 9 (fieldsX 47)) ∧ decodeIbben 9 0 (wordX 0x2F 0x00 0x100) =
    some (.spawn 9 (fieldsX 0x100)) ∧ decodeIbben 9 0 (wordX 0x30 0x00 0x011) = some (.moveTo 9 (fieldsX 0x011)) ∧ decodeIbben 9 0 (0x38#6 ++ 0#42) = none := by
  decide

/-! ## Commands that the hardware cannot meet -/

theorem wf_refuses_brownout_of_nothing : (Instr.brownout 0).wellFormed = false := by decide
theorem wf_refuses_gate_fault_of_no_kind : (Instr.gateFault 0 true 0).wellFormed = false := by decide
theorem wf_refuses_window_of_no_clock : (Instr.icWindowClose 0 5 0 false).wellFormed = false := by decide
theorem wf_refuses_end_of_motion_by_fault : (Instr.motionEnd 0 3).wellFormed = false := by decide
theorem wf_refuses_fetch_fault_cause : (Instr.fetchFault 0 6).wellFormed = false ∧ (Instr.fetchFault 0 1).wellFormed = false := by decide
theorem wf_refuses_assigned_word_as_illegal : (Instr.illegalInstruction 0 0x206000000005).wellFormed = false := by decide
theorem wf_refuses_service_with_another_number : (Instr.moveTo 0 (fx 1 2 3 0x012)).wellFormed = false := by decide
theorem wf_refuses_every_service_of_number_0 : let x := fx 1 2 3 0
    [Instr.takeCourse 0 x, .giveCourse 0 x, .queryState 0 x, .tuneMotor 0 x, .moveTo 0 x, .moveVel 0 x, .stopMotion 0 x, .holdCapo 0 x, .releaseHold 0 x,
      .profclr 0 x, .limitCurrent 0 x, .clearFault 0 x 0, .parget 0 x, .parset 0 x, .mrecget 0 x, .polreload 0 x].all (fun c => !c.wellFormed) = true := by decide
theorem wf_refuses_frame_without_its_payload : (Instr.canFrameValid { aFrame with data := [1] }).wellFormed = false := by decide
theorem wf_refuses_remote_fd_frame : (Instr.canSelectiveWakeFrame (some { aFrame with fdf := true, rtr := true })).wellFormed = false := by decide
theorem wf_refuses_short_lin_frame : (Instr.linFrameReceived { aLinFrame with data := [1] }).wellFormed = false := by decide
theorem wf_refuses_long_lin_request : (Instr.rcpRequest { lin := true, id := 0, bytes := List.replicate 9 0, t := 0 }).wellFormed = false := by decide
theorem wf_refuses_source_13 : (Instr.creditReturn 13 0 0 0).wellFormed = false ∧ (Instr.creditResync 13 0).wellFormed = false
    ∧ (Instr.creditGrant 13).wellFormed = false := by decide
theorem wf_refuses_loss_of_the_lead : (Instr.lossReport 0).wellFormed = false := by decide
theorem wf_refuses_item_of_no_kind : (Instr.journalFrame { aTwinFrame 0 with items := [{ kind := 15, ofs := 0, data := [], rx := none }] }).wellFormed = false
    ∧ (Instr.journalFrame { aTwinFrame 0 with items := [{ kind := 1, ofs := 960, data := [], rx := none }] }).wellFormed = false := by decide

/-! ## Single steps, with results computed by hand from the rules -/

/-- Strand 0 with three words in w1, w2 and w3. -/
def with3 (a b c : Word) : State := onStrand live 0 (fun y => ((y.wr 1 a).wr 2 b).wr 3 c)

/-- R245 with S 1: 2^47 − 1 + 1 saturates; R264 with S 0: it wraps. -/
theorem test_add_saturates : ends (exec (.add 0 { fa 1 2 3 with s := true }) (with3 0 0x7FFFFFFFFFFF 1)) (fun t => (t.strand 0).rd 1 == 0x7FFFFFFFFFFF) = true
    ∧ ends (exec (.add 0 (fa 1 2 3)) (with3 0 0x7FFFFFFFFFFF 1)) (fun t => (t.strand 0).rd 1 == 0x800000000000 && (t.strand 0).st.v) = true := by decide +kernel
/-- R234, R264: C after a subtraction is the borrow. -/
theorem test_sub_borrows : ends (exec (.sub 0 (fa 1 2 3)) (with3 0 1 2)) (fun t => (t.strand 0).rd 1 == 0xFFFFFFFFFFFF && (t.strand 0).st.c && (t.strand 0).st.n)
    = true := by decide +kernel
/-- R229: w0 reads as zero and a write to it is discarded. -/
theorem test_add_to_w0 : ends (exec (.add 0 (fa 0 2 3)) (with3 0 1 2)) (fun t => (t.strand 0).rd 0 == 0 && (t.strand 0).pc == 0x100001) = true := by decide +kernel
/-- R254, MODE 0b011: the store goes to ra − 1, and ra takes that address. -/
theorem test_store_predecrement : ends (exec (.st 0 { fm 1 2 0 with mode := 3 }) (with3 77 0x100008 0)) (fun t =>
    t.ramAt 0x100007 == 77 && (t.strand 0).rd 2 == 0x100007) = true := by decide +kernel
/-- R270: no bit of zero is one. -/
theorem test_clz_of_zero : ends (exec (.clz 0 0 (fa 1 2 0)) (with3 5 0 0)) (fun t => (t.strand 0).rd 1 == 48) = true := by decide +kernel
/-- R246, R268: a count above 47 shifts every bit out. -/
theorem test_shr_by_48 : ends (exec (.shr 0 (fa 1 2 3)) (with3 5 0xFFFFFFFFFFFF 48)) (fun t => (t.strand 0).rd 1 == 0) = true := by decide +kernel
/-- R252: a branch not taken still writes its link. -/
theorem test_branch_links : ends (exec (.b 0 { cond := 1, rl := 31, rsv := 0, off := 5 }) live) (fun t =>
    (t.strand 0).rd 31 == 0x100001 && (t.strand 0).pc == 0x100001) = true := by decide +kernel
/-- R134: power-on begins a POR, and RST_HIST shows it. -/
theorem test_power_on : ends (exec .powerOn State.reset) (fun t => t.pwr.mode != .off) = true := by decide +kernel
/-- R105: VBATUV is shown, and the shutdown parks at once (R608). -/
theorem test_vbatuv : ends (exec .vbatuvSet live) (fun t => t.get R.PWR_STAT_VBATUV == 1 && t.get R.RSV_SDSTAT_STEP == 1) = true := by decide +kernel
/-- R522: ADD adds the written value modulo 2^48. -/
theorem test_pos_add : ends (exec (.posAdd .debug 6 0xFFFFFFFFFFFF) live) (fun t => t.reg (RW.POS_CNT 6) == 0xFFFFFFFFFFFF) = true := by decide +kernel
/-- R460: a queue entry leaves with its last consumer. -/
theorem test_qpop : ends (exec (.qpop .host) (onFadc fast (fun f => { f with queue := [{ word := 7, mask := 1 }] }))) (fun t => t.fadc.queue.isEmpty) = true := by
  decide +kernel
/-- An idle block of a chip that is off does nothing but count its always-on periods. -/
theorem test_idle : ends (step State.reset) (fun t => t.pending.isEmpty && t.mram == State.reset.mram) = true := by decide +kernel

/-- The CMAC example of one block of NIST SP 800-38B. -/
theorem test_cmac_one_block :
    cmacBytes 0x2b7e151628aed2a6abf7158809cf4f3c#128 (msgBytes 16 0x6bc1bee22e409f96e93d7e117393172a)
      = 0x070a16b46b4d4144f79bdd9dd04a287c#128 := by decide +kernel
end Sys2Proof.Tests
end

section
/-!
PROOFS. Network time (spec/02): what each command of network time does, and the obligation O31.
-/
namespace Sys2Proof.Machine

/-! ## Register words -/

/-- In going from s to u, register words of the list l may have changed, and neither the time unit nor what is sent has. -/
structure State.ShowsOnly (l : List Nat) (s u : State) : Prop where
  time : u.time = s.time
  sent : u.sent = s.sent
  regs : s.regsBut u l
  wf : regsWf u

namespace State.ShowsOnly

variable {l : List Nat} {s u : State}

theorem refl (h : regsWf s) : State.ShowsOnly l s s := ⟨rfl, rfl, fun _ _ => rfl, h⟩

theorem put (h : State.ShowsOnly l s u) (f : Fld) (v : Nat) (hf : f.addr ∈ l) : State.ShowsOnly l s (u.put f v) where
  time := h.time
  sent := h.sent
  regs a ha := (State.reg_put_ne u f v (fun hat => ha (by rw [hat]; exact hf))).trans (h.regs a ha)
  wf := State.regsWf_put h.wf f v

end State.ShowsOnly

/-- A counting field counts up to its greatest value. -/
theorem State.get_bump_same {s : State} (hs : regsWf s) (f : Fld) (k : Nat) (hf : f.lo + f.len ≤ 48) :
    (s.bump f k).get f = min (s.get f + k) (2 ^ f.len - 1) := by
  have hp := Nat.two_pow_pos f.len
  rw [State.bump, State.get_put_same hs f _ hf, satAdd, Nat.mod_eq_of_lt (by omega)]

/-! ## Beacon samples (R86, R90, R91) -/

/-- The time unit after a sample: an error of 1 ms or more is stepped (R91), a lesser one slewed (R90). -/
def Time.sampled (t : Time) (tm : BitVec 64) (d : Word) (nl : BitVec 64) : Time :=
  let u := { t with tmPrev := tm, dPrev := d, ageBeacon := 0, uncBase := some 0, uncGrow := 0, remark := true }
  if 65536000 ≤ (tm - nl).toInt.natAbs then
    { u with ntStep := some (t.ntStep.getD 0 + (tm - nl).toInt * 2 ^ 24), slew := 0, prevValid := false }
  else { u with slew := (tm - nl).toInt * 2 ^ 24, prevValid := true }

/-- A sample leaves device time, network time and the epoch alone in its beat, and dates itself (R89, R91). -/
theorem Time.sampled_frame (t : Time) (tm : BitVec 64) (d : Word) (nl : BitVec 64) :
    (t.sampled tm d nl).ageBeacon = 0 ∧ (t.sampled tm d nl).tmPrev = tm ∧ (t.sampled tm d nl).dPrev = d
      ∧ (t.sampled tm d nl).beacons = t.beacons ∧ (t.sampled tm d nl).dtime = t.dtime ∧ (t.sampled tm d nl).nt = t.nt
      ∧ (t.sampled tm d nl).epoch = t.epoch := by
  unfold Time.sampled
  dsimp only
  split <;> exact ⟨rfl, rfl, rfl, rfl, rfl, rfl, rfl⟩

theorem Time.sampled_step (t : Time) {tm nl : BitVec 64} (d : Word) (h : 65536000 ≤ |(tm - nl).toInt|) :
    (t.sampled tm d nl).ntStep = some (t.ntStep.getD 0 + (tm - nl).toInt * 2 ^ 24) ∧ (t.sampled tm d nl).slew = 0 := by
  unfold Time.sampled
  rw [if_pos (by rw [Int.abs_eq_natAbs] at h; omega)]
  exact ⟨rfl, rfl⟩

theorem Time.sampled_slew (t : Time) {tm nl : BitVec 64} (d : Word) (h : |(tm - nl).toInt| < 65536000) :
    (t.sampled tm d nl).ntStep = t.ntStep ∧ (t.sampled tm d nl).slew = (tm - nl).toInt * 2 ^ 24 := by
  unfold Time.sampled
  rw [if_neg (by rw [Int.abs_eq_natAbs] at h; omega)]
  exact ⟨rfl, rfl⟩

/-- The state in which a sample finds the rate: an expiry in its beat has not cleared it (spec/02 At the edges). -/
def State.rateNoted (s : State) : State := s.now.rate.elim s (s.put R.TIME_RATE_R)

/-- The rate that two samples observe, filtered and limited (R90). -/
def State.rateFrom (s : State) (tm : BitVec 64) (dd : Nat) : Int × Bool :=
  let robs := ((tm - s.time.tmPrev).toInt * 240 * 2 ^ 16).tdiv dd - 2 ^ 32
  clampInt (s.rate + (robs - s.rate).fdiv 8) (-858993) 858993

/-- The rate correction of a slewed sample that follows a slewed one by 10 ms to 10 s (R90). -/
def State.rateCorrected (s : State) (tm : BitVec 64) (d : Word) : State :=
  let dd := (d - s.time.dPrev).toNat
  if s.time.prevValid ∧ 2400000 ≤ dd ∧ dd ≤ 2400000000 then
    (s.put R.TIME_RATE_R (BitVec.ofInt 24 (s.rateFrom tm dd).1).toNat).when (s.rateFrom tm dd).2 (·.put R.TIME_STAT_RATE_LIM 1)
  else s

/-- A stepped sample takes no rate correction (R91). -/
theorem State.processBeacon_step {s : State} {tm nl : BitVec 64} (h : 65536000 ≤ (tm - nl).toInt.natAbs) (d : Word) :
    s.processBeacon tm d nl = (s.rateNoted.modTime (·.sampled tm d nl)).put R.TIME_STAT_NT_STATE ntLocked := by
  unfold State.processBeacon State.rateNoted Time.sampled
  cases s.now.rate <;> simp only [if_pos h] <;> rfl

/-- A slewed sample takes the rate correction of R90. -/
theorem State.processBeacon_slew {s : State} {tm nl : BitVec 64} (h : ¬ 65536000 ≤ (tm - nl).toInt.natAbs) (d : Word) :
    s.processBeacon tm d nl = ((s.rateNoted.rateCorrected tm d).modTime (·.sampled tm d nl)).put R.TIME_STAT_NT_STATE ntLocked := by
  unfold State.processBeacon State.rateNoted Time.sampled
  cases s.now.rate <;> simp only [if_neg h] <;> rfl

theorem State.rateNoted_shows {s : State} (hs : regsWf s) : State.ShowsOnly [RW.TIME_STAT, RW.TIME_RATE] s s.rateNoted := by
  unfold State.rateNoted
  cases s.now.rate with
  | none => exact .refl hs
  | some r => exact (State.ShowsOnly.refl hs).put _ r (by decide)

theorem State.rateCorrected_shows {s u : State} (h : State.ShowsOnly [RW.TIME_STAT, RW.TIME_RATE] s u) (tm : BitVec 64) (d : Word) :
    State.ShowsOnly [RW.TIME_STAT, RW.TIME_RATE] s (u.rateCorrected tm d) := by
  unfold State.rateCorrected
  dsimp only
  split
  · have rated := h.put R.TIME_RATE_R (BitVec.ofInt 24 (u.rateFrom tm (d - u.time.dPrev).toNat).1).toNat (by decide)
    exact State.when_cases (rated.put R.TIME_STAT_RATE_LIM 1 (by decide)) rated
  · exact h

/-- A sample corrects the rate at most, changes the time unit as R90 and R91 have it, and leads to LOCKED. -/
theorem State.processBeacon_sampled {s : State} (hs : regsWf s) (tm : BitVec 64) (d : Word) (nl : BitVec 64) :
    ∃ u, State.ShowsOnly [RW.TIME_STAT, RW.TIME_RATE] s u
      ∧ s.processBeacon tm d nl = (u.modTime (·.sampled tm d nl)).put R.TIME_STAT_NT_STATE ntLocked := by
  by_cases h : 65536000 ≤ (tm - nl).toInt.natAbs
  · exact ⟨_, State.rateNoted_shows hs, State.processBeacon_step h d⟩
  · exact ⟨_, State.rateCorrected_shows (State.rateNoted_shows hs) tm d, State.processBeacon_slew h d⟩

/-! ## Advance and state of network time (R85, R86, R88) -/

/-- With nothing to slew a beat advances network time by the nominal advance at the rate correction (R85). -/
theorem State.advanceBy_unslewed (s : State) : advanceBy s.rate (slewRate 0) = 4581298449 * (2 ^ 32 + s.rate) / 2 ^ 32 := by
  unfold advanceBy nom
  rw [Int.fdiv_eq_ediv_of_nonneg _ (by decide), show slewRate 0 = 0 from rfl, Int.add_zero]

theorem State.ntBeat_nt {s : State} (h : s.time.slew = 0) : s.ntBeat.time.nt = s.time.nt + BitVec.ofInt 88
    (4581298449 * (2 ^ 32 + s.rate) / 2 ^ 32 + s.time.ntStep.getD 0) := by
  rw [← State.advanceBy_unslewed]
  show s.time.nt + BitVec.ofInt 88 (advanceBy s.rate (slewRate s.time.slew) + s.time.ntStep.getD 0) = _
  rw [h]

/-- An epoch begins with each step (R91). -/
theorem State.ntBeat_epoch (s : State) :
    s.ntBeat.time.epoch = if s.time.ntStep = none then s.time.epoch else s.time.epoch + 1 := by
  show (if s.time.ntStep.isSome then s.time.epoch + 1 else s.time.epoch) = _
  cases s.time.ntStep <;> rfl

theorem State.enterNt_time (s : State) (k : Nat) :
    (s.enterNt k).time = { s.time with uncBase := s.uncert, uncGrow := 0, ageState := 0, remark := true } := by
  unfold State.enterNt
  exact State.when_cases (p := fun t => t.time = _) rfl rfl

/-- Entering HOLDOVER keeps the rate (R88). -/
theorem State.enterNt_holdover {s : State} (hs : regsWf s) :
    (s.enterNt ntHoldover).get R.TIME_STAT_NT_STATE = 1 ∧ (s.enterNt ntHoldover).get R.TIME_RATE_R = s.get R.TIME_RATE_R := by
  have hw : ∀ f, regsWf (s.modTime f) := fun _ => hs
  exact ⟨State.get_put_same (hw _) _ _ (by decide), State.get_put_ne (hw _) _ _ _ (by unfold Fld.apart; decide)⟩

/-- Entering FREE clears the rate (R88). -/
theorem State.enterNt_free {s : State} (hs : regsWf s) :
    (s.enterNt ntFree).get R.TIME_STAT_NT_STATE = 0 ∧ (s.enterNt ntFree).get R.TIME_RATE_R = 0 := by
  have hw : ∀ f, regsWf ((s.modTime f).put R.TIME_STAT_NT_STATE ntFree) := fun _ => State.regsWf_put hs _ _
  refine ⟨(State.get_put_ne (hw _) R.TIME_RATE_R _ 0 (by unfold Fld.apart; decide)).trans ?_, State.get_put_same (hw _) _ _ (by decide)⟩
  exact State.get_put_same (s := s.modTime _) hs _ _ (by decide)

theorem State.btoOver_iff (s : State) : s.btoOver = true ↔ s.get R.TIME_STAT_NT_STATE = 2 ∧ 240000 * s.get R.TIME_NTLIM_BTO ≤ s.time.ageBeacon := by
  unfold State.btoOver State.btoBeats ntLocked
  simp

theorem State.holdOver_iff (s : State) :
    s.holdOver = true ↔ s.get R.TIME_STAT_NT_STATE = 1 ∧ 240000000 * s.get R.TIME_NTLIM_HOLD ≤ s.time.ageState := by
  unfold State.holdOver State.holdBeats ntHoldover
  simp

/-! ## Latches of a read (R96) -/

/-- The reader's own copy is the one just latched. -/
theorem State.ntCopy_latchNt (s : State) (m : Master) : (s.latchNt m).ntCopy m =
    (Word.ofN (s.ntFrac + s.get R.TIME_STAT_NT_STATE * 2 ^ 16 + s.time.epoch.toNat * 2 ^ 18), Word.ofN s.uncWord) := by
  simp [State.ntCopy, State.latchNt]

/-- Every other reader keeps its copy. -/
theorem State.ntCopy_latchNt_ne (s : State) {m m' : Master} (h : readerOf m' ≠ readerOf m) : (s.latchNt m).ntCopy m' = s.ntCopy m' := by
  have kept : ∀ l : List (Nat × Word × Word), (l.filter (fun p => p.1 != readerOf m)).find? (fun p => p.1 == readerOf m')
      = l.find? (fun p => p.1 == readerOf m') := by
    intro l
    rw [List.find?_filter]
    congr 1
    funext p
    by_cases e : p.1 = readerOf m' <;> simp [e, h]
  simp [State.ntCopy, State.latchNt, h.symm, kept]

/-! ## TPULSE (R98 to R101) -/

/-- In RUN a boundary that is due finds TPULSE high, and is counted, or low, and raises it where TP_EN is 1. -/
theorem State.tpBoundary_due {s : State} (hd : s.time.tpDue = true) (hr : s.pwr.mode = .run) :
    s.tpBoundary = if s.time.tpHigh then (s.modTime (fun t => { t with tpDue := false })).bump R.TIME_CNT_TPSKIP
      else (s.modTime (fun t => { t with tpDue := false })).when (s.on R.TIME_NTCTL_TP_EN)
        (·.modTime (fun t => { t with tpHigh := true, tpLeft := tpHighTime (s.get R.TIME_STAT_NT_STATE) })) := by
  have hw : s.watching = true := by simp [State.watching, hr]
  unfold State.tpBoundary
  rw [if_pos (by simp [hd, hw])]

theorem tpHighTime_eq : ∀ k, tpHighTime k = match k with | 2 => 240000 | 1 => 480000 | _ => 720000
  | 0 | 1 | 2 | _ + 3 => rfl

/-! ## What each command does -/

theorem exec_beaconSample_none {s : State} (h : s.time.beacons = []) : exec (.beaconSample none) s = .next s := by
  show execBeaconSample none s = _
  unfold execBeaconSample
  rw [h]

/-- On a chip of no cascade the oldest waiting sample is processed and goes nowhere else. -/
theorem exec_beaconSample_cons {s : State} {tm nl : BitVec 64} {d : Word} {rest : List (BitVec 64 × Word × BitVec 64)}
    (h : s.time.beacons = (tm, d, nl) :: rest) (hr : s.get R.RST_STRAP_ROLE ≠ 3) :
    exec (.beaconSample none) s = .next ((s.modTime (fun t => { t with beacons := rest })).processBeacon tm d nl) := by
  have hc : s.cascade = false := decide_eq_false hr
  show execBeaconSample none s = _
  unfold execBeaconSample
  rw [h]
  simp [hc]

theorem exec_beaconTimeout (s : State) : exec .beaconTimeout s = .next (s.when s.btoOver (·.enterNt ntHoldover)) := rfl

theorem exec_holdoverExpiry (s : State) : exec .holdoverExpiry s = .next s.holdEnd := rfl

theorem exec_ntimeRead (m : Master) (s : State) : exec (.ntimeRead m) s = .next (s.latchNt m) := rfl

theorem exec_tpulseBoundary (s : State) : exec .tpulseBoundary s = .next s.tpBoundary := rfl

theorem exec_tpulseEnd (s : State) : exec .tpulseEnd s =
    .next (s.when (s.time.tpHigh && s.time.tpLeft == 0) (·.modTime (fun t => { t with tpHigh := false }))) := rfl

/-- A sample leads to LOCKED; a large error is stepped at the end of the beat and a small one slewed (R86, R90, R91). -/
theorem exec_beaconSample_locks {s : State} (hs : regsWf s) {tm nl : BitVec 64} {d : Word} {rest : List (BitVec 64 × Word × BitVec 64)}
    (h : s.time.beacons = (tm, d, nl) :: rest) (hr : s.get R.RST_STRAP_ROLE ≠ 3) :
    ∃ t, exec (.beaconSample none) s = .next t ∧ t.get R.TIME_STAT_NT_STATE = 2 ∧ t.sent = s.sent
      ∧ t.time = ({ s.time with beacons := rest } : Time).sampled tm d nl ∧ s.regsBut t [RW.TIME_STAT, RW.TIME_RATE] := by
  obtain ⟨u, hu, e⟩ := State.processBeacon_sampled (s := s.modTime (fun t => { t with beacons := rest })) hs tm d nl
  have hw : regsWf (u.modTime (·.sampled tm d nl)) := hu.wf
  refine ⟨_, exec_beaconSample_cons h hr, ?_, ?_, ?_, ?_⟩ <;> rw [e]
  · exact State.get_put_same hw _ _ (by decide)
  · exact hu.sent
  · rw [State.put_time, State.modTime_time, hu.time, State.modTime_time]
  · exact fun a ha => (State.reg_put_ne _ _ _ (fun hat => ha (by simp [hat]))).trans (hu.regs a ha)

/-- BTO milliseconds without a sample end LOCKED (R86, R88). -/
theorem exec_beaconTimeout_over {s : State} (hs : regsWf s) (h : s.btoOver = true) : ∃ t, exec .beaconTimeout s = .next t
    ∧ t.get R.TIME_STAT_NT_STATE = 1 ∧ t.get R.TIME_RATE_R = s.get R.TIME_RATE_R ∧ t.time.ageState = 0 ∧ t.time.nt = s.time.nt := by
  refine ⟨s.enterNt ntHoldover, ?_, (State.enterNt_holdover hs).1, (State.enterNt_holdover hs).2, ?_, ?_⟩
  · rw [exec_beaconTimeout, h, State.when_true]
  · rw [State.enterNt_time]
  · rw [State.enterNt_time]

theorem exec_beaconTimeout_early {s : State} (h : s.time.ageBeacon < 240000 * s.get R.TIME_NTLIM_BTO) : exec .beaconTimeout s = .next s := by
  have hb : s.btoOver = false := Bool.eq_false_iff.2 (fun e => absurd ((State.btoOver_iff s).1 e).2 (by omega))
  rw [exec_beaconTimeout, hb, State.when_false]

/-- HOLD seconds of HOLDOVER end it (R86, R88). -/
theorem exec_holdoverExpiry_over {s : State} (hs : regsWf s) (h : s.holdOver = true) : ∃ t, exec .holdoverExpiry s = .next t
    ∧ t.get R.TIME_STAT_NT_STATE = 0 ∧ t.get R.TIME_RATE_R = 0 ∧ t.time.ageState = 0 ∧ t.time.nt = s.time.nt := by
  refine ⟨_, exec_holdoverExpiry s, ?_⟩
  rw [State.holdEnd, h, State.when_true]
  refine ⟨(State.enterNt_free hs).1, (State.enterNt_free hs).2, ?_, ?_⟩
  · show (s.enterNt ntFree).time.ageState = 0
    rw [State.enterNt_time]
  · show (s.enterNt ntFree).time.nt = s.time.nt
    rw [State.enterNt_time]

theorem exec_holdoverExpiry_early {s : State} (h : s.time.ageState < 240000000 * s.get R.TIME_NTLIM_HOLD) :
    exec .holdoverExpiry s = .next s := by
  have hb : s.holdOver = false := Bool.eq_false_iff.2 (fun e => absurd ((State.holdOver_iff s).1 e).2 (by omega))
  rw [exec_holdoverExpiry, State.holdEnd, hb, State.when_false]

/-- TPULSE rises at a boundary for the time of R99. -/
theorem exec_tpulseBoundary_rise {s : State} (hd : s.time.tpDue = true) (hr : s.pwr.mode = .run) (hl : s.time.tpHigh = false)
    (he : s.get R.TIME_NTCTL_TP_EN ≠ 0) : exec .tpulseBoundary s = .next { s with time := { s.time with
      tpDue := false, tpHigh := true, tpLeft := tpHighTime (s.get R.TIME_STAT_NT_STATE) } } := by
  have hon : s.on R.TIME_NTCTL_TP_EN = true := bne_iff_ne.2 he
  rw [exec_tpulseBoundary, State.tpBoundary_due hd hr, if_neg (by simp [hl]), hon]
  rfl

theorem exec_tpulseBoundary_disabled {s : State} (hd : s.time.tpDue = true) (hr : s.pwr.mode = .run) (hl : s.time.tpHigh = false)
    (he : s.get R.TIME_NTCTL_TP_EN = 0) : exec .tpulseBoundary s = .next { s with time := { s.time with tpDue := false } } := by
  have hoff : s.on R.TIME_NTCTL_TP_EN = false := by unfold State.on; rw [he]; rfl
  rw [exec_tpulseBoundary, State.tpBoundary_due hd hr, if_neg (by simp [hl]), hoff]
  rfl

/-- A boundary reached while TPULSE is high produces no pulse and is counted (R100). -/
theorem exec_tpulseBoundary_skip {s : State} (hs : regsWf s) (hd : s.time.tpDue = true) (hr : s.pwr.mode = .run)
    (hh : s.time.tpHigh = true) : ∃ t, exec .tpulseBoundary s = .next t ∧ t.time = { s.time with tpDue := false }
      ∧ t.get R.TIME_CNT_TPSKIP = min (s.get R.TIME_CNT_TPSKIP + 1) (2 ^ R.TIME_CNT_TPSKIP.len - 1) := by
  refine ⟨_, exec_tpulseBoundary s, ?_⟩
  rw [State.tpBoundary_due hd hr, if_pos hh]
  exact ⟨rfl, State.get_bump_same (s := s.modTime _) hs _ _ (by decide)⟩

theorem exec_tpulseBoundary_none {s : State} (h : s.time.tpDue = false) : exec .tpulseBoundary s = .next s := by
  rw [exec_tpulseBoundary, State.tpBoundary, h]
  rfl

theorem exec_tpulseEnd_due {s : State} (hh : s.time.tpHigh = true) (h : s.time.tpLeft = 0) :
    exec .tpulseEnd s = .next { s with time := { s.time with tpHigh := false } } := by
  rw [exec_tpulseEnd, hh, h]
  rfl

theorem exec_tpulseEnd_early {s : State} (h : s.time.tpLeft ≠ 0) : exec .tpulseEnd s = .next s := by
  have hb : (s.time.tpHigh && s.time.tpLeft == 0) = false := by simp [h]
  rw [exec_tpulseEnd, hb, State.when_false]

/-- Settles O31: each clause is the lemma above about its command or about the beat. -/
theorem networkTime : Obligations.NetworkTime := by
  unfold Obligations.NetworkTime
  intro s hwf
  have hs : regsWf s := ((Memory.wf_iff s).1 hwf).1
  refine ⟨?samples, exec_beaconSample_none, ?beat, ?timeout, ?expiry, ?read, ?boundary, exec_tpulseBoundary_none, ?fall⟩
  case samples =>
    intro tm d nl rest hb hr
    obtain ⟨t, hexec, hlock, hsent, htime, hregs⟩ := exec_beaconSample_locks hs hb hr
    obtain ⟨hage, htm, hd, hrest, hdt, hnt, hep⟩ := Time.sampled_frame { s.time with beacons := rest } tm d nl
    refine ⟨t, hexec, hlock, ?_⟩
    rw [htime]
    exact ⟨hage, htm, hd, hrest, hsent, hdt, hnt, hep, hregs, Time.sampled_step _ d, Time.sampled_slew _ d⟩
  case beat => exact fun h => ⟨State.ntBeat_nt h, State.ntBeat_epoch s⟩
  case timeout =>
    exact fun hn => ⟨fun h => exec_beaconTimeout_over hs ((State.btoOver_iff s).2 ⟨hn, h⟩), exec_beaconTimeout_early⟩
  case expiry =>
    exact fun hn => ⟨fun h => exec_holdoverExpiry_over hs ((State.holdOver_iff s).2 ⟨hn, h⟩), exec_holdoverExpiry_early⟩
  case read =>
    intro m
    have hcopy := State.ntCopy_latchNt s m
    exact ⟨_, exec_ntimeRead m s, rfl, congrArg Prod.snd hcopy, congrArg Prod.fst hcopy, fun _ => State.ntCopy_latchNt_ne s⟩
  case boundary =>
    intro hd hr
    refine ⟨fun hl he => ?_, exec_tpulseBoundary_disabled hd hr, exec_tpulseBoundary_skip hs hd hr⟩
    have hrise := exec_tpulseBoundary_rise hd hr hl he
    rw [tpHighTime_eq] at hrise
    exact hrise
  case fall => exact fun hh => ⟨exec_tpulseEnd_due hh, fun h => exec_tpulseEnd_early h⟩

end Sys2Proof.Machine
end

section
/-!
PROOFS. The status word and the wait mask (spec/06, spec/07): how a ready strand issues an instruction that names fewer registers, the
status word bit by bit, and the obligation O16.
-/
namespace Sys2Proof.Machine

/-! ## Issue by a ready strand -/

/-- A strand that can issue an instruction can issue one that names fewer registers. -/
theorem State.ready.subset {s : State} {i : StrandId} {l m : List (BitVec 5)} (h : s.ready i l) (hm : m ⊆ l) : s.ready i m := by
  obtain ⟨hcan, hpend, hrest⟩ := h
  refine ⟨hcan, ?_, hrest⟩
  rw [List.any_eq_false] at hpend ⊢
  exact fun r hr => hpend r (hm hr)

/-- A short instruction of a ready strand whose encoding is allowed changes its strand only. -/
theorem State.issueShort_allowed {s : State} {i : StrandId} {l regs : List (BitVec 5)} {bad : Bool} {f : Strand → Strand}
    (h : s.ready i l) (hm : regs ⊆ l) (hb : bad = false) : done (s.issueShort i regs bad f) = .next (s.after i (f (s.strand i)).next) := by
  subst hb
  rw [State.issueShort_ready (h.subset hm)]

/-! ## The status word (spec/07 Registers) -/

/-- ST as nested bits, Z lowest and RM on top. -/
theorem Status.word_toNat (t : Status) : t.word.toNat = Nat.bit t.z (Nat.bit t.n (Nat.bit t.c (Nat.bit t.v (Nat.bit t.sat (Nat.bit t.aov
    (Nat.bit t.dz (Nat.bit t.dom t.rm.toNat))))))) := by
  have hz := t.z.toNat_le
  have hn := t.n.toNat_le
  have hc := t.c.toNat_le
  have hv := t.v.toNat_le
  have hsat := t.sat.toNat_le
  have haov := t.aov.toNat_le
  have hdz := t.dz.toNat_le
  have hdom := t.dom.toNat_le
  have hrm := t.rm.isLt
  simp only [Nat.bit_val, Status.word, Word.ofN, BitVec.toNat_ofNat]
  omega

theorem Status.word_lt (t : Status) : t.word.toNat < 2 ^ 10 := by
  rw [Status.word_toNat]
  iterate 8 refine Nat.bit_lt_two_pow_succ_iff.2 ?_
  exact t.rm.isLt

theorem Status.word_flags (t : Status) : t.word.getLsbD 0 = t.z ∧ t.word.getLsbD 1 = t.n ∧ t.word.getLsbD 2 = t.c ∧ t.word.getLsbD 3 = t.v
    ∧ t.word.getLsbD 4 = t.sat ∧ t.word.getLsbD 5 = t.aov ∧ t.word.getLsbD 6 = t.dz ∧ t.word.getLsbD 7 = t.dom := by
  simp [BitVec.getLsbD, Status.word_toNat, Nat.testBit_bit_succ]

theorem Status.word_rm (t : Status) : t.word.extractLsb' 8 2 = t.rm := by
  refine BitVec.eq_of_getLsbD_eq (fun j hj => ?_)
  have hbits : t.word.getLsbD (8 + j) = t.rm.getLsbD j := by
    simp [BitVec.getLsbD, Status.word_toNat, Nat.add_comm 8 j, Nat.testBit_bit_succ]
  rw [BitVec.getLsbD_extractLsb', hbits]
  simp [hj]

/-! ## What each command does -/

section
variable {s : State} {i : StrandId} {x : FmtA}

theorem exec_mfst_ready (h : s.ready i [x.rd, x.ra]) (hx : x.unused true false false false false false false false false = false) :
    exec (.mfst i x) s = .next (s.after i ((s.strand i).gets x.rd (s.strand i).st.word)) :=
  State.issueShort_allowed h (by simp) hx

theorem exec_mtst_ready (h : s.ready i [x.rd, x.ra]) (hx : x.unused false true false false false false false false false = false) :
    exec (.mtst i x) s = .next (s.after i { (s.strand i).next with st := Status.ofWord ((s.strand i).rd x.ra) }) :=
  State.issueShort_allowed h (by simp) hx

theorem exec_stclr_ready (h : s.ready i [x.rd, x.ra]) (hx : x.unused false false false false false false false false true = false) :
    exec (.stclr i x) s =
      .next (s.after i { (s.strand i).next with st := Status.ofWord ((s.strand i).st.word &&& ~~~(x.imm.zeroExtend 48)) }) :=
  State.issueShort_allowed h (by simp) hx

theorem exec_stset_ready (h : s.ready i [x.rd, x.ra]) (hx : x.unused false false false false false false false false true = false) :
    exec (.stset i x) s =
      .next (s.after i { (s.strand i).next with st := Status.ofWord ((s.strand i).st.word ||| x.imm.zeroExtend 48) }) :=
  State.issueShort_allowed h (by simp) hx

end

section
variable {s : State} {i : StrandId} {x : FmtX}

theorem exec_wmon_ready (h : s.ready i []) (hx : x.unused false false false true = false) (hl : x.imm.toNat < 256) :
    exec (.wmon i x) s =
      .next (s.after i { (s.strand i).next with mask := (s.strand i).mask ||| BitVec.twoPow 256 x.imm.toNat }) :=
  State.issueShort_allowed h (List.Subset.refl _) (by simp [hx, hl])

/-- Clearing a bit of the wait mask clears the same bit of the pending set (R214). -/
theorem exec_wmoff_ready (h : s.ready i []) (hx : x.unused false false false true = false) (hl : x.imm.toNat < 256) :
    exec (.wmoff i x) s = .next (s.after i { (s.strand i).next with
      mask := (s.strand i).mask &&& ~~~BitVec.twoPow 256 x.imm.toNat, pend := (s.strand i).pend &&& ~~~BitVec.twoPow 256 x.imm.toNat }) :=
  State.issueShort_allowed h (List.Subset.refl _) (by simp [hx, hl])

theorem exec_sync_ready (h : s.ready i []) (hx : x.unused false false false false = false) (hops : s.opsOf i = []) :
    exec (.sync i x) s = .next (s.after i (s.strand i).next) := by
  show execSync i x s = _
  unfold execSync
  rw [if_pos (by rw [hops]; rfl), State.issueShort_allowed h (List.Subset.refl _) hx]
  rfl

end

/-- Settles O16: each clause is the lemma above about its command; the layout of ST is read off its word bit by bit. -/
theorem statusAndMasks : Obligations.StatusAndMasks := by
  unfold Obligations.StatusAndMasks
  intro s i
  refine ⟨fun x h hrb hf hs hu hac ham => ⟨fun hra himm => ?mfst, fun hrd himm => ?mtst, fun hrd hra => ⟨?stclr, ?stset⟩⟩,
    fun x h hrd hra hrb hrsv => ⟨fun hl => ⟨?wmon, ?wmoff⟩, fun himm hops => ?sync⟩⟩
  case mfst =>
    obtain ⟨hz, hn, hc, hv, hsat, haov, hdz, hdom⟩ := Status.word_flags (s.strand i).st
    exact ⟨_, exec_mfst_ready h (by simp [FmtA.unused, *]), Status.word_lt _, hz, hn, hc, hv, hsat, haov, hdz, hdom, Status.word_rm _⟩
  case mtst => exact exec_mtst_ready h (by simp [FmtA.unused, *])
  case stclr => exact exec_stclr_ready h (by simp [FmtA.unused, *])
  case stset => exact exec_stset_ready h (by simp [FmtA.unused, *])
  case wmon => exact exec_wmon_ready h (by simp [FmtX.unused, *]) hl
  case wmoff => exact exec_wmoff_ready h (by simp [FmtX.unused, *]) hl
  case sync => exact exec_sync_ready h (by simp [FmtX.unused, *]) hops

end Sys2Proof.Machine
end

section
/-!
PROOFS. Waits and event lines (spec/06): the lowest line of a set, what a wait does to its strand and what ends it, what a strand hears at the
end of a beat, and the obligation O24.
-/
namespace Sys2Proof.Machine

/-! ## The lowest line -/

theorem lowestLine_eq {b : BitVec 256} {n : Nat} (hn : n < 256) (hb : b.getLsbD n = true) (hlow : ∀ j < n, b.getLsbD j = false) :
    lowestLine b = some (BitVec.ofNat 8 n) := by
  have hfind : (List.range 256).find? (fun j => b.getLsbD j) = some n :=
    List.find?_range_eq_some.2 ⟨hb, List.mem_range.2 hn, fun j hj => by simp [hlow j hj]⟩
  unfold lowestLine
  rw [hfind]
  rfl

theorem lowestLine_zero : lowestLine 0 = none := by
  have hfind : (List.range 256).find? (fun j => (0 : BitVec 256).getLsbD j) = none := List.find?_range_eq_none.2 (fun j _ => by simp)
  unfold lowestLine
  rw [hfind]
  rfl

/-! ## What a wait does to its strand (R211, R311, R853) -/

section
variable {y : Strand} {rd : BitVec 5} {dl : Option Word} {now : Word} {busy : Bool}

theorem Strand.next_wr (y : Strand) (r : BitVec 5) (v : Word) : y.next.wr r v = y.gets r v := by
  unfold Strand.gets Strand.wr
  split <;> rfl

theorem Strand.wr_issued (y : Strand) (r : BitVec 5) (v k : Word) : (y.issued k).wr r v = (y.wr r v).issued k := by
  unfold Strand.wr
  split <;> rfl

/-- What an issue does to key and step does not touch the wait. -/
theorem Strand.doWait_issued (y : Strand) (rd : BitVec 5) (dl : Option Word) (now k : Word) (busy : Bool) :
    (y.issued k).doWait rd dl now busy = (y.doWait rd dl now busy).issued k := by
  unfold Strand.doWait
  rw [show (y.issued k).pend = y.pend from rfl]
  cases lowestLine y.pend with
  | some n =>
    dsimp only
    rw [Strand.wr_issued]
    rfl
  | none =>
    rw [Strand.wr_issued]
    cases dl.any (reached now)
    · cases busy <;> rfl
    · rfl

theorem Strand.doWait_line {n : Nat} (hn : n < 256) (hb : y.pend.getLsbD n = true) (hlow : ∀ j < n, y.pend.getLsbD j = false) :
    y.next.doWait rd dl now busy = { y.gets rd (BitVec.ofNat 48 n) with pend := y.pend &&& ~~~BitVec.twoPow 256 n } := by
  have hnum : (BitVec.ofNat 8 n).toNat = n := Nat.mod_eq_of_lt hn
  have hword : (BitVec.ofNat 8 n).zeroExtend 48 = BitVec.ofNat 48 n := BitVec.eq_of_toNat_eq (by simp [hnum])
  have hl : lowestLine y.next.pend = some (BitVec.ofNat 8 n) := lowestLine_eq hn hb hlow
  unfold Strand.doWait
  rw [hl]
  dsimp only
  rw [hword, hnum, Strand.next_wr]
  rfl

theorem Strand.lowestLine_next (hp : y.pend = 0) : lowestLine y.next.pend = none := by
  rw [show y.next.pend = 0 from hp, lowestLine_zero]

theorem Strand.doWait_late (hp : y.pend = 0) (hl : dl.any (reached now) = true) : y.next.doWait rd dl now busy = y.gets rd 0x100 := by
  unfold Strand.doWait
  rw [Strand.lowestLine_next hp]
  dsimp only
  rw [if_pos hl, Strand.next_wr]
  rfl

theorem Strand.doWait_waits (hp : y.pend = 0) (hl : dl.any (reached now) = false) : y.next.doWait rd dl now busy =
    if busy then { y.next with waitRd := rd, waitDl := dl, waitEnd := .none, state := .draining, drainTo := .waiting }
      else { y.next with waitRd := rd, waitDl := dl, waitEnd := .none, state := .waiting } := by
  unfold Strand.doWait
  rw [Strand.lowestLine_next hp]
  dsimp only
  rw [if_neg (by simp [hl])]

end

/-! ## WAIT -/

theorem State.traceEv_core (s : State) (kind : Nat) (i : StrandId) (data : Nat) : (s.traceEv kind i data).core = s.core := by
  unfold State.traceEv
  dsimp only
  split
  · split <;> rfl
  · rfl

theorem State.traceEv_strand (s : State) (kind : Nat) (i : StrandId) (data : Nat) (j : StrandId) :
    (s.traceEv kind i data).strand j = s.strand j := by
  unfold State.strand
  rw [State.traceEv_core]

/-- The deadline of a wait, in ra when T is 1 (R311). -/
def waitDeadline (x : FmtX) (y : Strand) : Option Word := if x.imm = 1 then some (y.rd x.ra) else none

theorem waitDeadline_reached (x : FmtX) (y : Strand) (now : Word) :
    (waitDeadline x y).any (reached now) = decide (x.imm = 1 ∧ 0 ≤ (now - y.rd x.ra).toInt) := by
  unfold waitDeadline reached
  by_cases h : x.imm = 1
  · rw [if_pos h, Option.any_some, decide_eq_decide]
    exact (and_iff_right h).symm
  · rw [if_neg h, Option.any_none]
    exact (decide_eq_false (fun hc => h hc.1)).symm

/-- WAIT of a RUNNABLE strand does to it what a wait does, and is traced. -/
theorem exec_wait_ready {s : State} {i : StrandId} {x : FmtX} (h : s.ready i [x.rd, x.ra]) (hrun : (s.strand i).state = .runnable)
    (hrb : x.rb = 0) (hrsv : x.rsv = 0) (himm : x.imm.toNat < 2) (hra : x.imm = 1 ∨ x.ra = 0) : exec (.wait i x) s =
      .next (s.afterTraced i ((s.strand i).next.doWait x.rd (waitDeadline x (s.strand i)) s.time.dtime !(s.opsOf i).isEmpty) 3 0) := by
  have ht : x.imm.getLsbD 0 = decide (x.imm = 1) := by
    have h01 : x.imm = 0 ∨ x.imm = 1 := by bv_omega
    rcases h01 with h0 | h1
    · simp [h0]
    · simp [h1]
  have hbad : (x.unused true (x.imm.getLsbD 0) false true || decide (2 ≤ x.imm.toNat)) = false := by
    rcases hra with h1 | h0
    · simp [FmtX.unused, hrb, hrsv, h1]
    · simp [FmtX.unused, hrb, hrsv, h0, himm]
  have hdl : (if x.imm.getLsbD 0 then some ((s.strand i).rd x.ra) else none) = waitDeadline x (s.strand i) := by
    rw [ht]
    simp [waitDeadline]
  have hun : ((s.strand i).next.issued s.time.dtime).state ≠ .halted := by
    rw [show ((s.strand i).next.issued s.time.dtime).state = (s.strand i).state from rfl, hrun]
    decide
  show execWait i x s = _
  unfold execWait
  dsimp only
  rw [hbad, hdl, State.issue_ready h, State.traceEv_strand]
  simp only [State.noteIssue_strand, State.touchFetch_strand, State.noteIssue_time, State.touchFetch_time, State.strand_setStrand]
  rw [Strand.underStep, if_neg hun, Strand.doWait_issued]
  simp [State.afterTraced, Strand.issued]

/-! ## The end of a wait -/

/-- A beat that is five or more past another has reached the fifth after that one. -/
theorem reached_add_five {d t : Word} (h : 5 ≤ (d - t).toInt) : reached d (t + 5) = true := by
  have hsub : d - (t + 5) = (d - t) - 5 := by bv_omega
  have h5 : (5 : Word).toInt = 5 := by decide
  have hlt := BitVec.two_mul_toInt_lt (x := d - t)
  unfold reached
  rw [hsub, decide_eq_true_eq, BitVec.toInt_sub, h5, Int.bmod_eq_of_le (by omega) (by omega)]
  omega

theorem Strand.wake_line {y : Strand} {n : BitVec 8} (he : y.waitEnd = .line n) (key : Word) : y.wake key =
    { y.wr y.waitRd (n.zeroExtend 48) with
      pend := y.pend &&& ~~~BitVec.twoPow 256 n.toNat, state := .runnable, key := key, waitEnd := .none, waitDl := none } := by
  unfold Strand.wake
  rw [he]
  rfl

theorem Strand.wake_deadline {y : Strand} (he : y.waitEnd = .deadline) (key : Word) : y.wake key =
    { y.wr y.waitRd 0x100 with state := .runnable, key := key, waitEnd := .none, waitDl := none } := by
  unfold Strand.wake
  rw [he]
  rfl

section
variable {s : State} {i : StrandId}

theorem State.drained_of (hops : s.opsOf i = []) (hend : (s.strand i).opEnd ≠ some s.time.dtime) : s.drained i = true := by
  simp [State.drained, hops, hend]

theorem exec_deadlineReached_waiting {d : Word} (hw : (s.strand i).state = .waiting) (he : (s.strand i).waitEnd = .none)
    (hd : (s.strand i).waitDl = some d) (hr : reached s.time.dtime d = true) :
    exec (.deadlineReached i) s = .next (s.setStrand i { s.strand i with waitEnd := .deadline, waitAt := s.time.dtime }) := by
  have hin : (s.strand i).inWait = true := by simp [Strand.inWait, hw]
  show execDeadlineReached i s = _
  unfold execDeadlineReached
  dsimp only
  rw [hin, he, hd]
  dsimp only
  rw [if_pos hr]

/-- Five beats after the wait of a drained strand has ended the strand wakes (R213). -/
theorem exec_strandRunnable_waiting (hw : (s.strand i).state = .waiting) (he : (s.strand i).waitEnd ≠ .none) (hd : s.drained i = true)
    (ht : 5 ≤ (s.time.dtime - (s.strand i).waitAt).toInt) : exec (.strandRunnable i) s = .next (s.wakeStrand i) := by
  have hr : reached s.time.dtime ((s.strand i).waitAt + 5) = true := reached_add_five ht
  have hdue : s.wakeDue i = true := by
    unfold State.wakeDue
    dsimp only
    rw [hr, hd]
    simp [hw, he]
  show done (if s.wakeDue i then s.wakeStrand i else s) = _
  rw [if_pos hdue]

theorem exec_strandRunnable_line {n : BitVec 8} (hw : (s.strand i).state = .waiting) (he : (s.strand i).waitEnd = .line n)
    (hd : s.drained i = true) (ht : 5 ≤ (s.time.dtime - (s.strand i).waitAt).toInt) : exec (.strandRunnable i) s =
      .next (((s.setStrand i { (s.strand i).wr (s.strand i).waitRd (n.zeroExtend 48) with
        pend := (s.strand i).pend &&& ~~~BitVec.twoPow 256 n.toNat, state := .runnable, key := s.time.dtime, waitEnd := .none,
        waitDl := none }).traceEv 2 i n.toNat).checkC0) := by
  rw [exec_strandRunnable_waiting hw (by simp [he]) hd ht, State.wakeStrand, Strand.wake_line he, he]

theorem exec_strandRunnable_deadline (hw : (s.strand i).state = .waiting) (he : (s.strand i).waitEnd = .deadline)
    (hd : s.drained i = true) (ht : 5 ≤ (s.time.dtime - (s.strand i).waitAt).toInt) : exec (.strandRunnable i) s =
      .next (((s.setStrand i { (s.strand i).wr (s.strand i).waitRd 0x100 with
        state := .runnable, key := s.time.dtime, waitEnd := .none, waitDl := none }).traceEv 2 i 0).checkC0) := by
  rw [exec_strandRunnable_waiting hw (by simp [he]) hd ht, State.wakeStrand, Strand.wake_deadline he, he]

theorem exec_strandDrainEnd_draining (hs : (s.strand i).state = .draining) (hd : s.drained i = true)
    (hw : (s.strand i).waitEnd = .none ∨ (s.strand i).drainTo ≠ .waiting) :
    exec (.strandDrainEnd i) s = .next (s.setStrand i { s.strand i with state := (s.strand i).drainTo }) := by
  have hdue : s.drainDue i = true := by
    rcases hw with hw | hw <;> simp [State.drainDue, hs, hd, hw]
  show done (if s.drainDue i then s.endDrain i else s) = _
  rw [if_pos hdue]
  rfl

end

/-! ## Event lines (R209 to R212, R215) -/

/-- SIG moves its strand on and asserts its line in the next beat (R215). -/
theorem exec_sig_ready {s : State} {i : StrandId} {x : FmtX} (h : s.ready i []) (hx : x.unused false false false true = false)
    (hl : x.imm.toNat < 48) : ∃ t, exec (.sig i x) s = .next t ∧ s.memSame t
      ∧ t.core = { (s.setStrand i ((s.strand i).next.issued s.time.dtime)).core with
          nextEv := s.core.nextEv ||| BitVec.twoPow 256 x.imm.toNat } := by
  have hbad : (x.unused false false false true || decide (48 ≤ x.imm.toNat)) = false := by simp [hx, hl]
  have htwo : BitVec.twoPow 256 x.imm.toNat = BitVec.ofNat 256 (1 <<< x.imm.toNat) :=
    BitVec.eq_of_toNat_eq (by rw [BitVec.toNat_twoPow, BitVec.toNat_ofNat, Nat.one_shiftLeft])
  show ∃ t, execSig i x s = .next t ∧ _
  unfold execSig
  rw [hbad, State.issue_ready h]
  exact ⟨_, rfl, ⟨by simp [State.assertNext, State.advance], by simp [State.assertNext, State.advance]⟩,
    by simp [State.assertNext, State.advance, htwo]⟩

/-- A strand that moves on hears nothing. -/
theorem State.strand_moved_pend (s : State) (i j : StrandId) (k : Word) :
    ((s.setStrand i ((s.strand i).next.issued k)).strand j).pend = (s.strand j).pend := by
  by_cases h : j = i
  · subst h
    rw [State.strand_setStrand]
    rfl
  · rw [State.strand_setStrand_ne s _ h]

/-- The lines that SIG left to this beat are asserted in it, once (R215). -/
theorem State.nextLines_asserts (s : State) : s.nextLines.now.lines = s.now.lines ||| s.core.nextEv ∧ s.nextLines.core.nextEv = 0 := by
  unfold State.nextLines
  by_cases h : s.core.nextEv = 0
  · rw [if_pos h, h]
    exact ⟨BitVec.or_zero.symm, rfl⟩
  · rw [if_neg h]
    exact ⟨rfl, rfl⟩

/-- A wait in progress whose deadline has not passed ends with the lowest line that it hears (R212, R853). -/
theorem Strand.hear_line {y : Strand} {now : Word} {ls : BitVec 256} {n : Nat} (hw : y.state = .waiting) (he : y.waitEnd = .none)
    (hdl : ∀ d, y.waitDl = some d → (now - d).toInt ≤ 0) (hn : n < 256) (hb : (ls &&& y.mask).getLsbD n = true)
    (hlow : ∀ m < n, (ls &&& y.mask).getLsbD m = false) :
    (y.hear now ls).waitEnd = .line (BitVec.ofNat 8 n) ∧ (y.hear now ls).waitAt = now := by
  have hin : y.inWait = true := by simp [Strand.inWait, hw]
  have hlate : y.waitDl.any (fun d => decide (0 < (now - d).toInt)) = false := by
    cases hd : y.waitDl with
    | none => rfl
    | some d => exact decide_eq_false (not_lt.2 (hdl d hd))
  have hends : y.ends now (ls &&& y.mask) = .line (BitVec.ofNat 8 n) := by
    unfold Strand.ends
    dsimp only
    rw [hin, hlate, he, lowestLine_eq hn hb hlow]
    rfl
  unfold Strand.hear
  dsimp only
  rw [hends, he]
  exact ⟨rfl, rfl⟩

/-- What a strand hears changes its pending set, EVMERGE and the end of its wait only (R210). -/
theorem Strand.hear_only (y : Strand) (now : Word) (ls : BitVec 256) :
    { y.hear now ls with pend := y.pend, evMerge := y.evMerge, waitEnd := y.waitEnd, waitAt := y.waitAt } = y := rfl

theorem Strand.hear_evMerge (y : Strand) (now : Word) (ls : BitVec 256) :
    (y.hear now ls).evMerge = (y.evMerge || decide (ls &&& y.mask &&& y.pend ≠ 0)) := by
  rw [decide_not, ← Bool.beq_eq_decide_eq]
  rfl

/-- Settles O24: each clause is the lemma above about its command or about what a strand hears at the end of a beat. -/
theorem waitsAndEventLines : Obligations.WaitsAndEventLines := by
  unfold Obligations.WaitsAndEventLines
  refine ⟨fun s i => ⟨fun x h hrun hrb hrsv himm hra => ?wait, fun d hw he hd hr => ?deadline, fun hw hops hend ht => ⟨?line, ?late⟩,
    fun hs hops hend hw => ?drain⟩, fun s => ⟨fun i x h hrd hra hrb hrsv hl => ?sig, fun m v => ?evset, ?asserted, ?cleared,
    fun j => ?hear⟩⟩
  case wait =>
    have hexec := exec_wait_ready h hrun hrb hrsv himm hra
    have hreached := waitDeadline_reached x (s.strand i) s.time.dtime
    intro deadline late
    refine ⟨fun n hn hb hlow => ?_, fun hp hlate => ?_, fun hp hearly hops => ?_, fun hp hearly hops => ?_⟩
    · rw [hexec, Strand.doWait_line hn hb hlow]
    · rw [hexec, Strand.doWait_late hp (hreached.trans (decide_eq_true hlate))]
    · rw [hexec, Strand.doWait_waits hp (hreached.trans (decide_eq_false hearly)), hops]
      rfl
    · rw [hexec, Strand.doWait_waits hp (hreached.trans (decide_eq_false hearly)), if_pos (by simpa using hops)]
      rfl
  case deadline => exact exec_deadlineReached_waiting hw he hd (decide_eq_true hr)
  case line => exact fun n he => exec_strandRunnable_line hw he (State.drained_of hops hend) ht
  case late => exact fun he => exec_strandRunnable_deadline hw he (State.drained_of hops hend) ht
  case drain => exact exec_strandDrainEnd_draining hs (State.drained_of hops hend) hw
  case sig =>
    obtain ⟨t, hexec, hmem, hcore⟩ := exec_sig_ready h (by simp [FmtX.unused, *]) hl
    have hstrand : ∀ j, t.strand j = (s.setStrand i ((s.strand i).next.issued s.time.dtime)).strand j := fun j => by
      unfold State.strand
      rw [hcore]
      rfl
    refine ⟨t, hexec, hmem, ?_, fun j => ?_, ?_⟩
    · rw [hstrand, State.strand_setStrand]
      rfl
    · rw [hstrand, State.strand_moved_pend]
    · rw [hcore]
  case evset => exact ⟨s.assertLines (v.setWidth 256), rfl, ⟨rfl, rfl⟩, rfl, rfl, rfl⟩
  case asserted => exact (State.nextLines_asserts s).1
  case cleared => exact (State.nextLines_asserts s).2
  case hear =>
    rw [State.strand_hearLines]
    exact ⟨rfl, Strand.hear_evMerge .., Strand.hear_only .., fun hw he hdl n hn hb hlow => Strand.hear_line hw he hdl hn hb hlow⟩

end Sys2Proof.Machine
end

section
/-!
PROOFS. Exact values (spec/07, spec/08): the word of an exact value and its clamping, the flags and sticky flags of a result, and rounding
by RM.
-/
namespace Sys2Proof.Machine

/-! ## Words of exact values (R245) -/

theorem clampInt_eq {lo hi : Int} (h : lo ≤ hi) (e : Int) : clampInt e lo hi = (max lo (min hi e), decide (e < lo ∨ hi < e)) := by
  unfold clampInt
  split_ifs with hlo hhi
  · rw [max_eq_left ((min_le_right _ _).trans hlo.le), decide_eq_true (Or.inl hlo)]
  · rw [min_eq_left hhi.le, max_eq_right h, decide_eq_true (Or.inr hhi)]
  · rw [min_eq_right (not_lt.1 hhi), max_eq_right (not_lt.1 hlo), decide_eq_false (not_or.2 ⟨hlo, hhi⟩)]

theorem clampU_eq (u : Bool) (e : Int) : clampU u e = (max (lowest u) (min (greatest u) e), misfits u e) := by
  unfold clampU lowest greatest misfits
  cases u
  · simp only [Bool.false_eq_true, if_false, clampInt_eq (show s48Min ≤ s48Max by norm_num [s48Min, s48Max])]
    rw [s48Min, s48Max, lowest, greatest]
    rfl
  · simp only [if_true, clampInt_eq (show (0 : Int) ≤ 2 ^ 48 - 1 by norm_num)]
    rw [lowest, greatest]
    rfl

theorem formWord_eq (sat u : Bool) (e : Int) : formWord sat u e = (wordOf sat u e, sat && misfits u e) := by
  cases sat
  · rfl
  · show (Word.ofS (clampU u e).1, (clampU u e).2) = _
    rw [clampU_eq]
    rfl

theorem outU_eq_misfits (u : Bool) (e : Int) : outU u e = misfits u e := by
  unfold outU
  rw [clampU_eq]

/-! ## Flags and PC (R230, R234, R235) -/

theorem Strand.flags_eq_shows (y : Strand) (f : Bool) (v : Word) (c ov : Bool) : y.flags f v c ov = y.shows f v c ov := by
  unfold Strand.flags Strand.shows
  rw [show (v == 0) = decide (v = 0) from rfl, show v.getLsbD 47 = decide (v.toInt < 0) from (BitVec.msb_eq_toInt (x := v))]

theorem Strand.satIf_eq_sets (y : Strand) (b : Bool) : y.satIf b = y.sets b := by
  cases b
  · simp [Strand.satIf, Strand.sets]
  · simp [Strand.satIf, Strand.sets]

theorem Strand.next_shows (y : Strand) (f : Bool) (v : Word) (c ov : Bool) : (y.shows f v c ov).next = y.next.shows f v c ov := by
  cases f <;> rfl

theorem Strand.next_sets (y : Strand) (b : Bool) : (y.sets b).next = y.next.sets b := rfl

/-- A result written with its flags and SAT, and the PC moved on. -/
theorem Strand.next_result (y : Strand) (rd : BitVec 5) (v : Word) (f c ov sat : Bool) :
    (((y.wr rd v).flags f v c ov).satIf sat).next = ((y.gets rd v).shows f v c ov).sets sat := by
  rw [Strand.satIf_eq_sets, Strand.flags_eq_shows, Strand.next_sets, Strand.next_shows]
  rfl

/-- An exact value saturated to s48 and written with its flags. -/
theorem Strand.next_doConv (y : Strand) (rd : BitVec 5) (e : Int) (f : Bool) : (y.doConv rd e f).next = y.roundRow rd e f := by
  unfold Strand.doConv
  rw [formWord_eq]
  exact Strand.next_result ..

theorem Strand.next_doLogic (y : Strand) (rd : BitVec 5) (v : Word) (f : Bool) : (y.doLogic rd v f).next = y.logicRow rd v f := by
  unfold Strand.doLogic
  rw [Strand.flags_eq_shows, Strand.next_shows]
  rfl

/-! ## Rounding (R247) -/

theorem roundShift_eq_roundDiv (rm : BitVec 2) (e : Int) (n : Nat) : roundShift rm e n = roundDiv rm e (2 ^ n) := by
  have hd : ¬ (2 : Int) ^ n < 0 := not_lt.2 (by positivity)
  unfold roundShift roundDiv
  simp only [if_neg hd]

theorem roundDiv_neg_neg (rm : BitVec 2) (n : Int) {d : Int} (hd : d < 0) : roundDiv rm n d = roundDiv rm (-n) (-d) := by
  have hd' : ¬ -d < 0 := by omega
  unfold roundDiv
  simp only [if_pos hd, if_neg hd']

/-- Rounding takes the floor q of the quotient or the integer above it, by what n lies above q * d. -/
theorem roundDiv_rounds_of_pos (rm : BitVec 2) (n : Int) {d : Int} (hd : 0 < d) : Rounds rm n d (roundDiv rm n d) := by
  have hlow : n / d * d ≤ n := Int.ediv_mul_le n hd.ne'
  have hhigh : n < (n / d + 1) * d := Int.lt_ediv_add_one_mul_self n hd
  unfold roundDiv
  simp only [if_neg (not_lt.2 hd.le), Int.fdiv_eq_ediv_of_nonneg n hd.le]
  generalize n / d = q at *
  have hfloor : |2 * (n - q * d)| = 2 * (n - q * d) := abs_of_nonneg (by omega)
  have hceil : |2 * (n - (q + 1) * d)| = 2 * ((q + 1) * d - n) := by rw [abs_of_nonpos (by omega)]; ring
  have hsucc : (q + 1) * d = q * d + d := by ring
  unfold Rounds
  by_cases h0 : rm = 0
  · simp only [if_pos h0]
    split_ifs
    all_goals
      simp only [hfloor, hceil]
      constructor <;> omega
  · by_cases h1 : rm = 1
    · simp only [if_neg h0, if_pos h1]
      split_ifs
      all_goals
        simp only [hfloor, hceil]
        constructor <;> omega
    · by_cases h2 : rm = 2
      · simp only [if_neg h0, if_neg h1, if_pos h2]
        exact ⟨hlow, hhigh⟩
      · simp only [if_neg h0, if_neg h1, if_neg h2]
        have hpred : (q - 1) * d = q * d - d := by ring
        have hback : (q + 1 - 1) * d = q * d := by ring
        split_ifs <;> constructor <;> omega

/-- A quotient rounded by RM is that of the magnitude of its divisor, the sign moved to the dividend. -/
theorem roundDiv_rounds (rm : BitVec 2) (n : Int) {d : Int} (hd : d ≠ 0) : Rounds rm (if d < 0 then -n else n) |d| (roundDiv rm n d) := by
  rcases lt_or_gt_of_ne hd with hneg | hpos
  · rw [if_pos hneg, abs_of_neg hneg, roundDiv_neg_neg rm n hneg]
    exact roundDiv_rounds_of_pos rm (-n) (by omega)
  · rw [if_neg (not_lt.2 hpos.le), abs_of_pos hpos]
    exact roundDiv_rounds_of_pos rm n hpos

theorem roundShift_rounds (rm : BitVec 2) (e : Int) (k : Nat) : Rounds rm e (2 ^ k) (roundShift rm e k) := by
  rw [roundShift_eq_roundDiv]
  exact roundDiv_rounds_of_pos rm e (by positivity)

/-! ## Issue -/

/-- A short instruction of a ready strand whose encoding is allowed makes its strand what its operation gives, the PC moved on. -/
theorem State.issueShort_gives {s : State} {i : StrandId} {l regs : List (BitVec 5)} {bad : Bool} {f : Strand → Strand} {z : Strand}
    (h : s.ready i l) (hm : regs ⊆ l) (hb : bad = false) (hz : (f (s.strand i)).next = z) :
    done (s.issueShort i regs bad f) = .next (s.after i z) :=
  hz ▸ State.issueShort_allowed h hm hb

end Sys2Proof.Machine
end

section
/-!
PROOFS. Multiplication, accumulators and conversions (spec/07, spec/08): what each operation makes of its strand, and the obligations O13
and O14.
-/
namespace Sys2Proof.Machine

/-! ## Multiplication (R272) -/

theorem Strand.next_doMul_word (y : Strand) (rd : BitVec 5) (a b : Word) (f s u : Bool) : (y.doMul rd a b 0 f s u).next =
    ((y.gets rd (wordOf s u (readAs u a * readAs u b))).shows f (wordOf s u (readAs u a * readAs u b)) false
      (misfits u (readAs u a * readAs u b))).sets (s && misfits u (readAs u a * readAs u b)) := by
  have hword : y.doMul rd a b 0 f s u = (((y.wr rd (formWord s u (readAs u a * readAs u b)).1).flags f
      (formWord s u (readAs u a * readAs u b)).1 false (outU u (readAs u a * readAs u b))).satIf (formWord s u (readAs u a * readAs u b)).2) := rfl
  rw [hword, outU_eq_misfits, formWord_eq]
  exact Strand.next_result ..

theorem Strand.next_doMul_round (y : Strand) (rd : BitVec 5) (a b : Word) {am : BitVec 2} (f s u : Bool) (ham : am ≠ 0) :
    (y.doMul rd a b am f s u).next = y.roundRow rd (roundShift y.st.rm (a.toInt * b.toInt) (if am = 1 then 47 else 24)) f := by
  unfold Strand.doMul
  rw [if_neg ham]
  exact Strand.next_doConv ..

theorem Strand.next_doMulh (y : Strand) (rd : BitVec 5) (a b : Word) (f u : Bool) : (y.doMulh rd a b f u).next =
    y.logicRow rd (BitVec.ofInt 48 (readAs u a * readAs u b / 2 ^ 48)) f := by
  rw [← Int.fdiv_eq_ediv_of_nonneg _ (by norm_num : (0 : Int) ≤ 2 ^ 48)]
  exact Strand.next_doLogic ..

/-! ## Accumulators (R242 to R244, R273, R274) -/

theorem aligned_eq_productOf (am : BitVec 2) (u : Bool) (a b : Word) : aligned am u a b = productOf am u a b := by
  unfold aligned productOf
  rw [Int.fdiv_eq_ediv_of_nonneg _ (by norm_num : (0 : Int) ≤ 2 ^ 15)]
  rfl

theorem Strand.acc_toInt (y : Strand) (ac : Bool) : (y.acc ac).toInt = y.accOf ac := by
  cases ac <;> rfl

/-- An exact sum saturated to an accumulator (R243). -/
theorem Strand.next_putAcc (y : Strand) (ac : Bool) {e e' : Int} (h : e = e') : (y.putAcc ac e).next = y.accumulates ac e' := by
  subst h
  unfold Strand.putAcc clampAcc
  rw [clampInt_eq (by norm_num)]
  unfold Strand.accumulates Strand.aovIf Strand.setAcc
  cases ac <;> cases decide (e < -2 ^ 95 ∨ 2 ^ 95 - 1 < e) <;> simp [Strand.next]

/-- An accumulator written with the words of a value that it can hold is not saturated (R274). -/
theorem Strand.next_setAcc (y : Strand) (ac : Bool) (v : Acc) : (y.setAcc ac v).next = y.accumulates ac v.toInt := by
  have hlow : -2 ^ 95 ≤ v.toInt := BitVec.le_toInt v
  have hhigh : v.toInt < 2 ^ 95 := BitVec.toInt_lt
  rw [← Strand.next_putAcc _ _ rfl]
  have hclamp : clampAcc v.toInt = (v.toInt, false) := by
    unfold clampAcc
    rw [clampInt_eq (by norm_num), min_eq_right (by omega), max_eq_right hlow, decide_eq_false (by omega)]
  have hput : y.putAcc ac v.toInt = (y.setAcc ac (BitVec.ofInt 96 (clampAcc v.toInt).1)).aovIf (clampAcc v.toInt).2 := rfl
  rw [hput, hclamp, BitVec.ofInt_toInt]
  rfl

theorem Strand.next_doNarw (y : Strand) (rd : BitVec 5) (ac : Bool) (am : BitVec 2) (f : Bool) : (y.doNarw rd ac am f).next =
    y.roundRow rd (roundShift y.st.rm (y.accOf ac) (if am = 0 then 0 else if am = 1 then 32 else 24)) f := by
  unfold Strand.doNarw
  rw [Strand.acc_toInt]
  exact Strand.next_doConv ..

/-- The upper word of a pair is signed, the lower is not (R274). -/
theorem toInt_wordPair (a b : Word) : (a ++ b : Acc).toInt = a.toInt * 2 ^ 48 + b.toNat := by
  rw [BitVec.toInt_append, mul_comm]
  rfl

/-- An accumulator as its two halves. -/
theorem acc_halves (v : Acc) : (v.extractLsb' 48 48 ++ v.extractLsb' 0 48 : Acc) = v :=
  (BitVec.extractLsb'_append_extractLsb'_eq_extractLsb' (start₁ := 0) (len₁ := 48) rfl).trans BitVec.extractLsb'_eq_self

theorem Strand.accOf_halves (y : Strand) (ac : Bool) :
    y.accOf ac = ((y.acc ac).extractLsb' 48 48).toInt * 2 ^ 48 + ((y.acc ac).extractLsb' 0 48).toNat := by
  rw [← toInt_wordPair, acc_halves, Strand.acc_toInt]

theorem Strand.acc_high (y : Strand) (ac : Bool) : (y.acc ac).extractLsb' 48 48 = BitVec.ofInt 48 (y.accOf ac / 2 ^ 48) := by
  have hlow := ((y.acc ac).extractLsb' 0 48).isLt
  have hdiv : y.accOf ac / 2 ^ 48 = ((y.acc ac).extractLsb' 48 48).toInt := by
    rw [Strand.accOf_halves]
    omega
  rw [hdiv, BitVec.ofInt_toInt]

theorem Strand.acc_low (y : Strand) (ac : Bool) : (y.acc ac).extractLsb' 0 48 = BitVec.ofInt 48 (y.accOf ac) := by
  have hlow := ((y.acc ac).extractLsb' 0 48).isLt
  refine BitVec.eq_of_toNat_eq ?_
  rw [BitVec.toNat_ofInt, Strand.accOf_halves]
  omega

/-! ## Encodings -/

/-- U goes with AM 0b00 only (R272, R273). -/
theorem FmtA.unsigned_allowed {x : FmtA} (ham : x.am ≠ 3) (hu : x.u = true → x.am = 0) : (x.am == 3 || (x.am != 0 && x.u)) = false := by
  rw [beq_false_of_ne ham, Bool.false_or]
  cases hxu : x.u
  · exact Bool.and_false _
  · rw [hu hxu]
    rfl

/-- Settles O13: multiplication to a word by AM, then the accumulators, each clause by the lemma about its operation. -/
theorem multiplyAndAccumulate : Obligations.MultiplyAndAccumulate := by
  unfold Obligations.MultiplyAndAccumulate
  refine ⟨fun s i x h hac himm => ⟨fun ham => ?mul, fun ham hu => ?mulRound, fun ham hs => ?mulh⟩,
    fun s i x h hs himm ham hu => ⟨fun hrd hf => ?accumulate, fun hra hrb hu0 => ?move⟩⟩
  case mul =>
    have hop := Strand.next_doMul_word (s.strand i) x.rd ((s.strand i).rd x.ra) ((s.strand i).rd x.rb) x.f x.s x.u
    rw [← ham] at hop
    exact State.issueShort_gives h (by simp) (by simp [FmtA.unused, *]) hop
  case mulRound =>
    have ham0 : x.am ≠ 0 := by rcases ham with ham | ham <;> rw [ham] <;> decide
    have ham3 : x.am ≠ 3 := by rcases ham with ham | ham <;> rw [ham] <;> decide
    have hpow : (if x.am = 1 then 2 ^ 47 else 2 ^ 24 : Int) = 2 ^ (if x.am = 1 then 47 else 24) := by split_ifs <;> rfl
    refine ⟨_, ?_, State.issueShort_gives h (by simp) ?_ (Strand.next_doMul_round _ _ _ _ _ _ _ ham0)⟩
    · rw [hpow]
      exact roundShift_rounds ..
    · rw [Bool.or_assoc, FmtA.unsigned_allowed ham3 (by simp [hu])]
      simp [FmtA.unused, *]
  case mulh => exact State.issueShort_gives h (by simp) (by simp [FmtA.unused, *]) (Strand.next_doMulh ..)
  case accumulate =>
    have hbad : (x.unused false true true false false true true true false || x.am == 3 || (x.am != 0 && x.u)) = false := by
      rw [Bool.or_assoc, FmtA.unsigned_allowed ham hu]
      simp [FmtA.unused, *]
    have hprod := aligned_eq_productOf x.am x.u ((s.strand i).rd x.ra) ((s.strand i).rd x.rb)
    have hacc := Strand.acc_toInt (s.strand i) x.ac
    refine ⟨?mula, ?mac, ?msu, fun hra hrb hu0 ham0 => ?clra, fun hu0 ham0 => ?mta⟩
    case mula => exact State.issueShort_gives h (by simp) hbad (Strand.next_putAcc _ _ hprod)
    case mac => exact State.issueShort_gives h (by simp) hbad (Strand.next_putAcc _ _ (congrArg₂ (· + ·) hacc hprod))
    case msu => exact State.issueShort_gives h (by simp) hbad (Strand.next_putAcc _ _ (congrArg₂ (· - ·) hacc hprod))
    case clra => exact State.issueShort_gives h (by simp) (by simp [FmtA.unused, *]) (Strand.next_setAcc ..)
    case mta =>
      refine State.issueShort_gives h (by simp) (by simp [FmtA.unused, *]) ?_
      rw [← toInt_wordPair]
      exact Strand.next_setAcc ..
  case move =>
    refine ⟨⟨_, ?_, State.issueShort_gives h (by simp) ?_ (Strand.next_doNarw ..)⟩, fun hf ham0 => ⟨?mfah, ?mfal⟩⟩
    · have hpow : (if x.am = 0 then 1 else if x.am = 1 then 2 ^ 32 else 2 ^ 24 : Int) =
          2 ^ (if x.am = 0 then 0 else if x.am = 1 then 32 else 24) := by split_ifs <;> rfl
      rw [hpow]
      exact roundShift_rounds ..
    · rw [beq_false_of_ne ham]
      simp [FmtA.unused, *]
    case mfah =>
      exact State.issueShort_gives h (by simp) (by simp [FmtA.unused, *]) (congrArg ((s.strand i).gets x.rd) (Strand.acc_high ..))
    case mfal =>
      exact State.issueShort_gives h (by simp) (by simp [FmtA.unused, *]) (congrArg ((s.strand i).gets x.rd) (Strand.acc_low ..))

/-- Settles O14: each conversion saturates its exact or rounded value. -/
theorem conversionResults : Obligations.ConversionResults := by
  unfold Obligations.ConversionResults
  intro s i x h hrb hs hu hac ham himm
  have hbad : x.unused true true false true false false false false false = false := by simp [FmtA.unused, *]
  exact ⟨⟨_, roundShift_rounds .., State.issueShort_gives h (by simp) hbad (Strand.next_doConv ..)⟩,
    State.issueShort_gives h (by simp) hbad (Strand.next_doConv ..), State.issueShort_gives h (by simp) hbad (Strand.next_doConv ..),
    ⟨_, roundShift_rounds .., State.issueShort_gives h (by simp) hbad (Strand.next_doConv ..)⟩⟩

end Sys2Proof.Machine
end

section
/-!
PROOFS. Constants, addresses, selections and branches (spec/07, spec/08): conditions, constants and effective addresses by the forms of the
statements, and the obligation O15.
-/
namespace Sys2Proof.Machine

/-- The conditions by the table of R238. -/
theorem Status.cond_eq_condHolds (t : Status) (c : BitVec 4) : t.cond c = condHolds t c := by
  have hc : c.toNat < 16 := c.isLt
  unfold Status.cond condHolds
  generalize c.toNat = n at *
  interval_cases n <;> rfl

/-- LI with P 0b10 keeps the low half of rd (R253). -/
theorem liWord_upper (imm : BitVec 24) (old : Word) : liWord 2 imm old = imm ++ old.setWidth 24 := by
  have hlow : (old &&& 0x000000FFFFFF#48).toNat = (old.setWidth 24).toNat := by
    rw [BitVec.toNat_and, BitVec.toNat_setWidth]
    exact Nat.and_two_pow_sub_one_eq_mod _ 24
  have hhigh : (imm.zeroExtend 48 <<< 24).toNat = imm.toNat <<< 24 := by
    rw [BitVec.toNat_shiftLeft, BitVec.zeroExtend_eq_setWidth, BitVec.toNat_setWidth_of_le (by decide), Nat.shiftLeft_eq]
    omega
  refine BitVec.eq_of_toNat_eq ?_
  rw [BitVec.toNat_append, Nat.or_comm, ← hhigh, ← hlow, ← BitVec.toNat_or]
  rfl

/-! ## Effective addresses (R254) -/

section
variable {x : FmtM} (y : Strand)

theorem FmtM.ea_mode0 (h : x.mode = 0) : x.ea y = (y.rd x.ra).setWidth 24 + x.disp := by
  unfold FmtM.ea
  rw [h]
  rfl

theorem FmtM.ea_mode1 (h : x.mode = 1) : x.ea y = (y.rd x.ra).setWidth 24 + (y.rd x.ri).setWidth 24 + x.disp := by
  unfold FmtM.ea
  rw [h]
  rfl

theorem FmtM.ea_mode4 (h : x.mode = 4) : x.ea y = y.pc + x.disp := by
  unfold FmtM.ea
  rw [h]
  rfl

end

/-- A branch of a ready strand whose encoding is allowed makes its strand what it gives (R252). -/
theorem State.issueBranch_gives {s : State} {i : StrandId} {l regs : List (BitVec 5)} {bad : Bool} {f : Strand → Strand} {z : Strand}
    (h : s.ready i l) (hm : regs ⊆ l) (hb : bad = false) (hz : f (s.strand i) = z) :
    done (s.issueBranch i regs bad f) = .next (s.after i z) := by
  subst hb hz
  rw [State.issueBranch_ready (h.subset hm)]

/-- LEA of an allowed encoding writes its effective address (R278). -/
theorem exec_lea_ready {s : State} {i : StrandId} {x : FmtM} (h : s.ready i [x.rt, x.ra, x.ri]) (hri : x.mode = 1 ∨ x.ri = 0)
    (hmode : x.mode = 0 ∨ x.mode = 1 ∨ x.mode = 4) {ea : BitVec 24} (hea : x.ea (s.strand i) = ea) :
    exec (.lea i x) s = .next (s.after i ((s.strand i).gets x.rt (ea.zeroExtend 48))) := by
  have hbad : (x.bad || !(x.mode == 0 || x.mode == 1 || x.mode == 4)) = false := by
    unfold FmtM.bad
    rcases hmode with hmode | hmode | hmode
    · simpa [hmode] using hri
    · simp [hmode]
    · simpa [hmode] using hri
  exact State.issueShort_gives h (List.Subset.refl _) hbad (by rw [hea]; rfl)

/-- Settles O15: each clause is what the issue of its command makes of the strand; conditions by the table, EA by its mode. -/
theorem constantsAndBranches : Obligations.ConstantsAndBranches := by
  unfold Obligations.ConstantsAndBranches
  intro s i
  refine ⟨fun x h hrsv => ⟨fun hp => ⟨?li, ?lipc⟩, fun hp => ?liUnsigned, fun hp => ?liUpper⟩,
    fun x h hri => ⟨fun hm => ?lea0, fun hm => ?lea1, fun hm => ?lea4⟩, fun x h hrsv => ?b,
    fun x h hf hs hu hac ham himm => ⟨fun hrb => ?br, ?sel, fun hra hrb => ?setc⟩, fun x h hra hrb hrsv himm => ⟨?self, ?rdt⟩⟩
  case li =>
    refine State.issueShort_gives h (List.Subset.refl _) (by simp [*]) ?_
    rw [hp]
    rfl
  case lipc => exact State.issueShort_gives h (List.Subset.refl _) (by simp [*]) rfl
  case liUnsigned =>
    refine State.issueShort_gives h (List.Subset.refl _) (by simp [*]) ?_
    rw [hp]
    rfl
  case liUpper =>
    refine State.issueShort_gives h (List.Subset.refl _) (by simp [*]) ?_
    rw [hp, liWord_upper]
    rfl
  case lea0 => exact exec_lea_ready h hri (.inl hm) (FmtM.ea_mode0 _ hm)
  case lea1 => exact exec_lea_ready h hri (.inr (.inl hm)) (FmtM.ea_mode1 _ hm)
  case lea4 => exact exec_lea_ready h hri (.inr (.inr hm)) (FmtM.ea_mode4 _ hm)
  case b =>
    refine State.issueBranch_gives h (List.Subset.refl _) (by simp [hrsv]) ?_
    rw [Status.cond_eq_condHolds]
  case br =>
    have himm' : ¬ 16 ≤ x.imm.toNat := by omega
    refine State.issueBranch_gives h (by simp) (by simp [FmtA.unused, FmtA.badCond, *]) ?_
    rw [Status.cond_eq_condHolds]
    rfl
  case sel =>
    have himm' : ¬ 16 ≤ x.imm.toNat := by omega
    refine State.issueShort_gives h (by simp) (by simp [FmtA.unused, FmtA.badCond, *]) ?_
    rw [Status.cond_eq_condHolds]
    rfl
  case setc =>
    have himm' : ¬ 16 ≤ x.imm.toNat := by omega
    refine State.issueShort_gives h (by simp) (by simp [FmtA.unused, FmtA.badCond, *]) ?_
    rw [Status.cond_eq_condHolds]
    rfl
  case self => exact State.issueShort_gives h (List.Subset.refl _) (by simp [FmtX.unused, *]) rfl
  case rdt => exact State.issueShort_gives h (List.Subset.refl _) (by simp [FmtX.unused, *]) rfl

end Sys2Proof.Machine
end

section
/-!
PROOFS. Loads and stores (spec/05, spec/07): what an issue does beside its instruction, how a load and a store end, and the obligation O17.
-/
namespace Sys2Proof.Machine

/-! ## What an issue does beside its instruction -/

/-- The state with the lines of the flash port and the issue words of the digest as given. -/
def State.withFetch (s : State) (f : Flash) (l : List Word) : State := { s with flash := f, now := { s.now with issues := l } }

/-- The flash port once the fetch of a strand has used its line (R647). -/
def State.fetchFlash (s : State) (i : StrandId) : Flash :=
  if region (s.strand i).pc.toNat = .xip then s.flash.touch (s.strand i).pc.toNat else s.flash

/-- The issue words of the digest once it has taken that of a strand (R745). -/
def State.issueWords (s : State) (i : StrandId) : List Word :=
  if s.paired then s.now.issues ++ [Word.ofN (i.val * 2 ^ 24 + (s.strand i).pc.toNat)] else s.now.issues

theorem State.noteIssue_touchFetch (s : State) (i : StrandId) :
    (s.touchFetch i).noteIssue i = s.withFetch (s.fetchFlash i) (s.issueWords i) := by
  have hpaired : (s.touchFetch i).paired = s.paired := by
    unfold State.touchFetch
    split_ifs <;> rfl
  unfold State.noteIssue State.issueWords
  rw [hpaired]
  unfold State.touchFetch State.fetchFlash
  cases s.paired <;> split_ifs <;> rfl

/-- What an issue reads and changes beside its instruction is the same in both states: of the registers, only the fill of the journal
buffer (R737) may differ. -/
structure State.IssuesAlike (s t : State) : Prop where
  core : t.core = s.core
  time : t.time = s.time
  flash : t.flash = s.flash
  issues : t.now.issues = s.now.issues
  regs : s.regsBut t [RW.PEER_TWFILL]

theorem State.IssuesAlike.refl (s : State) : s.IssuesAlike s := ⟨rfl, rfl, rfl, rfl, fun _ _ => rfl⟩

theorem State.IssuesAlike.strand {s t : State} (h : s.IssuesAlike t) (i : StrandId) : t.strand i = s.strand i := by
  unfold State.strand
  rw [h.core]

theorem State.IssuesAlike.paired {s t : State} (h : s.IssuesAlike t) : t.paired = s.paired := by
  unfold State.paired State.isTwin State.get
  rw [h.regs RW.RST_STRAP (by decide), h.regs RW.PEER_TWSTAT (by decide)]

theorem State.IssuesAlike.bpMatch {s t : State} (h : s.IssuesAlike t) (i : StrandId) (kind a : Nat) :
    t.bpMatch i kind a = s.bpMatch i kind a := by
  have hreg : ∀ k, t.reg (RW.DBG_BP k) = s.reg (RW.DBG_BP k) := fun k => h.regs _ (by
    rw [List.mem_singleton]
    show ¬ 0x41F004 + k = 0x417006
    omega)
  unfold State.bpMatch State.on State.get
  simp only [hreg]

theorem State.IssuesAlike.fetch {s t : State} (h : s.IssuesAlike t) (i : StrandId) :
    (t.touchFetch i).noteIssue i = t.withFetch (s.fetchFlash i) (s.issueWords i) := by
  rw [State.noteIssue_touchFetch]
  unfold State.fetchFlash State.issueWords
  rw [h.strand, h.flash, h.issues, h.paired]

/-- An instruction of a ready strand whose run leaves its strand as z issued, in state t else, ends in t after z. -/
theorem State.issue_gives {s t : State} {i : StrandId} {regs : List (BitVec 5)} {run : State → State} {z : Strand} (h : s.ready i regs)
    (ht : s.IssuesAlike t) (hrun : ∀ f l, run (s.withFetch f l) = (t.withFetch f l).setStrand i (z.issued s.time.dtime)) :
    s.issue i regs false run = t.after i z := by
  rw [State.issue_ready h, State.noteIssue_touchFetch, hrun]
  unfold State.after
  rw [ht.fetch, ht.time, ht.strand, State.strand_setStrand]
  simp [Strand.issued]

/-! ## Strands -/

theorem State.ready.xipWait {s : State} {i : StrandId} {regs : List (BitVec 5)} (h : s.ready i regs) : (s.strand i).xipWait = none := by
  obtain ⟨hcan, -⟩ := h
  simp [State.canIssue] at hcan
  tauto

theorem Strand.wr_xipWait (y : Strand) (r : BitVec 5) (v : Word) : (y.wr r v).xipWait = y.xipWait := by
  unfold Strand.wr
  split_ifs <;> rfl

theorem FmtM.writeBack_xipWait (x : FmtM) (y : Strand) : (x.writeBack y).xipWait = y.xipWait := by
  unfold FmtM.writeBack
  split_ifs
  · exact Strand.wr_xipWait ..
  · rfl

/-- The strand whose load has found its word: the base written back unless it is rt (R257). -/
def Strand.loads (y : Strand) (x : FmtM) (w : Word) : Strand := (if x.rt = x.ra then y else x.writeBack y).gets x.rt w

theorem FmtM.loadBase_xipWait (x : FmtM) (y : Strand) : (if x.rt = x.ra then y else x.writeBack y).xipWait = y.xipWait := by
  split_ifs
  · rfl
  · exact FmtM.writeBack_xipWait ..

/-! ## Loads -/

/-- A load that does not wait for its word ends in its beat. -/
theorem State.endLoad_issued {s : State} {i : StrandId} {x : FmtM} {ea : BitVec 24} (hx : (s.strand i).xipWait = none)
    (hbp : s.bpMatch i 1 ea.toNat = []) (w : Word) :
    s.endLoad i x ea w = s.setStrand i (((s.strand i).loads x w).issued s.time.dtime) := by
  have hbase := (FmtM.loadBase_xipWait x (s.strand i)).trans hx
  have hkeep : { ((s.strand i).loads x w).issued s.time.dtime with xipWait := none } = ((s.strand i).loads x w).issued s.time.dtime := by
    rw [← hbase, ← Strand.wr_xipWait _ x.rt w]
    rfl
  unfold State.endLoad
  simp only [hx, hbase, Option.isSome_none, Bool.and_false, Bool.false_eq_true, if_false]
  refine (if_pos ?_).trans (congrArg (s.setStrand i) hkeep)
  show (s.bpMatch i 1 ea.toNat).isEmpty = true
  rw [hbp]
  rfl

/-! ## A load of a chip-local word (R734) -/

theorem State.jot_withFetch (s : State) (kind : Nat) (data : List Word) (f : Flash) (l : List Word) :
    (s.withFetch f l).jot kind data = (s.jot kind data).withFetch f l := by
  have hactive : (s.withFetch f l).active = s.active := rfl
  unfold State.jot State.jotItem
  rw [hactive]
  cases s.active <;> rfl

theorem State.jot_issuesAlike (s : State) (kind : Nat) (data : List Word) : s.IssuesAlike (s.jot kind data) := by
  unfold State.jot State.jotItem
  cases s.active
  · exact .refl s
  · exact ⟨rfl, rfl, rfl, rfl, fun a ha => State.reg_put_ne _ _ _ (by simpa using ha)⟩

/-- What a load of an MRAM word does beside its strand does not depend on the flash port and the issue words. -/
theorem State.liveLoad_withFetch (s : State) (a : Nat) (w : Word) (f : Flash) (l : List Word) : (s.withFetch f l).liveLoad a w =
    ((s.liveLoad a w).1, (s.liveLoad a w).2.withFetch f l) := by
  have hshadow : (s.withFetch f l).shadowing = s.shadowing := rfl
  have hlive : (s.withFetch f l).twin.live = s.twin.live := rfl
  unfold State.liveLoad
  rw [hshadow, hlive, State.jot_withFetch]
  cases chipLocal a
  · rfl
  · cases s.shadowing
    · rfl
    · cases s.twin.live <;> rfl

theorem State.liveLoad_issuesAlike (s : State) (a : Nat) (w : Word) : s.IssuesAlike (s.liveLoad a w).2 := by
  unfold State.liveLoad
  cases chipLocal a
  · exact .refl s
  · cases s.shadowing
    · exact State.jot_issuesAlike ..
    · cases s.twin.live <;> exact ⟨rfl, rfl, rfl, rfl, fun _ _ => rfl⟩

theorem State.liveLoad_not_local {a : Nat} (h : chipLocal a = false) (s : State) (w : Word) : s.liveLoad a w = (w, s) := by
  unfold State.liveLoad
  rw [h]
  rfl

/-! ## Loads by region (R160, R163, R172) -/

section
variable {s : State} {i : StrandId} {x : FmtM} {ea : BitVec 24}

theorem State.doLoad_ram (hr : region ea.toNat = .ram) (he : spGet (fun _ => 0) s.mem.ramErr ea.toNat = 0) :
    s.doLoad i x ea = s.endLoad i x ea (s.ramAt ea.toNat) := by
  have hok : accessFault (isSup i) .load ea.toNat = none := by simp [accessFault, hr]
  have hread : s.ramRead ea.toNat 0 i.val = (some (s.ramAt ea.toNat), s) := by simp [State.ramRead, he]
  simp [State.doLoad, hok, hr, hread]

theorem State.doLoad_mram (hr : region ea.toNat = .mramUser ∨ (region ea.toNat = .mramSys ∧ sysLoadable ea.toNat = true))
    (he : s.mramBad ea.toNat = 0) : s.doLoad i x ea =
      (s.liveLoad ea.toNat (s.mramAt ea.toNat)).2.endLoad i x ea (s.liveLoad ea.toNat (s.mramAt ea.toNat)).1 := by
  have hread : s.mramRead ea.toNat 0 i.val = (some (s.mramAt ea.toNat), s) := by simp [State.mramRead, he]
  have hok : accessFault (isSup i) .load ea.toNat = none := by
    rcases hr with hr | ⟨hr, hsys⟩
    · simp [accessFault, hr]
    · have htop : ea.toNat < 0x7FF00 := by simp [sysLoadable] at hsys; omega
      simp [accessFault, hr, hsys, htop]
  rcases hr with hr | ⟨hr, -⟩ <;> simp [State.doLoad, hok, hr, hread]

theorem State.doLoad_rom (hr : region ea.toNat = .rom) (hs : isSup i = true) :
    s.doLoad i x ea = s.endLoad i x ea (Config.romWord ea.toNat) := by
  have hok : accessFault (isSup i) .load ea.toNat = none := by simp [accessFault, hr, hs]
  simp [State.doLoad, hok, hr]

end

/-! ## Loads of a ready strand -/

section
variable {s : State} {i : StrandId} {x : FmtM} {ea : BitVec 24} (h : s.ready i [x.rt, x.ra, x.ri]) (hbad : x.bad = false)
  (hea : x.ea (s.strand i) = ea)
include h hbad hea

/-- A load outside the peripheral region that finds word w, in state t else, ends in t after its strand has loaded it. -/
theorem exec_ld_ready {t : State} {w : Word} (hper : region ea.toNat ≠ .periph) (hbp : s.bpMatch i 1 ea.toNat = []) (ht : s.IssuesAlike t)
    (hload : ∀ f l, (s.withFetch f l).doLoad i x ea = (t.withFetch f l).endLoad i x ea w) :
    exec (.ld i x) s = .next (t.after i ((s.strand i).loads x w)) := by
  subst hea
  have hexec : exec (.ld i x) s = if region (x.ea (s.strand i)).toNat = .periph then _ else
      done (s.issue i [x.rt, x.ra, x.ri] x.bad (fun t => t.doLoad i x (x.ea (s.strand i)))) := rfl
  rw [hexec, if_neg hper, hbad]
  refine congrArg done (State.issue_gives h ht (fun f l => (hload f l).trans ?_))
  have hstrand : (t.withFetch f l).strand i = s.strand i := ht.strand i
  have htime : (t.withFetch f l).time.dtime = s.time.dtime := congrArg Time.dtime ht.time
  have hwait : ((t.withFetch f l).strand i).xipWait = none := by rw [hstrand, h.xipWait]
  rw [State.endLoad_issued hwait ((ht.bpMatch i 1 _).trans hbp), hstrand, htime]

theorem exec_ld_ram (hbp : s.bpMatch i 1 ea.toNat = []) (hr : region ea.toNat = .ram)
    (he : spGet (fun _ => 0) s.mem.ramErr ea.toNat = 0) :
    exec (.ld i x) s = .next (s.after i ((s.strand i).loads x (s.ramAt ea.toNat))) :=
  exec_ld_ready h hbad hea (by simp [hr]) hbp (.refl s) (fun _ _ => State.doLoad_ram hr he)

theorem exec_ld_mram (hbp : s.bpMatch i 1 ea.toNat = [])
    (hr : region ea.toNat = .mramUser ∨ (region ea.toNat = .mramSys ∧ sysLoadable ea.toNat = true)) (he : s.mramBad ea.toNat = 0) :
    let r := s.liveLoad ea.toNat (s.mramAt ea.toNat)
    exec (.ld i x) s = .next (r.2.after i ((s.strand i).loads x r.1)) := by
  have hper : region ea.toNat ≠ .periph := by rcases hr with hr | ⟨hr, -⟩ <;> simp [hr]
  refine exec_ld_ready h hbad hea hper hbp (State.liveLoad_issuesAlike ..) (fun f l => ?_)
  have hload := State.doLoad_mram (s := s.withFetch f l) (i := i) (x := x) hr he
  have hword : (s.withFetch f l).mramAt ea.toNat = s.mramAt ea.toNat := rfl
  rwa [hword, State.liveLoad_withFetch] at hload

theorem exec_ld_rom (hbp : s.bpMatch i 1 ea.toNat = []) (hr : region ea.toNat = .rom) (hs : isSup i = true) :
    exec (.ld i x) s = .next (s.after i ((s.strand i).loads x (Config.romWord ea.toNat))) :=
  exec_ld_ready h hbad hea (by simp [hr]) hbp (.refl s) (fun _ _ => State.doLoad_rom hr hs)

end

/-! ## Stores (R166, R192, R745) -/

/-- RAM with the word at an address stored, which a pair in sync notes for the digest. -/
def State.stored (s : State) (a : Nat) (v : Word) : State := (s.ramSet a v).noteStore a [v]

theorem State.stored_withFetch (s : State) (a : Nat) (v : Word) (f : Flash) (l : List Word) :
    (s.withFetch f l).stored a v = (s.stored a v).withFetch f l := by
  have hpaired : ((s.withFetch f l).ramSet a v).paired = (s.ramSet a v).paired := rfl
  unfold State.stored State.noteStore
  rw [hpaired]
  cases (s.ramSet a v).paired <;> rfl

theorem State.stored_issuesAlike (s : State) (a : Nat) (v : Word) : s.IssuesAlike (s.stored a v) := by
  unfold State.stored State.noteStore
  cases (s.ramSet a v).paired <;> exact ⟨rfl, rfl, rfl, rfl, fun _ _ => rfl⟩

/-- A store writes RAM and touches neither MRAM nor a register. -/
theorem State.stored_frame (s : State) (a : Nat) (v : Word) :
    (s.stored a v).ram = (s.ramSet a v).ram ∧ (s.stored a v).mram = s.mram ∧ (s.stored a v).regs = s.regs := by
  unfold State.stored State.noteStore
  cases (s.ramSet a v).paired <;> exact ⟨rfl, rfl, rfl⟩

theorem State.doStore_ram {s : State} {i : StrandId} {x : FmtM} {ea : BitVec 24} (hr : region ea.toNat = .ram) (hf : s.fenceBars ea.toNat = false)
    (hbp : s.bpMatch i 2 ea.toNat = []) : s.doStore i x ea =
      (s.stored ea.toNat ((s.strand i).rd x.rt)).setStrand i ((x.writeBack (s.strand i)).next.issued s.time.dtime) := by
  have hok : accessFault (isSup i) .store ea.toNat = none := by simp [accessFault, hr]
  unfold State.doStore
  rw [hok, hf]
  refine (if_neg Bool.false_ne_true).trans (if_pos ?_)
  show ((s.stored ea.toNat ((s.strand i).rd x.rt)).bpMatch i 2 ea.toNat).isEmpty = true
  rw [(State.stored_issuesAlike ..).bpMatch, hbp]
  rfl

theorem exec_st_ram {s : State} {i : StrandId} {x : FmtM} {ea : BitVec 24} (h : s.ready i [x.rt, x.ra, x.ri]) (hbad : x.bad = false)
    (hea : x.ea (s.strand i) = ea) (hbp : s.bpMatch i 2 ea.toNat = []) (hr : region ea.toNat = .ram) (hf : s.fenceBars ea.toNat = false) :
    exec (.st i x) s = .next ((s.stored ea.toNat ((s.strand i).rd x.rt)).after i (x.writeBack (s.strand i)).next) := by
  subst hea
  have hexec : exec (.st i x) s = if region (x.ea (s.strand i)).toNat = .periph then _ else
      done (s.issue i [x.rt, x.ra, x.ri] x.bad (fun t => t.doStore i x (x.ea (s.strand i)))) := rfl
  rw [hexec, if_neg (by simp [hr]), hbad]
  refine congrArg done (State.issue_gives h (State.stored_issuesAlike ..) (fun f l => ?_))
  rw [← State.stored_withFetch]
  exact State.doStore_ram (s := s.withFetch f l) hr hf hbp

theorem State.put_regs {s t : State} (h : t.regs = s.regs) (f : Fld) (v : Nat) : (t.put f v).regs = (s.put f v).regs := by
  show spSet resetWord t.regs f.addr (setBits (spGet resetWord t.regs f.addr) f.lo f.len v) = _
  rw [h]
  rfl

/-- The registers after an issue are those before it, but for the end of a debug step (R792). -/
theorem State.after_regs {s t : State} {i : StrandId} (hregs : t.regs = s.regs) (hstrand : t.strand i = s.strand i) (y z : Strand) :
    (t.after i y).regs = (s.after i z).regs := by
  have hset : (((t.touchFetch i).noteIssue i).setStrand i (y.issued t.time.dtime)).regs =
      (((s.touchFetch i).noteIssue i).setStrand i (z.issued s.time.dtime)).regs := by
    show ((t.touchFetch i).noteIssue i).regs = ((s.touchFetch i).noteIssue i).regs
    rw [State.noteIssue_regs, State.touchFetch_regs, State.noteIssue_regs, State.touchFetch_regs, hregs]
  unfold State.after
  rw [hstrand]
  cases (s.strand i).stepping
  · exact hset
  · exact State.put_regs hset R.DBG_STAT_CAUSE 3

/-- Settles O17: a load by the region of its address, then a store to RAM with what it leaves unchanged. -/
theorem loadsAndStores : Obligations.LoadsAndStores := by
  unfold Obligations.LoadsAndStores
  intro s i x h hbad y ea loaded
  refine ⟨fun hbp => ⟨fun hr he => exec_ld_ram h hbad rfl hbp hr he, fun hr he => ⟨fun hlocal => ?notLocal, exec_ld_mram h hbad rfl hbp hr he⟩,
    fun hr hs => ⟨_, exec_ld_rom h hbad rfl hbp hr hs⟩⟩, fun hbp hr hf hwf => ?store⟩
  case notLocal =>
    have hload := exec_ld_mram h hbad rfl hbp hr he
    rwa [State.liveLoad_not_local hlocal] at hload
  case store =>
    obtain ⟨hram, hmram, hregs⟩ := State.stored_frame s ea.toNat (y.rd x.rt)
    obtain ⟨haram, hamram, -⟩ := State.after_frame (s.stored ea.toNat (y.rd x.rt)) i (x.writeBack y).next
    obtain ⟨-, hwfram, -⟩ := (Memory.wf_iff s).1 hwf
    have hread : ∀ a, ((s.stored ea.toNat (y.rd x.rt)).after i (x.writeBack y).next).ramAt a = (s.ramSet ea.toNat (y.rd x.rt)).ramAt a :=
      fun a => by
        unfold State.ramAt
        rw [haram, hram]
    exact ⟨_, exec_st_ram h hbad rfl hbp hr hf, rfl, (hread _).trans (State.ramAt_ramSet_same hwfram _ _),
      fun a ha => (hread a).trans (State.ramAt_ramSet_ne s _ ha), hamram.trans hmram,
      State.after_regs hregs ((State.stored_issuesAlike ..).strand i) _ _⟩

end Sys2Proof.Machine
end

section
/-!
PROOFS. Division and square roots (spec/07, spec/09): quotients and remainders as words, the bitwise root, and the obligation O19.
-/
namespace Sys2Proof.Machine

/-! ## Issue -/

/-- A division of a ready strand whose encoding is allowed goes in flight with its result. -/
theorem State.issueDiv_ready {s : State} {i : StrandId} {x : FmtX} (h : s.readyLong i [x.rd, x.ra, x.rb]) (hrsv : x.rsv = 0) (himm : x.imm = 0)
    {r : Word × Bool × Bool} {v : Word} {sat dz : Bool} (hr : r = (v, sat, dz)) :
    done (s.issueDiv i x r) = .next (s.inFlight i (.compute 1 x.rd v sat dz false) .begun) := by
  subst hr
  have hbad : x.unused true true true false = false := by simp [FmtX.unused, *]
  unfold State.issueDiv
  rw [hbad]
  exact congrArg done (State.issueLong_ready h)

theorem State.issueRoot_ready {s : State} {i : StrandId} {x : FmtX} (h : s.readyLong i [x.rd, x.ra]) (hrb : x.rb = 0) (hrsv : x.rsv = 0)
    (himm : x.imm = 0) {r : Word × Bool × Bool} {v : Word} {sat dom : Bool} (hr : r = (v, sat, dom)) :
    done (s.issueRoot i x r) = .next (s.inFlight i (.compute 2 x.rd v sat false dom) .begun) := by
  subst hr
  have hbad : x.unused true true false false = false := by simp [FmtX.unused, *]
  unfold State.issueRoot
  rw [hbad]
  exact congrArg done (State.issueLong_ready h)

/-! ## Quotients and remainders (R237, R292, R293) -/

/-- An exact value saturated to s48, as a long operation carries it. -/
theorem clampS48_eq (e : Int) : clampInt e s48Min s48Max = (max s48Min (min s48Max e), misfits false e) :=
  clampInt_eq (by norm_num [s48Min, s48Max]) e

/-- What a signed division by zero returns: the limit of the dividend's sign, 0 for 0 (R237). -/
def quotientByZero (a : Word) : Int := if a = 0 then 0 else if a.toInt < 0 then -2 ^ 47 else 2 ^ 47 - 1

theorem wordOf_quotientByZero (a : Word) : (if a = 0 then 0 else if a.toInt < 0 then Word.ofS s48Min else Word.ofS s48Max) =
    BitVec.ofInt 48 (quotientByZero a) := by
  unfold quotientByZero
  split_ifs <;> rfl

theorem divS_eq (a b : Word) : divS a b = (if b = 0 then BitVec.ofInt 48 (quotientByZero a) else wordOf true false (a.toInt.tdiv b.toInt),
    if b = 0 then false else misfits false (a.toInt.tdiv b.toInt), decide (b = 0)) := by
  unfold divS
  rw [wordOf_quotientByZero, clampS48_eq]
  split_ifs with hb
  · rw [decide_eq_true hb]
  · rw [decide_eq_false hb]
    rfl

theorem divQ_eq (rm : BitVec 2) (n : Nat) (a b : Word) : divQ rm n a b =
    (if b = 0 then BitVec.ofInt 48 (quotientByZero a) else wordOf true false (roundDiv rm (a.toInt * 2 ^ n) b.toInt),
      if b = 0 then false else misfits false (roundDiv rm (a.toInt * 2 ^ n) b.toInt), decide (b = 0)) := by
  unfold divQ
  rw [wordOf_quotientByZero, clampS48_eq]
  split_ifs with hb
  · rw [decide_eq_true hb]
  · rw [decide_eq_false hb]
    rfl

theorem divU_eq (a b : Word) : divU a b =
    (if b = 0 then (if a = 0 then 0 else 0xFFFFFFFFFFFF#48) else BitVec.ofNat 48 (a.toNat / b.toNat), false, decide (b = 0)) := by
  unfold divU
  split_ifs with hb
  · rw [decide_eq_true hb]
  · exact congrArg (fun dz => (0xFFFFFFFFFFFF#48, false, dz)) (decide_eq_true hb).symm
  · rw [decide_eq_false hb, ← BitVec.toNat_udiv, BitVec.ofNat_toNat, BitVec.setWidth_eq]

theorem remS_eq (a b : Word) : remS a b = (if b = 0 then a else BitVec.ofInt 48 (a.toInt.tmod b.toInt), false, decide (b = 0)) := by
  unfold remS
  split_ifs with hb
  · rw [decide_eq_true hb]
  · rw [decide_eq_false hb]
    rfl

theorem remU_eq (a b : Word) : remU a b = (if b = 0 then a else BitVec.ofNat 48 (a.toNat % b.toNat), false, decide (b = 0)) := by
  unfold remU
  split_ifs with hb
  · rw [decide_eq_true hb]
  · rw [decide_eq_false hb, ← BitVec.toNat_umod, BitVec.ofNat_toNat, BitVec.setWidth_eq]

/-- A signed division by zero carries its limit with SAT clear, another its saturated quotient. -/
theorem State.issueDiv_signed {s : State} {i : StrandId} {x : FmtX} (h : s.readyLong i [x.rd, x.ra, x.rb]) (hrsv : x.rsv = 0)
    (himm : x.imm = 0) {r : Word × Bool × Bool} {b limit : Word} {e : Int} {dz : Bool}
    (hr : r = (if b = 0 then limit else wordOf true false e, if b = 0 then false else misfits false e, dz)) :
    done (s.issueDiv i x r) = if b = 0 then .next (s.inFlight i (.compute 1 x.rd limit false dz false) .begun)
      else .next (s.inFlight i (.compute 1 x.rd (wordOf true false e) (misfits false e) dz false) .begun) := by
  rw [State.issueDiv_ready h hrsv himm hr]
  split_ifs <;> rfl

theorem toInt_ne_zero {b : Word} (hb : b ≠ 0) : b.toInt ≠ 0 := fun h => hb (BitVec.eq_of_toInt_eq (h.trans BitVec.toInt_zero.symm))

/-! ## Square roots (R292, R293) -/

/-- Bits from n - 1 down complete a root that is within 2 ^ n below the exact one. -/
theorem isqrtLoop_floor (x : Nat) : ∀ (n r : Nat), r * r ≤ x → x < (r + 2 ^ n) * (r + 2 ^ n) →
    isqrtLoop x n r * isqrtLoop x n r ≤ x ∧ x < (isqrtLoop x n r + 1) * (isqrtLoop x n r + 1)
  | 0, r, hlow, hhigh => ⟨hlow, hhigh⟩
  | n + 1, r, hlow, hhigh => by
    unfold isqrtLoop
    split_ifs with hbit
    · refine isqrtLoop_floor x n _ hbit ?_
      rwa [add_assoc, ← two_mul, ← pow_succ']
    · exact isqrtLoop_floor x n r hlow (not_le.1 hbit)

theorem isqrt_floor {x : Nat} (hx : x < 2 ^ 96) : isqrt x * isqrt x ≤ x ∧ x < (isqrt x + 1) * (isqrt x + 1) :=
  isqrtLoop_floor x 48 0 (Nat.zero_le _) (by simpa using hx)

/-- q is the root of n by RM: the nearest integer in modes 0 and 1, where no tie exists, else the floor (R247). -/
def IsRoot (rm : BitVec 2) (n q : Nat) : Prop :=
  if rm = 0 ∨ rm = 1 then q * q < n + q + 1 ∧ n ≤ q * q + q else q * q ≤ n ∧ n < (q + 1) * (q + 1)

theorem sqrtRound_isRoot (rm : BitVec 2) {x : Nat} (hx : x < 2 ^ 96) : IsRoot rm x (sqrtRound rm x) := by
  obtain ⟨hlow, hhigh⟩ := isqrt_floor hx
  unfold IsRoot sqrtRound
  generalize isqrt x = q at *
  have hsq : (q + 1) * (q + 1) = q * q + q + q + 1 := by ring
  by_cases hrm : rm = 0 ∨ rm = 1
  · simp only [if_pos hrm]
    split_ifs <;> constructor <;> omega
  · simp only [if_neg hrm]
    exact ⟨hlow, hhigh⟩

theorem sqrtQ_negative (rm : BitVec 2) (n : Nat) {a : Word} (ha : a.toInt < 0) : sqrtQ rm n a = (0, false, true) := if_pos ha

theorem sqrtQ_nonneg (rm : BitVec 2) (n : Nat) {a : Word} (ha : 0 ≤ a.toInt) : sqrtQ rm n a =
    (wordOf true false (sqrtRound rm (a.toNat * 2 ^ n)), misfits false (sqrtRound rm (a.toNat * 2 ^ n)), false) := by
  unfold sqrtQ
  rw [if_neg (not_lt.2 ha), clampS48_eq]
  rfl

/-- A word that is not negative, with up to 48 fraction bits, is below the bound of the bitwise root. -/
theorem scaled_lt {n : Nat} (hn : n ≤ 48) (a : Word) : a.toNat * 2 ^ n < 2 ^ 96 :=
  calc a.toNat * 2 ^ n < 2 ^ 48 * 2 ^ n := Nat.mul_lt_mul_of_pos_right a.isLt (Nat.two_pow_pos n)
    _ ≤ 2 ^ 48 * 2 ^ 48 := Nat.mul_le_mul_left _ (Nat.pow_le_pow_right (by decide) hn)

/-- Settles O19: what each operation carries in flight is the result of the lemma about its quotient, remainder or root. -/
theorem divisionAndRootIssue : Obligations.DivisionAndRootIssue := by
  unfold Obligations.DivisionAndRootIssue
  refine ⟨fun s i x h hrsv himm => ?division, fun s i x h hrb hrsv himm => ?root⟩
  case division =>
    intro y a b big r
    exact ⟨State.issueDiv_signed h hrsv himm (divS_eq a b), State.issueDiv_ready h hrsv himm (divU_eq a b),
      State.issueDiv_ready h hrsv himm (remS_eq a b), State.issueDiv_ready h hrsv himm (remU_eq a b),
      ⟨_, State.issueDiv_signed h hrsv himm (divQ_eq y.st.rm 24 a b), fun hb => roundDiv_rounds _ _ (toInt_ne_zero hb)⟩,
      ⟨_, State.issueDiv_signed h hrsv himm (divQ_eq y.st.rm 47 a b), fun hb => roundDiv_rounds _ _ (toInt_ne_zero hb)⟩⟩
  case root =>
    intro y a r rootOf
    refine ⟨⟨isqrt a.toNat, State.issueRoot_ready h hrb hrsv himm rfl, isqrt_floor (a.isLt.trans (by norm_num))⟩, fun ha => ⟨?_, ?_⟩,
      fun ha => ⟨⟨sqrtRound y.st.rm (a.toNat * 2 ^ 24), ?_, sqrtRound_isRoot _ (scaled_lt (by decide) a)⟩,
        sqrtRound y.st.rm (a.toNat * 2 ^ 47), ?_, sqrtRound_isRoot _ (scaled_lt (by decide) a)⟩⟩
    · exact State.issueRoot_ready h hrb hrsv himm (sqrtQ_negative _ 24 ha)
    · exact State.issueRoot_ready h hrb hrsv himm (sqrtQ_negative _ 47 ha)
    · exact State.issueRoot_ready h hrb hrsv himm (sqrtQ_nonneg _ 24 ha)
    · exact State.issueRoot_ready h hrb hrsv himm (sqrtQ_nonneg _ 47 ha)

end Sys2Proof.Machine
end

section
/-!
PROOFS. Additions, subtractions and compares (spec/08): what the exact sum or difference makes of a strand, and the obligation O9.
-/
namespace Sys2Proof.Machine

/-! ## The Add and Subtract rows (R234, R265) -/

/-- Signed overflow is that the exact value does not fit s48. -/
theorem outS48_eq_misfits (e : Int) : outS48 e = misfits false e := rfl

/-- The exact sum wraps or saturates to the word (R245); C and V are read off the sums of the operands, whatever S and U are. -/
theorem Strand.next_doAdd (y : Strand) (rd : BitVec 5) (a b : Word) (cin : Nat) (f s u : Bool) :
    (y.doAdd rd a b cin f s u).next = y.addRow rd a b cin f s u := by
  unfold Strand.doAdd addOverflow
  rw [formWord_eq, outS48_eq_misfits]
  exact Strand.next_result ..

/-- The exact difference in the same way, with the borrow in C. -/
theorem Strand.next_doSub (y : Strand) (rd : BitVec 5) (a b : Word) (cin : Nat) (f s u : Bool) :
    (y.doSub rd a b cin f s u).next = y.subRow rd a b cin f s u := by
  unfold Strand.doSub subOverflow
  rw [formWord_eq, outS48_eq_misfits]
  exact Strand.next_result ..

/-- Settles O9: the operands by their format, each result by the lemma about its row. -/
theorem arithResults : Obligations.ArithResults := by
  unfold Obligations.ArithResults
  refine fun s i => ⟨fun x h hac ham himm => ?registers, fun x h => ?immediate⟩
  case registers =>
    have hcarry : (if (s.strand i).st.c then 1 else 0) = (s.strand i).st.c.toNat := (Bool.cond_eq_ite ..).symm
    have hbad : x.unused true true true true true true false false false = false := by simp [FmtA.unused, *]
    refine ⟨?add, ?adc, ?sub, ?sbc, fun hrb hu => ?neg, fun hrd hf hs hu => ?compare⟩
    case add => exact State.issueShort_gives h (by simp) hbad (Strand.next_doAdd ..)
    case adc =>
      rw [hcarry]
      exact State.issueShort_gives h (by simp) hbad (Strand.next_doAdd ..)
    case sub => exact State.issueShort_gives h (by simp) hbad (Strand.next_doSub ..)
    case sbc =>
      rw [hcarry]
      exact State.issueShort_gives h (by simp) hbad (Strand.next_doSub ..)
    case neg => exact State.issueShort_gives h (by simp) (by simp [FmtA.unused, *]) (Strand.next_doSub ..)
    case compare =>
      have hcmp : x.unused false true true false false false false false false = false := by simp [FmtA.unused, *]
      exact ⟨State.issueShort_gives h (by simp) hcmp (Strand.next_doSub ..), State.issueShort_gives h (by simp) hcmp (Strand.next_doAdd ..),
        State.issueShort_gives h (by simp) hcmp (Strand.next_doLogic ..)⟩
  case immediate =>
    exact ⟨State.issueShort_gives h (by simp) rfl (Strand.next_doAdd ..), State.issueShort_gives h (by simp) rfl (Strand.next_doSub ..),
      State.issueShort_gives h (by simp) rfl (Strand.next_doSub ..)⟩

end Sys2Proof.Machine
end

section
/-!
PROOFS. Frames of fields: the fields of registers that a change puts, so that every other field and word of a register reads as before.
-/
namespace Sys2Proof.Machine

/-- In going from s to u only fields of the list l may have changed among the registers, and neither a word of RAM or MRAM nor the capture
edges kept of the beat have. -/
structure State.PutsOnly (l : List Fld) (s u : State) : Prop where
  mem : s.memSame u
  edges : u.now.edges = s.now.edges
  get : ∀ g, (∀ f ∈ l, f.apart g) → u.get g = s.get g
  wf : regsWf u

theorem Now.mark_edges (n : Now) (f : Fld) (m : Nat) : (n.mark f m).edges = n.edges := by
  unfold Now.mark
  split <;> rfl

/-- A register as the field of all its bits. -/
theorem State.reg_eq_get (s : State) (a : Nat) (b : Bool) : s.reg a = BitVec.ofNat 48 (s.get ⟨a, 0, 48, b⟩) := by
  have hlt : (s.reg a).toNat < 2 ^ 48 := (s.reg a).isLt
  show _ = BitVec.ofNat 48 ((s.reg a).toNat >>> 0 % 2 ^ 48)
  rw [Nat.shiftRight_zero, Nat.mod_eq_of_lt hlt, BitVec.ofNat_toNat, BitVec.setWidth_eq]

theorem setBits_whole (w v : Word) : setBits w 0 48 v.toNat = v := by
  refine BitVec.eq_of_getLsbD_eq fun i hi => ?_
  rw [setBits_getLsbD, BitVec.testBit_toNat]
  simp [hi]

/-- A register written as a word is its field of all bits put. -/
theorem State.setReg_eq_put (s : State) {f : Fld} (hlo : f.lo = 0) (hlen : f.len = 48) (w : Word) :
    (s.setReg f.addr w).regs = (s.put f w.toNat).regs := by
  show _ = (s.setReg f.addr (setBits (s.reg f.addr) f.lo f.len w.toNat)).regs
  rw [hlo, hlen, setBits_whole]

/-- A flag reads 0 or 1. -/
theorem State.get_flag (s : State) {f : Fld} (hf : f.len = 1) : s.get f = 0 ∨ s.get f = 1 := by
  have hlt := getBits_lt (s.reg f.addr) f.lo f.len
  rw [hf] at hlt
  unfold State.get
  rw [hf]
  omega

theorem State.on_iff (s : State) {f : Fld} (hf : f.len = 1) : s.on f = true ↔ s.get f = 1 := by
  unfold State.on
  rcases s.get_flag hf with h | h <;> simp [h]

namespace State.PutsOnly

variable {l m : List Fld} {s u v : State}

theorem refl (h : regsWf s) : State.PutsOnly l s s := ⟨⟨rfl, rfl⟩, rfl, fun _ _ => rfl, h⟩

/-- A change whose fields are in the list may follow. -/
theorem andThen (h : State.PutsOnly l s u) (k : State.PutsOnly m u v) (hm : m ⊆ l) : State.PutsOnly l s v where
  mem := ⟨k.mem.1.trans h.mem.1, k.mem.2.trans h.mem.2⟩
  edges := k.edges.trans h.edges
  get g hg := (k.get g fun f hf => hg f (hm hf)).trans (h.get g hg)
  wf := k.wf

theorem mono (h : State.PutsOnly l s u) (hm : l ⊆ m) : State.PutsOnly m s u :=
  ⟨h.mem, h.edges, fun g hg => h.get g fun f hf => hg f (hm hf), h.wf⟩

/-- A change of what is no register, memory word or kept edge may follow. -/
theorem keep (h : State.PutsOnly l s u) (e : (v.regs, v.ram, v.mram, v.now.edges) = (u.regs, u.ram, u.mram, u.now.edges)) :
    State.PutsOnly l s v := by
  obtain ⟨hr, ha, hm, he⟩ : v.regs = u.regs ∧ v.ram = u.ram ∧ v.mram = u.mram ∧ v.now.edges = u.now.edges := by simpa using e
  refine ⟨⟨ha.trans h.mem.1, hm.trans h.mem.2⟩, he.trans h.edges, fun g hg => (h.get g hg).symm ▸ ?_, ?_⟩
  · unfold State.get State.reg
    rw [hr]
  · unfold regsWf
    rw [hr]
    exact h.wf

theorem put (h : State.PutsOnly l s u) (f : Fld) (hf : f ∈ l) (n : Nat) : State.PutsOnly l s (u.put f n) where
  mem := h.mem
  edges := (Now.mark_edges ..).trans h.edges
  get g hg := (State.get_put_ne h.wf f g n (hg f hf)).trans (h.get g hg)
  wf := State.regsWf_put h.wf f n

theorem modPos (h : State.PutsOnly l s u) (c : Course) (f : Pos → Pos) : State.PutsOnly l s (u.modPos c f) := h.keep rfl

theorem modTc (h : State.PutsOnly l s u) (n : Fin 16) (f : Tc → Tc) : State.PutsOnly l s (u.modTc n f) := h.keep rfl

theorem bump (h : State.PutsOnly l s u) (f : Fld) (hf : f ∈ l) : State.PutsOnly l s (u.bump f) := h.put f hf _

theorem setReg (h : State.PutsOnly l s u) (f : Fld) (hf : f ∈ l) (hlo : f.lo = 0) (hlen : f.len = 48) (w : Word) :
    State.PutsOnly l s (u.setReg f.addr w) where
  mem := h.mem
  edges := h.edges
  get g hg := by
    rw [← (h.put f hf w.toNat).get g hg]
    unfold State.get State.reg
    rw [State.setReg_eq_put u hlo hlen]
  wf := State.regsWf_setReg h.wf _ w

theorem when (h : State.PutsOnly l s u) (b : Bool) {f : State → State} (k : State.PutsOnly l s (f u)) : State.PutsOnly l s (u.when b f) :=
  State.when_cases k h

/-- A word of which none of the fields is a part reads as before. -/
theorem word (h : State.PutsOnly l s u) (g : Fld) (hlo : g.lo = 0) (hlen : g.len = 48) (hg : ∀ f ∈ l, f.apart g) :
    u.reg g.addr = s.reg g.addr := by
  have hget := h.get g hg
  obtain ⟨a, lo, len, b⟩ := g
  subst hlo hlen
  rw [State.reg_eq_get u a b, State.reg_eq_get s a b, hget]

/-- A register that holds none of the fields reads as before. -/
theorem reg (h : State.PutsOnly l s u) (a : Nat) (ha : ∀ f ∈ l, f.addr ≠ a) : u.reg a = s.reg a :=
  h.word ⟨a, 0, 48, false⟩ rfl rfl fun f hf => Or.inl (ha f hf)

theorem on (h : State.PutsOnly l s u) (g : Fld) (hg : ∀ f ∈ l, f.apart g) : u.on g = s.on g := by
  unfold State.on
  rw [h.get g hg]

end State.PutsOnly

/-- A journal item shows in the fill of its buffer only (R737). -/
theorem State.jot_puts {s : State} (hs : regsWf s) (k : Nat) (ws : List Word) : State.PutsOnly [R.PEER_TWFILL_MAX] s (s.jot k ws) := by
  unfold State.jot State.jotItem
  split
  · exact State.PutsOnly.put (u := s.modTwin _) ((State.PutsOnly.refl hs).keep rfl) R.PEER_TWFILL_MAX (by simp) _
  · exact .refl hs

@[simp] theorem State.jot_pos (s : State) (k : Nat) (ws : List Word) : (s.jot k ws).pos = s.pos := by
  unfold State.jot State.jotItem
  split <;> rfl

@[simp] theorem State.jot_tc (s : State) (k : Nat) (ws : List Word) : (s.jot k ws).tc = s.tc := by
  unfold State.jot State.jotItem
  split <;> rfl

end Sys2Proof.Machine
end

section
/-!
PROOFS. Positions (spec/18): what a Hall registration, a write of SET or ADD and a sample of the low-power sampler make of a counter.
-/
namespace Sys2Proof.Machine

/-! ## The position of a course -/

theorem State.posn_of_pos {s t : State} (h : t.pos = s.pos) (c : Course) : t.posn c = s.posn c := by
  unfold State.posn
  rw [h]

@[simp] theorem State.posn_modPos (s : State) (c : Course) (f : Pos → Pos) : (s.modPos c f).posn c = f (s.posn c) := by
  simp [State.posn, State.modPos]

@[simp] theorem State.put_posn (s : State) (f : Fld) (v : Nat) (c : Course) : (s.put f v).posn c = s.posn c := rfl

@[simp] theorem State.posAdd_posn (s : State) (c d : Course) (k : Int) : (s.posAdd c k).posn d = s.posn d := rfl

theorem State.posn_modPos_ne (s : State) {c d : Course} (f : Pos → Pos) (h : d ≠ c) : (s.modPos c f).posn d = s.posn d := by
  have hne : c.val ≠ d.val := fun e => h (Fin.ext e.symm)
  simp [State.posn, State.modPos, Vector.getElem_set_ne _ _ hne]

/-! ## Sectors -/

/-- The count of a change of sector, as a table from 0 to 5 (R517). -/
theorem sectorStep_table : ∀ d < 6, sectorStep d = ([0, 1, 2, 0, -2, -1] : List Int).getD d 0 := by decide

theorem sectorStep_ne_zero : ∀ d < 6, d ≠ 0 → d ≠ 3 → sectorStep d ≠ 0 := by decide

theorem State.posStep_eq (s : State) (c : Course) {d : Nat} (hd : d < 6) : s.posStep c d =
    (let k : Int := [0, 1, 2, 0, -2, -1].getD d 0; if s.get (R.POS_CFG_DIR c) = 1 then -k else k) := by
  unfold State.posStep
  rw [sectorStep_table d hd]
  simp only [State.on_iff s (f := R.POS_CFG_DIR c) rfl]

theorem State.posStep_ne_zero (s : State) (c : Course) {d : Nat} (hd : d < 6) (h0 : d ≠ 0) (h3 : d ≠ 3) : s.posStep c d ≠ 0 := by
  have hstep := sectorStep_ne_zero d hd h0 h3
  unfold State.posStep
  split
  · exact neg_ne_zero.2 hstep
  · exact hstep

theorem sectorSkip_iff (d : Nat) : sectorSkip d = true ↔ d = 2 ∨ d = 3 ∨ d = 4 := by
  simp [sectorSkip, or_assoc]

/-! ## Operations on a counter -/

section
variable {s : State} (hs : regsWf s) (c : Course)
include hs

theorem State.posUnc_puts (k : Nat) : State.PutsOnly [R.POS_STAT_UNC c, R.POS_STAT_UNCSRC c] s (s.posUnc c k) := by
  unfold State.posUnc
  split
  · exact .refl hs
  · exact (((State.PutsOnly.refl hs).put (R.POS_STAT_UNC c) (by simp) 1).put (R.POS_STAT_UNCSRC c) (by simp) k).keep rfl

/-- POS_UNCERTAIN is set whatever it was (R529). -/
theorem State.posUnc_get (k : Nat) : (s.posUnc c k).get (R.POS_STAT_UNC c) = 1 := by
  unfold State.posUnc
  split
  · next h => exact (State.on_iff s rfl).1 h
  · have hp := State.get_put_ne (State.regsWf_put hs (R.POS_STAT_UNC c) 1) (R.POS_STAT_UNCSRC c) (R.POS_STAT_UNC c) k (by simp [Fld.apart])
    exact hp.trans (State.get_put_same hs _ _ (by simp))

theorem State.posBreak_puts : State.PutsOnly [R.POS_TINT_VALID c] s (s.posBreak c) :=
  ((State.PutsOnly.refl hs).modPos c _).put (R.POS_TINT_VALID c) (by simp) 0

theorem State.posBreak_get : (s.posBreak c).get (R.POS_TINT_VALID c) = 0 := State.get_put_same (s := s.modPos c _) hs _ _ (by simp)

theorem State.posShow_puts : State.PutsOnly [R.POS_STAT_HSTATE c, R.POS_STAT_SECT c] s (s.posShow c) :=
  ((State.PutsOnly.refl hs).put (R.POS_STAT_HSTATE c) (by simp) _).put (R.POS_STAT_SECT c) (by simp) _

theorem State.posShow_get : (s.posShow c).get (R.POS_STAT_HSTATE c) = (s.posn c).hst.toNat := by
  have hp := State.get_put_ne (State.regsWf_put hs (R.POS_STAT_HSTATE c) (s.posn c).hst.toNat) (R.POS_STAT_SECT c) (R.POS_STAT_HSTATE c)
    ((s.posn c).ref.getD 7) (by simp [Fld.apart])
  exact (hp.trans (State.get_put_same hs _ _ (by simp))).trans (Nat.mod_eq_of_lt (s.posn c).hst.isLt)

/-- The fields of the last transition and its interval. -/
def transFields (c : Course) : List Fld := [R.POS_LAST_T c, R.POS_TINT_INT c, R.POS_TINT_DIR c, R.POS_TINT_LP c, R.POS_TINT_VALID c]

theorem State.posTrans_puts (e : Word) (neg : Bool) : State.PutsOnly (transFields c) s (s.posTrans c e neg) := by
  have hr : State.PutsOnly (transFields c) s s := .refl hs
  have rest : ∀ {t}, State.PutsOnly (transFields c) s t → State.PutsOnly (transFields c) s
      ((((t.setReg (RW.POS_LAST c) e).putB (R.POS_TINT_DIR c) neg).put (R.POS_TINT_LP c) 0).modPos c (fun p => { p with chain := some e })) :=
    fun h => (((h.setReg (R.POS_LAST_T c) (by simp [transFields]) rfl rfl e).put (R.POS_TINT_DIR c) (by simp [transFields]) _).put
      (R.POS_TINT_LP c) (by simp [transFields]) 0).modPos c _
  unfold State.posTrans
  split
  · exact rest ((hr.put (R.POS_TINT_INT c) (by simp [transFields]) _).put (R.POS_TINT_VALID c) (by simp [transFields]) 1)
  · exact rest (hr.put (R.POS_TINT_VALID c) (by simp [transFields]) 0)

theorem State.posTrans_last (e : Word) (neg : Bool) : (s.posTrans c e neg).reg (RW.POS_LAST c) = e := by
  unfold State.posTrans
  have last : ∀ t : State, regsWf t →
      (((t.setReg (RW.POS_LAST c) e).putB (R.POS_TINT_DIR c) neg).put (R.POS_TINT_LP c) 0).reg (RW.POS_LAST c) = e :=
    fun t ht => ((State.reg_put_ne _ _ _ (by simp)).trans (State.reg_put_ne _ _ _ (by simp))).trans (State.reg_setReg_same ht _ _)
  refine last _ ?_
  split
  · exact State.regsWf_put (State.regsWf_put hs _ _) _ _
  · exact State.regsWf_put hs _ _

end

@[simp] theorem State.posUnc_pos (s : State) (c : Course) (k : Nat) : (s.posUnc c k).pos = s.pos := by
  unfold State.posUnc
  split <;> rfl

theorem State.posBreak_posn (s : State) (c : Course) : (s.posBreak c).posn c = { s.posn c with chain := none } := by
  unfold State.posBreak
  rw [State.put_posn, State.posn_modPos]

theorem State.posTrans_posn (s : State) (c : Course) (e : Word) (neg : Bool) :
    (s.posTrans c e neg).posn c = { s.posn c with chain := some e } := by
  unfold State.posTrans
  dsimp only
  rw [State.posn_modPos]
  split <;> rfl

/-! ## A change of sector (R517, R519 to R522) -/

/-- The Hall state is registered. -/
def State.posSeen (s : State) (c : Course) (h : BitVec 3) : State := s.modPos c (fun p => { p with hst := h })

theorem State.posSeen_posn (s : State) (c : Course) (h : BitVec 3) : (s.posSeen c h).posn c = { s.posn c with hst := h } :=
  State.posn_modPos s c fun p => { p with hst := h }

/-- The change is counted, and what it may yet have to be undone or reordered by is noted (R522). -/
def State.posCounted (s : State) (c : Course) (n d : Nat) : State :=
  (s.modPos c (fun p => { p with
    ref := some n, regBeat := some (s.time.dtime, s.posStep c d)
    regOld := [s.reg (RW.POS_CNT c), s.reg (RW.POS_LAST c), s.reg (RW.POS_TINT c), s.reg (RW.POS_STAT c)] })).posAdd c (s.posStep c d)

/-- A skipped state is counted and leaves the position uncertain. -/
def State.posSkips (s : State) (c : Course) (d : Nat) : State :=
  s.when (sectorSkip d) (fun t => ((t.bump (R.POS_STAT_SKIPCNT c)).posUnc c 1).posBreak c)

/-- A change of the beat of a SET shows. -/
def State.posHits (s : State) (c : Course) (hit : Bool) : State := s.when hit (·.put (R.POS_STAT_LDHIT c) 1)

/-- A transition to a neighbouring sector dates itself. -/
def State.posTimes (s : State) (c : Course) (d : Nat) (e : Word) (neg : Bool) : State :=
  if d = 1 ∨ d = 5 then s.posTrans c e neg else s

/-- All that a change of sector by d does but for a wake by motion. -/
def State.posMoved (s : State) (c : Course) (n d : Nat) (e : Word) : State :=
  (((s.posCounted c n d).posSkips c d).posHits c (s.posStep c d != 0 && (s.posn c).setBeat == some s.time.dtime)).posTimes c d e
    (decide (s.posStep c d < 0))

theorem State.posCount_sector {s : State} {c : Course} {h : BitVec 3} {n r : Nat} (hn : sectorOf h = some n) (hr : (s.posn c).ref = some r)
    (e : Word) : s.posCount c h e = (let u := s.posMoved c n ((n + 6 - r) % 6) e
      let ch := s.posStep c ((n + 6 - r) % 6)
      (sectorSkip ((n + 6 - r) % 6), if ch = 0 then u else u.hallWake c ch)) := by
  unfold State.posCount
  rw [hn, hr]
  rfl

theorem State.posCount_first {s : State} {c : Course} {h : BitVec 3} {n : Nat} (hn : sectorOf h = some n) (hr : (s.posn c).ref = none)
    (e : Word) : s.posCount c h e = (false, (s.modPos c (fun p => { p with ref := some n })).posBreak c) := by
  unfold State.posCount
  rw [hn, hr]

/-- An invalid state is counted as such and ends the interval (R521, R530). -/
def State.posInvalid (s : State) (c : Course) : State := ((s.put (R.POS_STAT_HINV c) 1).bump (R.POS_STAT_HINVCNT c)).posBreak c

theorem State.posCount_invalid {s : State} {c : Course} {h : BitVec 3} (hn : sectorOf h = none) (e : Word) :
    s.posCount c h e = (true, s.posInvalid c) := by
  unfold State.posCount
  rw [hn]
  rfl

theorem State.posInvalid_puts {s : State} (hs : regsWf s) (c : Course) :
    State.PutsOnly [R.POS_STAT_HINV c, R.POS_STAT_HINVCNT c, R.POS_TINT_VALID c] s (s.posInvalid c) := by
  refine (((State.PutsOnly.refl hs).put (R.POS_STAT_HINV c) (by simp) 1).bump (R.POS_STAT_HINVCNT c) (by simp)).andThen
    (State.posBreak_puts ?_ c) (by simp)
  exact State.regsWf_put (State.regsWf_put hs _ _) _ _

theorem State.posInvalid_get {s : State} (hs : regsWf s) (c : Course) : (s.posInvalid c).get (R.POS_STAT_HINV c) = 1 := by
  have hw : regsWf (s.put (R.POS_STAT_HINV c) 1) := State.regsWf_put hs _ _
  have hbump : ((s.put (R.POS_STAT_HINV c) 1).bump (R.POS_STAT_HINVCNT c)).get (R.POS_STAT_HINV c) = 1 :=
    (State.get_put_ne hw _ _ _ (by simp [Fld.apart])).trans (State.get_put_same hs _ _ (by simp))
  exact ((State.posBreak_puts (State.regsWf_put hw _ _) c).get _ (by simp [Fld.apart])).trans hbump

/-- Where neither a commit interval nor E2 runs, motion wakes nothing. -/
theorem State.hallWake_quiet {s : State} {c : Course} (hp : s.phaseRv = 0) (he : (s.posn c).e2 = none) (d : Int) :
    s.hallWake c d = s.modPos c (fun p => { p with e2 := p.e2.map (· + d) }) := by
  have hc : (s.modPos c (fun p => { p with e2 := p.e2.map (· + d) })).inCommit = false := by
    show (s.phaseRv == pCommit || (s.phaseRv == pHold && _)) = false
    rw [hp]
    rfl
  unfold State.hallWake
  simp [hc, he]

/-- The fields in which a skipped state shows. -/
def skipFields (c : Course) : List Fld := [R.POS_STAT_SKIPCNT c, R.POS_STAT_UNC c, R.POS_STAT_UNCSRC c, R.POS_TINT_VALID c]

/-- The fields in which a change of sector shows. -/
def countFields (c : Course) : List Fld :=
  [R.POS_CNT_COUNT c, R.POS_STAT_SKIPCNT c, R.POS_STAT_UNC c, R.POS_STAT_UNCSRC c, R.POS_STAT_LDHIT c] ++ transFields c

section
variable {s : State} (c : Course)

theorem State.posCounted_cnt (hs : regsWf s) (n d : Nat) :
    (s.posCounted c n d).reg (RW.POS_CNT c) = s.reg (RW.POS_CNT c) + BitVec.ofInt 48 (s.posStep c d) :=
  State.reg_setReg_same (s := s.modPos c _) hs _ _

theorem State.posCounted_puts (hs : regsWf s) (n d : Nat) : State.PutsOnly [R.POS_CNT_COUNT c] s (s.posCounted c n d) :=
  ((State.PutsOnly.refl hs).modPos c _).setReg (R.POS_CNT_COUNT c) (by simp) rfl rfl _

theorem State.posCounted_posn (n d : Nat) : (s.posCounted c n d).posn c = { s.posn c with
    ref := some n, regBeat := some (s.time.dtime, s.posStep c d)
    regOld := [s.reg (RW.POS_CNT c), s.reg (RW.POS_LAST c), s.reg (RW.POS_TINT c), s.reg (RW.POS_STAT c)] } := by
  unfold State.posCounted
  rw [State.posAdd_posn, State.posn_modPos]

theorem State.posSkips_puts (hs : regsWf s) (d : Nat) : State.PutsOnly (skipFields c) s (s.posSkips c d) := by
  have counted := (State.PutsOnly.refl (l := skipFields c) hs).bump (R.POS_STAT_SKIPCNT c) (by simp [skipFields])
  have uncertain := counted.andThen (State.posUnc_puts counted.wf c 1) (by simp [skipFields])
  exact (State.PutsOnly.refl hs).when _ (uncertain.andThen (State.posBreak_puts uncertain.wf c) (by simp [skipFields]))

/-- A skipped state leaves the position uncertain and no interval valid (R517, R530). -/
theorem State.posSkips_get (hs : regsWf s) {d : Nat} (hd : sectorSkip d = true) :
    (s.posSkips c d).get (R.POS_STAT_UNC c) = 1 ∧ (s.posSkips c d).get (R.POS_TINT_VALID c) = 0 := by
  have hw : regsWf (s.bump (R.POS_STAT_SKIPCNT c)) := State.regsWf_put hs _ _
  have huw := (State.posUnc_puts hw c 1).wf
  unfold State.posSkips
  rw [hd]
  exact ⟨((State.posBreak_puts huw c).get _ (by simp [Fld.apart])).trans (State.posUnc_get hw c 1), State.posBreak_get huw c⟩

theorem State.posSkips_posn (d : Nat) : ∃ k, (s.posSkips c d).posn c = { s.posn c with chain := k } := by
  unfold State.posSkips
  cases sectorSkip d with
  | false => exact ⟨_, rfl⟩
  | true =>
    refine ⟨none, (State.posBreak_posn ..).trans ?_⟩
    rw [State.posn_of_pos (State.posUnc_pos ..)]
    rfl

theorem State.posHits_puts (hs : regsWf s) (hit : Bool) : State.PutsOnly [R.POS_STAT_LDHIT c] s (s.posHits c hit) :=
  (State.PutsOnly.refl hs).when hit ((State.PutsOnly.refl hs).put (R.POS_STAT_LDHIT c) (by simp) 1)

theorem State.posHits_posn (hit : Bool) : (s.posHits c hit).posn c = s.posn c := State.when_cases (p := fun t => t.posn c = s.posn c) rfl rfl

theorem State.posTimes_puts (hs : regsWf s) (d : Nat) (e : Word) (neg : Bool) : State.PutsOnly (transFields c) s (s.posTimes c d e neg) := by
  unfold State.posTimes
  split
  · exact State.posTrans_puts hs c e neg
  · exact .refl hs

theorem State.posTimes_last (hs : regsWf s) {d : Nat} (hd : d = 1 ∨ d = 5) (e : Word) (neg : Bool) :
    (s.posTimes c d e neg).reg (RW.POS_LAST c) = e := by
  unfold State.posTimes
  rw [if_pos hd]
  exact State.posTrans_last hs c e neg

theorem State.posTimes_posn (d : Nat) (e : Word) (neg : Bool) : ∃ k, (s.posTimes c d e neg).posn c = { s.posn c with chain := k } := by
  unfold State.posTimes
  split
  · exact ⟨_, State.posTrans_posn s c e neg⟩
  · exact ⟨_, rfl⟩

/-- A change of sector changes the reference sector, and the count kept for the Hall wake not yet. -/
theorem State.posMoved_posn (n d : Nat) (e : Word) : ((s.posMoved c n d e).posn c).ref = some n
    ∧ ((s.posMoved c n d e).posn c).hst = (s.posn c).hst ∧ ((s.posMoved c n d e).posn c).e2 = (s.posn c).e2 := by
  obtain ⟨k, hk⟩ := State.posSkips_posn (s := s.posCounted c n d) c d
  unfold State.posMoved
  generalize (s.posStep c d != 0 && (s.posn c).setBeat == some s.time.dtime) = hit
  obtain ⟨j, hj⟩ := State.posTimes_posn (s := ((s.posCounted c n d).posSkips c d).posHits c hit) c d e (decide (s.posStep c d < 0))
  rw [hj, State.posHits_posn, hk, State.posCounted_posn]
  exact ⟨rfl, rfl, rfl⟩

end

/-- The fields of a counter that a registration may change. -/
def posFields (c : Course) : List Fld :=
  [R.POS_STAT_HSTATE c, R.POS_STAT_SECT c, R.POS_STAT_HINV c, R.POS_STAT_HINVCNT c] ++ countFields c

/-- They are none of those that say how the course commutates or whether a commit interval runs. -/
theorem posFields_apart : ∀ c : Course, ∀ g ∈ [R.PWM_MCFG_MSRC c, R.PWR_RVSTAT_PHASE], ∀ f ∈ posFields c, f.apart g := by
  unfold posFields countFields transFields Fld.apart
  decide

/-- The fields in which the effect of a change of sector is read. -/
def resultFields (c : Course) : List Fld :=
  [R.POS_CNT_COUNT c, R.POS_LAST_T c, R.POS_STAT_UNC c, R.POS_TINT_VALID c, R.POS_STAT_LDHIT c]

/-- What a change of sector by d, from an edge at e, makes of the registers of a counter (R517, R519, R520, R522). -/
structure State.Counted (l : List Fld) (s u : State) (c : Course) (d : Nat) (e : Word) : Prop where
  puts : State.PutsOnly l s u
  cnt : u.reg (RW.POS_CNT c) = s.reg (RW.POS_CNT c) + BitVec.ofInt 48 (s.posStep c d)
  last : d = 1 ∨ d = 5 → u.reg (RW.POS_LAST c) = e
  skip : sectorSkip d = true → u.get (R.POS_STAT_UNC c) = 1 ∧ u.get (R.POS_TINT_VALID c) = 0
  hit : s.posStep c d ≠ 0 → (s.posn c).setBeat = some s.time.dtime → u.get (R.POS_STAT_LDHIT c) = 1

/-- What a change of sector made stays through changes of other fields. -/
theorem State.Counted.andThen {l m : List Fld} {s u v : State} {c : Course} {d : Nat} {e : Word} (h : State.Counted l s u c d e)
    (k : State.PutsOnly m u v) (hm : ∀ g ∈ resultFields c, ∀ f ∈ m, f.apart g) : State.Counted (l ++ m) s v c d e where
  puts := (h.puts.mono (List.subset_append_left l m)).andThen k (List.subset_append_right l m)
  cnt := (k.word (R.POS_CNT_COUNT c) rfl rfl (hm _ (by simp [resultFields]))).trans h.cnt
  last hd := (k.word (R.POS_LAST_T c) rfl rfl (hm _ (by simp [resultFields]))).trans (h.last hd)
  skip hd := ⟨(k.get _ (hm _ (by simp [resultFields]))).trans (h.skip hd).1, (k.get _ (hm _ (by simp [resultFields]))).trans (h.skip hd).2⟩
  hit hne hset := (k.get _ (hm _ (by simp [resultFields]))).trans (h.hit hne hset)

theorem State.posMoved_counted {s : State} (hs : regsWf s) (c : Course) (n d : Nat) (e : Word) :
    State.Counted (countFields c) s (s.posMoved c n d e) c d e := by
  unfold State.posMoved
  have counted := State.posCounted_puts c hs n d
  have skips := State.posSkips_puts c counted.wf d
  generalize hhit : (s.posStep c d != 0 && (s.posn c).setBeat == some s.time.dtime) = hit
  have hits := State.posHits_puts c skips.wf hit
  have times := State.posTimes_puts c hits.wf d e (decide (s.posStep c d < 0))
  refine ⟨?puts, ?cnt, fun hd => State.posTimes_last c hits.wf hd e _, fun hd => ?skip, fun hne hset => ?hit⟩
  case puts =>
    have skipped : State.PutsOnly (countFields c) s _ :=
      (counted.mono (by simp [countFields])).andThen skips (by simp [countFields, skipFields, transFields])
    exact (skipped.andThen hits (by simp [countFields])).andThen times (List.subset_append_right _ _)
  case cnt =>
    rw [times.reg _ (by simp [transFields]), hits.reg _ (by simp), skips.reg _ (by simp [skipFields]), State.posCounted_cnt c hs]
  case skip =>
    have hnot : ¬ (d = 1 ∨ d = 5) := by
      have := (sectorSkip_iff d).1 hd
      omega
    have hget := State.posSkips_get c counted.wf hd
    rw [State.posTimes, if_neg hnot, hits.get _ (by simp [Fld.apart]), hits.get _ (by simp [Fld.apart])]
    exact hget
  case hit =>
    obtain rfl : hit = true := by simp [← hhit, hne, hset]
    exact (times.get _ (by simp [transFields, Fld.apart])).trans (State.get_put_same skips.wf _ _ (by simp))

/-- The state registered does not bear on the count. -/
theorem State.Counted.of_hst {l : List Fld} {s u : State} {c : Course} {h : BitVec 3} {d : Nat} {e : Word} (hs : regsWf s)
    (k : State.Counted l (s.posSeen c h) u c d e) : State.Counted l s u c d e where
  puts := ((State.PutsOnly.refl hs).modPos c _).andThen k.puts (List.Subset.refl l)
  cnt := k.cnt
  last := k.last
  skip := k.skip
  hit hne hset := k.hit hne (by rw [State.posSeen_posn]; exact hset)

/-- Where no motion can wake, the whole count of a change of sector is that of the lemmas above. -/
theorem State.posCount_counted {s : State} (hs : regsWf s) {c : Course} {h : BitVec 3} {n r : Nat} (hphase : s.phaseRv = 0)
    (he2 : (s.posn c).e2 = none) (hn : sectorOf h = some n) (hr : (s.posn c).ref = some r) (e : Word) : ∃ u,
    s.posCount c h e = (sectorSkip ((n + 6 - r) % 6), u) ∧ State.Counted (countFields c) s u c ((n + 6 - r) % 6) e
      ∧ (u.posn c).ref = some n ∧ (u.posn c).hst = (s.posn c).hst := by
  refine ⟨_, State.posCount_sector hn hr e, ?_⟩
  generalize (n + 6 - r) % 6 = d
  have counted := State.posMoved_counted hs c n d e
  obtain ⟨href, hhst, he⟩ := State.posMoved_posn (s := s) c n d e
  split
  · exact ⟨counted, href, hhst⟩
  · have hquiet : (s.posMoved c n d e).phaseRv = 0 :=
      (counted.puts.get _ fun f hf => posFields_apart c R.PWR_RVSTAT_PHASE (by simp) f (List.mem_append_right _ hf)).trans hphase
    rw [State.hallWake_quiet hquiet (he.trans he2), State.posn_modPos]
    have kept := (State.PutsOnly.refl (l := []) counted.puts.wf).modPos c (fun p => { p with e2 := p.e2.map (· + s.posStep c d) })
    have after := counted.andThen kept (by simp)
    rw [List.append_nil] at after
    exact ⟨after, href, hhst⟩

/-! ## A registration -/

/-- The fields in which commutation and the twin's journal show the end of a registration. -/
def followFields (c : Course) : List Fld := [R.PWM_MSTAT_HINV c, R.PROTC_STAT_ACT c, R.PEER_TWFILL_MAX]

/-- The fields in which the end of a registration shows. -/
def showFields (c : Course) : List Fld := [R.POS_STAT_HSTATE c, R.POS_STAT_SECT c] ++ followFields c

theorem followFields_apart : ∀ c : Course, ∀ f ∈ followFields c, f.apart (R.POS_STAT_HSTATE c) := by
  unfold followFields Fld.apart
  decide

theorem showFields_apart : ∀ c : Course, ∀ g ∈ R.POS_STAT_HINV c :: resultFields c, ∀ f ∈ showFields c, f.apart g := by
  unfold showFields followFields resultFields Fld.apart
  decide

/-- A driver that takes commands leaves positions and kept edges alone. -/
theorem State.driveHb_keeps (s : State) (h : HB) (x : HalfBridge) (hi lo : Bool) :
    (s.driveHb h x hi lo).pos = s.pos ∧ (s.driveHb h x hi lo).now = s.now := by
  unfold State.driveHb
  dsimp only
  split <;> exact ⟨rfl, rfl⟩

theorem State.refreshHb_keeps (s : State) (h : HB) : (s.refreshHb h).pos = s.pos ∧ (s.refreshHb h).now = s.now := by
  unfold State.refreshHb
  dsimp only
  split <;> exact State.driveHb_keeps ..

theorem State.refresh_pos (s : State) (c : Course) : (s.refresh c).pos = s.pos := by
  unfold State.refresh
  dsimp only
  rw [(State.refreshHb_keeps ..).1, (State.refreshHb_keeps ..).1, (State.refreshHb_keeps ..).1]
  rfl

theorem State.refresh_puts {s : State} (hs : regsWf s) (c : Course) : State.PutsOnly [R.PROTC_STAT_ACT c] s (s.refresh c) := by
  obtain ⟨hregs, hram, hmram, -, -⟩ := State.refresh_frame s c
  have hnow : (s.refresh c).now = (s.put (R.PROTC_STAT_ACT c) (s.reaction c)).now := by
    unfold State.refresh
    dsimp only
    rw [(State.refreshHb_keeps ..).2, (State.refreshHb_keeps ..).2, (State.refreshHb_keeps ..).2]
  have shown := (State.PutsOnly.refl (l := [R.PROTC_STAT_ACT c]) hs).put (R.PROTC_STAT_ACT c) (by simp) (s.reaction c)
  refine shown.keep ?_
  rw [hregs, hram, hmram, hnow]
  rfl

/-- Commutation that is not by Hall states takes nothing of a registration but an invalid state (R364, R365). -/
theorem State.hallCommut_puts {s : State} (hs : regsWf s) {c : Course} (hm : s.get (R.PWM_MCFG_MSRC c) ≠ 1) (n : Option Nat) :
    State.PutsOnly (followFields c) s (s.hallCommut c n) ∧ (s.hallCommut c n).pos = s.pos := by
  unfold State.hallCommut
  cases n with
  | some n =>
    dsimp only
    rw [beq_false_of_ne hm, State.when_false]
    exact ⟨.refl hs, rfl⟩
  | none =>
    have invalid := (State.PutsOnly.refl (l := followFields c) hs).put (R.PWM_MSTAT_HINV c) (by simp [followFields]) 1
    dsimp only
    split
    · refine ⟨?_, State.refresh_pos _ c⟩
      have floats : State.PutsOnly (followFields c) s ((s.put (R.PWM_MSTAT_HINV c) 1).modPwm c (fun x => { x with floatAll := true })) :=
        invalid.keep rfl
      exact floats.andThen (State.refresh_puts floats.wf c) (by simp [followFields])
    · exact ⟨invalid, rfl⟩

/-- The end of a registration: state and sector show, the course commutates, an event is asserted and the twin is told. -/
def State.hallEnd (s : State) (c : Course) (n : Option Nat) (ev : Bool) (w : Word) : State :=
  (((s.posShow c).hallCommut c n).when ev (·.assertEv (80 + c.val))).jot 3 [w]

theorem State.hallReg_counting {s : State} {c : Course} (hen : s.on (R.POS_CFG_EN c) = true) (hcmp : (s.posn c).cmp = none) (h : BitVec 3)
    (back : Nat) : ∃ ev w, s.hallReg c h back =
      ((s.posSeen c h).posCount c h (s.time.dtime - Word.ofN back)).2.hallEnd c (sectorOf h) ev w := by
  have hsame : (s.posSeen c h).posCompare c h = s.posSeen c h := by
    unfold State.posCompare
    rw [State.posSeen_posn]
    dsimp only
    rw [hcmp]
  unfold State.posSeen at hsame ⊢
  unfold State.hallReg
  simp only [hen, if_true, hsame]
  exact ⟨_, _, rfl⟩

theorem State.hallEnd_shows {s : State} (hs : regsWf s) {c : Course} (hm : s.get (R.PWM_MCFG_MSRC c) ≠ 1) (n : Option Nat) (ev : Bool)
    (w : Word) : State.PutsOnly (showFields c) s (s.hallEnd c n ev w) ∧ (s.hallEnd c n ev w).posn c = s.posn c
      ∧ (s.hallEnd c n ev w).get (R.POS_STAT_HSTATE c) = (s.posn c).hst.toNat := by
  have shows := State.posShow_puts hs c
  have hm' : (s.posShow c).get (R.PWM_MCFG_MSRC c) ≠ 1 := by
    rw [(shows.mono (by simp [posFields])).get _ (posFields_apart c _ (by simp))]
    exact hm
  obtain ⟨commutes, hpos⟩ := State.hallCommut_puts shows.wf hm' n
  have told : State.PutsOnly (followFields c) (s.posShow c) (s.hallEnd c n ev w) := by
    have asserts := commutes.when ev (f := (·.assertEv (80 + c.val))) (commutes.keep rfl)
    exact asserts.andThen (State.jot_puts asserts.wf 3 [w]) (by simp [followFields])
  refine ⟨(shows.mono (List.subset_append_left ..)).andThen told (List.subset_append_right ..), ?_, ?_⟩
  · refine State.posn_of_pos ?_ c
    have hev : ((((s.posShow c).hallCommut c n).when ev (·.assertEv (80 + c.val))).pos = ((s.posShow c).hallCommut c n).pos) :=
      State.when_cases (p := fun t => t.pos = ((s.posShow c).hallCommut c n).pos) rfl rfl
    rw [State.hallEnd, State.jot_pos, hev, hpos]
    rfl
  · rw [told.get _ (followFields_apart c)]
    exact State.posShow_get hs c

/-- In RUN a chip of no pair registers the state of the levels after inversion (R515). -/
theorem exec_hallRegistration_run {s : State} (hr : s.pwr.mode = .run) (hrole : s.get R.RST_STRAP_ROLE = 0) (c : Course) (levels : BitVec 3) :
    exec (.hallRegistration c levels) s =
      .next (s.hallReg c (levels ^^^ BitVec.ofNat 3 (s.get (R.POS_CFG_HPOL c))) (s.get (R.POS_CFG_HFILT c))) := by
  obtain ⟨-, -, hshadow, -⟩ := State.single_role hrole
  have hwatch : s.watching = true := by simp [State.watching, hr]
  show execHallRegistration c levels s = _
  unfold execHallRegistration
  rw [hwatch, hshadow]
  rfl

section
variable {s : State} {c : Course} (hen : s.get (R.POS_CFG_EN c) = 1) (hcmp : (s.posn c).cmp = none)
  (hm : s.get (R.PWM_MCFG_MSRC c) ≠ 1) (hs : regsWf s) (h : BitVec 3) (back : Nat)
include hen hcmp hm

/-- What the count of a registration makes of a state stands after it, and the state shows. -/
theorem State.hallReg_ends {v : State} {b : Bool}
    (hmove : (s.posSeen c h).posCount c h (s.time.dtime - Word.ofN back) = (b, v))
    (hv : State.PutsOnly (posFields c) (s.posSeen c h) v) (hst : (v.posn c).hst = h) :
    State.PutsOnly (showFields c) v (s.hallReg c h back) ∧ (s.hallReg c h back).posn c = v.posn c
      ∧ (s.hallReg c h back).get (R.POS_STAT_HSTATE c) = h.toNat ∧ s.memSame (s.hallReg c h back) := by
  obtain ⟨ev, w, hreg⟩ := State.hallReg_counting ((State.on_iff s rfl).2 hen) hcmp h back
  have hm' : v.get (R.PWM_MCFG_MSRC c) ≠ 1 := by
    rw [hv.get _ (posFields_apart c _ (by simp))]
    exact hm
  obtain ⟨shows, hposn, hstate⟩ := State.hallEnd_shows hv.wf hm' (sectorOf h) ev w
  rw [hmove] at hreg
  rw [hst] at hstate
  rw [hreg]
  exact ⟨shows, hposn, hstate, shows.mem.1.trans hv.mem.1, shows.mem.2.trans hv.mem.2⟩

include hs

/-- An invalid state counts nothing and keeps the reference sector (R521). -/
theorem State.hallReg_invalid (hn : sectorOf h = none) : let t := s.hallReg c h back
    ((t.posn c).hst = h ∧ t.get (R.POS_STAT_HSTATE c) = h.toNat ∧ s.memSame t) ∧ t.get (R.POS_STAT_HINV c) = 1
      ∧ t.reg (RW.POS_CNT c) = s.reg (RW.POS_CNT c) ∧ (t.posn c).ref = (s.posn c).ref := by
  have hs0 : regsWf (s.posSeen c h) := hs
  have hpos : (((s.posSeen c h).posInvalid c).posn c) = { s.posn c with hst := h, chain := none } := by
    unfold State.posInvalid
    rw [State.posBreak_posn, State.bump, State.put_posn, State.put_posn, State.posSeen_posn]
  have puts := State.posInvalid_puts hs0 c
  obtain ⟨shows, hposn, hstate, hmem⟩ := State.hallReg_ends hen hcmp hm h back (State.posCount_invalid hn _)
    (puts.mono (by simp [posFields, countFields, transFields])) (by rw [hpos])
  refine ⟨⟨?_, hstate, hmem⟩, ?_, ?_, ?_⟩
  · rw [hposn, hpos]
  · rw [shows.get _ (showFields_apart c _ (by simp))]
    exact State.posInvalid_get hs0 c
  · exact (shows.word (R.POS_CNT_COUNT c) rfl rfl (showFields_apart c _ (by simp [resultFields]))).trans (puts.reg _ (by simp))
  · rw [hposn, hpos]

/-- The first valid state gives the reference sector (R520). -/
theorem State.hallReg_first {n : Nat} (hn : sectorOf h = some n) (hr : (s.posn c).ref = none) : let t := s.hallReg c h back
    (t.posn c).hst = h ∧ t.get (R.POS_STAT_HSTATE c) = h.toNat ∧ s.memSame t := by
  have hs0 : regsWf (s.posSeen c h) := hs
  have referred := (State.PutsOnly.refl (l := [R.POS_TINT_VALID c]) hs0).modPos c (fun p => { p with ref := some n })
  have puts := referred.andThen (State.posBreak_puts referred.wf c) (List.Subset.refl _)
  have hst : ((((s.posSeen c h).modPos c (fun p => { p with ref := some n })).posBreak c).posn c).hst = h := by
    rw [State.posBreak_posn, State.posn_modPos, State.posSeen_posn]
  have hcount := State.posCount_first (s := s.posSeen c h) hn (by rw [State.posSeen_posn]; exact hr)
    (s.time.dtime - Word.ofN back)
  obtain ⟨-, hposn, hstate, hmem⟩ := State.hallReg_ends hen hcmp hm h back hcount
    (puts.mono (by simp [posFields, countFields, transFields])) hst
  exact ⟨by rw [hposn, hst], hstate, hmem⟩

/-- A valid state counts by its change of sector from the reference sector (R517). -/
theorem State.hallReg_sector (hphase : s.phaseRv = 0) (he2 : (s.posn c).e2 = none) {n r : Nat} (hn : sectorOf h = some n)
    (hr : (s.posn c).ref = some r) : let t := s.hallReg c h back
    ((t.posn c).hst = h ∧ t.get (R.POS_STAT_HSTATE c) = h.toNat ∧ s.memSame t) ∧ (t.posn c).ref = some n
      ∧ ∃ l, State.Counted l s t c ((n + 6 - r) % 6) (s.time.dtime - Word.ofN back) := by
  obtain ⟨v, hv, counted, href, hhst⟩ := State.posCount_counted (s := s.posSeen c h) hs hphase
    (by rw [State.posSeen_posn]; exact he2) hn (by rw [State.posSeen_posn]; exact hr) (s.time.dtime - Word.ofN back)
  rw [State.posSeen_posn] at hhst
  obtain ⟨shows, hposn, hstate, hmem⟩ := State.hallReg_ends hen hcmp hm h back hv (counted.puts.mono (List.subset_append_right ..)) hhst
  refine ⟨⟨?_, hstate, hmem⟩, ?_, _, (counted.andThen shows fun g hg => showFields_apart c g (List.mem_cons_of_mem _ hg)).of_hst hs⟩
  · rw [hposn, hhst]
  · rw [hposn, href]

end

/-! ## SET and ADD (R522, R523) -/

/-- The counter is loaded, and the load is dated. -/
def State.posLoaded (s : State) (c : Course) (v : Word) : State :=
  (s.setReg (RW.POS_CNT c) v).modPos c (fun p => { p with setBeat := some s.time.dtime })

theorem State.writePosSet_barred {s : State} {m : Master} {c : Course} (hb : s.barred m c false = true) (v : Word) :
    s.writePosSet m c v = s.put (R.POS_STAT_WREJ c) 1 := if_pos hb

theorem State.writePosAdd_barred {s : State} {m : Master} {c : Course} (hb : s.barred m c false = true) (v : Word) :
    s.writePosAdd m c v = s.put (R.POS_STAT_WREJ c) 1 := if_pos hb

theorem State.writePosAdd_open {s : State} {m : Master} {c : Course} (hb : s.barred m c false = false) (v : Word) :
    s.writePosAdd m c v = s.setReg (RW.POS_CNT c) (s.reg (RW.POS_CNT c) + v) := if_neg (by simp [hb])

/-- A SET loads the counter, and a change registered in its beat is applied after it (R522). -/
theorem State.writePosSet_open {s : State} {m : Master} {c : Course} (hb : s.barred m c false = false) (v : Word) :
    (s.writePosSet m c v = s.posLoaded c v ∧ ∀ k, (s.posn c).regBeat = some (s.time.dtime, k) → k = 0)
      ∨ ∃ k, (s.posn c).regBeat = some (s.time.dtime, k) ∧ k ≠ 0
        ∧ s.writePosSet m c v = ((s.posLoaded c v).posAdd c k).put (R.POS_STAT_LDHIT c) 1 := by
  unfold State.writePosSet
  rw [if_neg (by simp [hb])]
  cases hreg : (s.posn c).regBeat with
  | none => exact Or.inl ⟨rfl, by simp⟩
  | some p =>
    obtain ⟨b, d⟩ := p
    by_cases h : b = s.time.dtime ∧ d ≠ 0
    · obtain ⟨rfl, hd⟩ := h
      exact Or.inr ⟨d, rfl, hd, if_pos ⟨rfl, hd⟩⟩
    · refine Or.inl ⟨if_neg h, fun k hk => ?_⟩
      simp only [Option.some.injEq, Prod.mk.injEq] at hk
      exact not_not.1 fun hne => h ⟨hk.1, fun h0 => hne (hk.2.symm.trans h0)⟩

theorem State.posLoaded_posn (s : State) (c : Course) (v : Word) :
    (s.posLoaded c v).posn c = { s.posn c with setBeat := some s.time.dtime } := State.posn_modPos (s.setReg _ v) c _

theorem State.posLoaded_puts {s : State} (hs : regsWf s) (c : Course) (v : Word) : State.PutsOnly [R.POS_CNT_COUNT c] s (s.posLoaded c v) :=
  ((State.PutsOnly.refl hs).setReg (R.POS_CNT_COUNT c) (by simp) rfl rfl v).modPos c _

theorem State.posLoaded_cnt {s : State} (hs : regsWf s) (c : Course) (v : Word) : (s.posLoaded c v).reg (RW.POS_CNT c) = v :=
  State.reg_setReg_same hs _ v

theorem exec_posSet_open {s : State} (hs : regsWf s) {m : Master} {c : Course} (hb : s.barred m c false = false) (v : Word) :
    ∃ t, exec (.posSet m c v) s = .next t ∧ t.posn c = { s.posn c with setBeat := some s.time.dtime } ∧ s.memSame t ∧ t.core = s.core
      ∧ ((∀ k, (s.posn c).regBeat = some (s.time.dtime, k) → k = 0) → t.reg (RW.POS_CNT c) = v ∧ s.regsBut t [RW.POS_CNT c])
      ∧ (∀ k, (s.posn c).regBeat = some (s.time.dtime, k) → k ≠ 0 → t.reg (RW.POS_CNT c) = v + BitVec.ofInt 48 k
        ∧ t.get (R.POS_STAT_LDHIT c) = 1) := by
  have loaded := State.posLoaded_puts hs c v
  have hcnt := State.posLoaded_cnt hs c v
  refine ⟨s.writePosSet m c v, rfl, ?_⟩
  rcases State.writePosSet_open hb v with ⟨hset, hquiet⟩ | ⟨k, hreg, hk, hset⟩
  · rw [hset]
    refine ⟨State.posLoaded_posn s c v, loaded.mem, rfl, fun _ => ⟨hcnt, fun a ha => ?_⟩, fun k hk hne => absurd (hquiet k hk) hne⟩
    exact loaded.reg a (by simpa [eq_comm] using ha)
  · rw [hset]
    have hw : regsWf ((s.posLoaded c v).posAdd c k) := State.regsWf_setReg loaded.wf _ _
    refine ⟨State.posLoaded_posn s c v, loaded.mem, rfl, fun hquiet => absurd (hquiet k hreg) hk, fun j hj _ => ⟨?_, ?_⟩⟩
    · obtain rfl : k = j := by simpa [hreg] using hj
      rw [State.reg_put_ne _ _ _ (by simp), State.posAdd, State.reg_setReg_same loaded.wf, hcnt]
    · exact State.get_put_same hw _ _ (by simp)

/-! ## The low-power sampler (R524, R525) -/

/-- The fields of a counter in which a sample shows. -/
def sampleFields (c : Course) : List Fld :=
  [R.POS_STAT_HINV c, R.POS_STAT_HINVCNT c, R.POS_STAT_SKIPCNT c, R.POS_STAT_UNC c, R.POS_STAT_UNCSRC c]

theorem sampleFields_apart (c d : Course) : ∀ g ∈ [R.POS_CFG_EN d, R.POS_CFG_DIR d, R.POS_CFG_HPOL d, R.PWR_HSUP_LPEN, R.POS_CNT_COUNT d],
    ∀ f ∈ sampleFields c, f.apart g := by
  revert c d
  unfold sampleFields Fld.apart
  decide

/-- A sample that skips a state, or whose count the delta cannot hold, leaves the position uncertain (R524, R525). -/
def State.lpMarks (s : State) (c : Course) (skip sat : Bool) : State :=
  (s.when skip (fun t => (t.bump (R.POS_STAT_SKIPCNT c)).posUnc c 2)).when sat (·.posUnc c 3)

theorem State.lpMarks_puts {s : State} (hs : regsWf s) (c : Course) (skip sat : Bool) :
    State.PutsOnly (sampleFields c) s (s.lpMarks c skip sat) := by
  have bumped := (State.PutsOnly.refl (l := sampleFields c) hs).bump (R.POS_STAT_SKIPCNT c) (by simp [sampleFields])
  have uncertain := bumped.andThen (State.posUnc_puts bumped.wf c 2) (by simp [sampleFields])
  have skips : State.PutsOnly (sampleFields c) s (s.when skip (fun t => (t.bump (R.POS_STAT_SKIPCNT c)).posUnc c 2)) :=
    (State.PutsOnly.refl hs).when skip uncertain
  exact skips.when sat (skips.andThen (State.posUnc_puts skips.wf c 3) (by simp [sampleFields]))

theorem State.lpMarks_pos (s : State) (c : Course) (skip sat : Bool) : (s.lpMarks c skip sat).pos = s.pos := by
  cases skip <;> cases sat <;> simp [State.lpMarks]

/-- The Hall state that the levels of a domain show for a course. -/
def State.lpState (s : State) (levels : BitVec 24) (c : Course) : BitVec 3 := s.hallState c (levels.extractLsb' (3 * c.val) 3)

/-- A sample of one course. -/
def State.lpSampled (s : State) (levels : BitVec 24) (c : Course) : State := s.lpSample c (s.lpState levels c)

theorem State.lpSample_puts {s : State} (hs : regsWf s) (c : Course) (h : BitVec 3) : State.PutsOnly (sampleFields c) s (s.lpSample c h) := by
  have seen := (State.PutsOnly.refl (l := sampleFields c) hs).modPos c (fun p => { p with lpPrev := h })
  unfold State.lpSample
  dsimp only
  split
  · exact .refl hs
  · split
    · exact (seen.put (R.POS_STAT_HINV c) (by simp [sampleFields]) 1).bump (R.POS_STAT_HINVCNT c) (by simp [sampleFields])
    · exact seen.modPos c _
    · exact (seen.andThen (State.lpMarks_puts seen.wf c _ _) (List.Subset.refl _)).modPos c _

theorem State.lpSample_posn_ne (s : State) {c d : Course} (hd : d ≠ c) (h : BitVec 3) : (s.lpSample c h).posn d = s.posn d := by
  have seen := State.posn_modPos_ne s (fun p => { p with lpPrev := h }) hd
  unfold State.lpSample
  dsimp only
  split
  · rfl
  · split
    · exact seen
    · exact (State.posn_modPos_ne _ _ hd).trans seen
    · exact (State.posn_modPos_ne _ _ hd).trans ((State.posn_of_pos (State.lpMarks_pos _ c _ _) d).trans seen)

/-- A sample that shows another valid state moves the reference sector, and its count the delta, which saturates (R524, R525). -/
theorem State.lpSample_sector {s : State} {c : Course} {h : BitVec 3} {n r : Nat} (hc : s.lpCounts c = true) (hh : h ≠ (s.posn c).lpPrev)
    (hn : sectorOf h = some n) (hr : (s.posn c).ref = some r) : ((s.lpSample c h).posn c).lpPrev = h ∧ ((s.lpSample c h).posn c).ref = some n
      ∧ ((s.lpSample c h).posn c).lpDelta
        = max (-2 ^ 23) (min (2 ^ 23 - 1) ((s.posn c).lpDelta + s.posStep c ((n + 6 - r) % 6))) := by
  have seen := State.posn_modPos s c (fun p => { p with lpPrev := h })
  have marked := fun skip sat => State.posn_of_pos (State.lpMarks_pos (s.modPos c (fun p => { p with lpPrev := h })) c skip sat) c
  unfold State.lpMarks at marked
  unfold State.lpSample
  rw [if_neg (by simp [hc, hh]), hn, hr]
  dsimp only
  rw [State.posn_modPos, marked, seen, clampInt_eq (by decide)]
  exact ⟨rfl, rfl, rfl⟩

theorem exec_lpHallSample_early {s : State} {d : Dom} (hi : s.lpInstant d = false) (levels : BitVec 24) :
    exec (.lpHallSample d levels) s = .next s := if_neg (by simp [hi])

/-- With no Hall wake set, a sample of a domain is one of each of its two courses. -/
theorem exec_lpHallSample_instant {s : State} {d : Dom} (hi : s.lpInstant d = true) (hw : s.reg RW.PWR_WAKEHALL = 0) (levels : BitVec 24) :
    exec (.lpHallSample d levels) s =
      .next ((s.lpSampled levels ⟨2 * d.val, by omega⟩).lpSampled levels ⟨2 * d.val + 1, by omega⟩) := by
  have hth : ∀ lo, s.get { addr := RW.PWR_WAKEHALL, lo := lo, len := 6, w1c := false } = 0 := fun lo => by
    unfold State.get
    rw [hw]
    simp [getBits]
  show execLpHallSample d levels s = _
  unfold execLpHallSample
  simp only [hi, hth, ne_eq, not_true_eq_false, false_and, if_true, if_false]
  rw [show 6 * d.val = 3 * (2 * d.val) by omega, show 3 * (2 * d.val) + 3 = 3 * (2 * d.val + 1) by omega]
  rfl

theorem State.lpSampled_cnt {s : State} (hs : regsWf s) (levels : BitVec 24) (c d : Course) :
    (s.lpSampled levels c).reg (RW.POS_CNT d) = s.reg (RW.POS_CNT d) :=
  (State.lpSample_puts hs c _).word (R.POS_CNT_COUNT d) rfl rfl (sampleFields_apart c d _ (by simp))

/-- In u the sampler has seen the state h of course c, in sector n, and counted a change of sector by d. -/
def State.LpMoves (s u : State) (c : Course) (h : BitVec 3) (n d : Nat) : Prop :=
  (u.posn c).lpPrev = h ∧ (u.posn c).ref = some n
    ∧ (u.posn c).lpDelta = max (-2 ^ 23) (min (2 ^ 23 - 1) ((s.posn c).lpDelta + s.posStep c d))

section
variable {s : State} (hs : regsWf s) {c : Course} {levels : BitVec 24} {n r : Nat}
  (hen : s.get (R.POS_CFG_EN c) = 1) (hlp : (s.get R.PWR_HSUP_LPEN).testBit (c.val / 2) = true) (hh : s.lpState levels c ≠ (s.posn c).lpPrev)
  (hn : sectorOf (s.lpState levels c) = some n) (hr : (s.posn c).ref = some r)
include hen hlp hh hn hr

theorem State.lpSampled_moves : s.LpMoves (s.lpSampled levels c) c (s.lpState levels c) n ((n + 6 - r) % 6) := by
  have hc : s.lpCounts c = true := by
    unfold State.lpCounts
    rw [(State.on_iff s rfl).2 hen, hlp]
    rfl
  exact State.lpSample_sector hc hh hn hr

include hs

/-- A sample of another course before it makes no difference. -/
theorem State.lpSampled_moves_after {d : Course} (hd : c ≠ d) :
    s.LpMoves ((s.lpSampled levels d).lpSampled levels c) c (s.lpState levels c) n ((n + 6 - r) % 6) := by
  have other : State.PutsOnly (sampleFields d) s (s.lpSampled levels d) := State.lpSample_puts hs d _
  have hposn : (s.lpSampled levels d).posn c = s.posn c := State.lpSample_posn_ne s hd _
  have apart := sampleFields_apart d c
  have hstate : (s.lpSampled levels d).lpState levels c = s.lpState levels c := by
    unfold State.lpState State.hallState
    rw [other.get _ (apart _ (by simp))]
  have hstep : ∀ k, (s.lpSampled levels d).posStep c k = s.posStep c k := fun k => by
    unfold State.posStep
    rw [other.on _ (apart _ (by simp))]
  have moves := State.lpSampled_moves (s := s.lpSampled levels d) (c := c) (levels := levels) (n := n) (r := r)
    (by rw [other.get _ (apart _ (by simp)), hen]) (by rw [other.get _ (apart _ (by simp)), hlp]) (by rw [hstate, hposn]; exact hh)
    (by rw [hstate]; exact hn) (by rw [hposn]; exact hr)
  unfold State.LpMoves at moves ⊢
  rw [hstate, hposn, hstep] at moves
  exact moves

end

/-- At an instant of its domain a course that the sampler counts for moves by its change of sector; its counter stays (R524, R525). -/
theorem exec_lpHallSample_sector {s : State} (hs : regsWf s) {d : Dom} (hi : s.lpInstant d = true) (hw : s.reg RW.PWR_WAKEHALL = 0) {c : Course}
    (hcd : c.val / 2 = d.val) (hen : s.get (R.POS_CFG_EN c) = 1) {levels : BitVec 24} (hh : s.lpState levels c ≠ (s.posn c).lpPrev) {n r : Nat}
    (hn : sectorOf (s.lpState levels c) = some n) (hr : (s.posn c).ref = some r) : ∃ t, exec (.lpHallSample d levels) s = .next t
      ∧ s.LpMoves t c (s.lpState levels c) n ((n + 6 - r) % 6) ∧ t.reg (RW.POS_CNT c) = s.reg (RW.POS_CNT c) ∧ s.memSame t := by
  have hlp : (s.get R.PWR_HSUP_LPEN).testBit (c.val / 2) = true := by
    unfold State.lpInstant at hi
    simp only [Bool.and_eq_true] at hi
    rw [hcd]
    exact hi.1.2
  generalize hc0 : (⟨2 * d.val, by omega⟩ : Course) = c0
  generalize hc1 : (⟨2 * d.val + 1, by omega⟩ : Course) = c1
  have hne : c1 ≠ c0 := by
    rw [← hc0, ← hc1, ne_eq, Fin.mk.injEq]
    omega
  have first : State.PutsOnly (sampleFields c0) s (s.lpSampled levels c0) := State.lpSample_puts hs c0 _
  have second : State.PutsOnly (sampleFields c1) _ ((s.lpSampled levels c0).lpSampled levels c1) := State.lpSample_puts first.wf c1 _
  refine ⟨_, exec_lpHallSample_instant hi hw levels, ?_⟩
  rw [hc0, hc1]
  refine ⟨?_, (State.lpSampled_cnt first.wf ..).trans (State.lpSampled_cnt hs ..), second.mem.1.trans first.mem.1,
    second.mem.2.trans first.mem.2⟩
  have hwhich : c = c0 ∨ c = c1 := by
    rw [← hc0, ← hc1, Fin.ext_iff, Fin.ext_iff]
    show c.val = 2 * d.val ∨ c.val = 2 * d.val + 1
    omega
  rcases hwhich with rfl | rfl
  · have hposn : ((s.lpSampled levels c).lpSampled levels c1).posn c = (s.lpSampled levels c).posn c := State.lpSample_posn_ne _ hne.symm _
    have moves := State.lpSampled_moves hen hlp hh hn hr
    unfold State.LpMoves at moves ⊢
    rw [hposn]
    exact moves
  · exact State.lpSampled_moves_after hs hen hlp hh hn hr hne

end Sys2Proof.Machine
end

section
/-!
PROOFS. Fine capture (spec/18): the edges kept to the end of their beat, the records that they make and the pop, and the obligation O50.
-/
namespace Sys2Proof.Machine

/-! ## Capture channels -/

@[simp] theorem State.cap_modTc (s : State) (n : Fin 16) (f : Tc → Tc) : (s.modTc n f).cap n = f (s.cap n) := by
  simp [State.cap, State.modTc]

theorem State.cap_of_tc {s t : State} (h : t.tc = s.tc) (n : Fin 16) : t.cap n = s.cap n := by
  unfold State.cap
  rw [h]

/-- The word 1 of a record (R536) as a number. -/
def recordNat (tap : Nat) (coarse sub interval level gap : Bool) (len : Nat) : Nat :=
  tap + coarse.toNat * 32 + sub.toNat * 64 + interval.toNat * 128 + level.toNat * 256 + gap.toNat * 512 + len * 1024

/-- Its fields read back. -/
theorem recordNat_fields {tap len : Nat} (ht : tap < 32) (hl : len < 2 ^ 38) (coarse sub interval level gap : Bool) :
    let w := Word.ofN (recordNat tap coarse sub interval level gap len)
    getBits w 0 5 = tap ∧ w.getLsbD 5 = coarse ∧ w.getLsbD 7 = interval ∧ w.getLsbD 8 = level ∧ getBits w 10 38 = len := by
  have hcoarse := coarse.toNat_le
  have hsub := sub.toNat_le
  have hinterval := interval.toNat_le
  have hlevel := level.toNat_le
  have hgap := gap.toNat_le
  have hw : (Word.ofN (recordNat tap coarse sub interval level gap len)).toNat = recordNat tap coarse sub interval level gap len := by
    refine Nat.mod_eq_of_lt ?_
    unfold recordNat
    omega
  have bit : ∀ (b : Bool) (k : Nat), k = b.toNat → decide (k = 1) = b := by
    rintro (_ | _) _ rfl <;> rfl
  unfold getBits BitVec.getLsbD
  dsimp only
  rw [hw]
  simp only [Nat.shiftRight_eq_div_pow, Nat.testBit_eq_decide_div_mod_eq]
  unfold recordNat
  exact ⟨by omega, bit _ _ (by omega), bit _ _ (by omega), bit _ _ (by omega), by omega⟩

/-- The fields in which the capture of a channel shows. -/
def tcFields (n : Fin 16) : List Fld :=
  [R.TC_STAT_LEVEL n, R.TC_STAT_OPEN n, R.TC_STAT_OVR n, R.TC_STAT_COARSE n, R.TC_CNT_ORPHAN n, R.TC_CNT_RESTART n, R.TC_CNT_SUBCNT n,
    R.PEER_TWFILL_MAX]

theorem tcLevel_apart : ∀ n : Fin 16, ∀ f ∈ [R.TC_STAT_COARSE n, R.PEER_TWFILL_MAX], f.apart (R.TC_STAT_LEVEL n) := by
  unfold Fld.apart
  decide

section
variable {s : State} (hs : regsWf s) (n : Fin 16)

/-! ## Records (R536 to R538) -/

/-- A record is held, and the number of records shows. -/
def State.tcHeld (s : State) (n : Fin 16) (dt w : Word) : State :=
  (s.modTc n (fun x => { x with recs := x.recs ++ [(dt, w)], gap := false })).put (R.TC_STAT_LEVEL n) ((s.cap n).recs.length + 1)

theorem State.tcEnter_cap (s : State) (n : Fin 16) (dt w : Word) :
    (s.tcEnter n dt w).cap n = { s.cap n with recs := (s.cap n).recs ++ [(dt, w)], gap := false } := by
  have kept : ∀ (t : State) (b : Bool) (f : State → State), (f t).tc = t.tc → (t.when b f).tc = t.tc := fun t b f h =>
    State.when_cases (p := fun u => u.tc = t.tc) h rfl
  refine (State.cap_of_tc ?_ n).trans (State.cap_modTc s n fun x => { x with recs := x.recs ++ [(dt, w)], gap := false })
  unfold State.tcEnter
  dsimp only
  rw [State.jot_tc, kept _ _ _ rfl, kept _ _ _ (State.bump_tc ..), State.put_tc]

include hs

theorem State.tcEnter_held (dt w : Word) :
    State.PutsOnly [R.TC_STAT_COARSE n, R.PEER_TWFILL_MAX] (s.tcHeld n dt w) (s.tcEnter n dt w) := by
  have held : State.PutsOnly [R.TC_STAT_COARSE n, R.PEER_TWFILL_MAX] (s.tcHeld n dt w) (s.tcHeld n dt w) :=
    .refl (State.regsWf_put (s := s.modTc n _) hs _ _)
  have counted : State.PutsOnly [R.TC_STAT_COARSE n, R.PEER_TWFILL_MAX] (s.tcHeld n dt w)
      ((s.tcHeld n dt w).when (w.getLsbD 5) (·.bump (R.TC_STAT_COARSE n))) := held.when _ (held.bump (R.TC_STAT_COARSE n) (by simp))
  have asserts : State.PutsOnly [R.TC_STAT_COARSE n, R.PEER_TWFILL_MAX] (s.tcHeld n dt w)
      (((s.tcHeld n dt w).when (w.getLsbD 5) (·.bump (R.TC_STAT_COARSE n))).when (s.on (R.TC_CFG_EVEN n)) (·.assertNext (88 + n.val))) :=
    counted.when _ (counted.keep rfl)
  exact asserts.andThen (State.jot_puts asserts.wf 4 _) (by simp)

theorem State.tcEnter_puts (dt w : Word) : State.PutsOnly (tcFields n) s (s.tcEnter n dt w) :=
  (((State.PutsOnly.refl hs).modTc n _).put (R.TC_STAT_LEVEL n) (by simp [tcFields]) _).andThen (State.tcEnter_held hs n dt w)
    (by simp [tcFields])

theorem State.tcEnter_level (hlen : (s.cap n).recs.length < 8) (dt w : Word) :
    (s.tcEnter n dt w).get (R.TC_STAT_LEVEL n) = (s.cap n).recs.length + 1 := by
  have hput : (s.tcHeld n dt w).get (R.TC_STAT_LEVEL n) = ((s.cap n).recs.length + 1) % 2 ^ 4 :=
    State.get_put_same (s := s.modTc n _) hs _ _ (by simp)
  rw [(State.tcEnter_held hs n dt w).get _ (tcLevel_apart n), hput, Nat.mod_eq_of_lt (by omega)]

omit hs

/-- A record enters while there is room. -/
theorem State.tcRecord_room (hlen : (s.cap n).recs.length < 8) (dt : Word) (tap : Nat) (coarse sub interval level : Bool) (len : Nat) :
    s.tcRecord n dt tap coarse sub interval level len =
      s.tcEnter n dt (Word.ofN (recordNat tap coarse sub interval level (s.cap n).gap len)) := if_neg (by omega)

/-- A record that finds no room is lost and counted. -/
theorem State.tcRecord_full (hlen : 8 ≤ (s.cap n).recs.length) (dt : Word) (tap : Nat) (coarse sub interval level : Bool) (len : Nat) :
    s.tcRecord n dt tap coarse sub interval level len = (s.bump (R.TC_STAT_OVR n)).modTc n (fun x => { x with gap := true }) :=
  if_pos hlen

include hs

theorem State.tcRecord_puts (dt : Word) (tap : Nat) (coarse sub interval level : Bool) (len : Nat) :
    State.PutsOnly (tcFields n) s (s.tcRecord n dt tap coarse sub interval level len) := by
  rcases Nat.lt_or_ge (s.cap n).recs.length 8 with h | h
  · rw [State.tcRecord_room n h]
    exact State.tcEnter_puts hs n dt _
  · rw [State.tcRecord_full n h]
    exact ((State.PutsOnly.refl hs).bump (R.TC_STAT_OVR n) (by simp [tcFields])).modTc n _

/-! ## Starts and stops of intervals (R535) -/

theorem State.tcOpen_puts (x : Option (Word × Nat × Bool)) : State.PutsOnly (tcFields n) s (s.tcOpen n x) :=
  ((State.PutsOnly.refl hs).modTc n _).put (R.TC_STAT_OPEN n) (by simp [tcFields]) _

theorem State.tcOpen_get (x : Option (Word × Nat × Bool)) : (s.tcOpen n x).get (R.TC_STAT_OPEN n) = x.isSome.toNat := by
  have hput : (s.tcOpen n x).get (R.TC_STAT_OPEN n) = (if x.isSome then 1 else 0) % 2 ^ 1 :=
    State.get_put_same (s := s.modTc n _) hs _ _ (by simp)
  rw [hput]
  cases x <;> rfl

omit hs

theorem State.tcOpen_cap (s : State) (n : Fin 16) (x : Option (Word × Nat × Bool)) : (s.tcOpen n x).cap n = { s.cap n with start := x } :=
  State.cap_modTc s n fun t => { t with start := x }

theorem State.tcStart_cap (s : State) (n : Fin 16) (tap : Nat) (coarse : Bool) :
    (s.tcStart n tap coarse).cap n = { s.cap n with start := some (s.time.dtime, tap, coarse) } := by
  have counts : ∀ b, (s.when b (·.bump (R.TC_CNT_RESTART n))).cap n = s.cap n := fun b =>
    State.when_cases (p := fun t => t.cap n = s.cap n) rfl rfl
  unfold State.tcStart
  rw [State.tcOpen_cap, counts]

/-- A stop at a fine tap in a beat after that of a fine start records the interval between them. -/
theorem State.tcStop_fine {b : Word} {t0 tap : Nat} (hstart : (s.cap n).start = some (b, t0, false)) (hb : b ≠ s.time.dtime) (level : Bool) :
    s.tcStop n tap false level = (s.tcRecord n s.time.dtime tap false false true level
      (min ((s.time.dtime - b).toNat * 32 + tap - t0) (2 ^ 38 - 1))).tcOpen n
        (if s.on (R.TC_CFG_CHAIN n) then some (s.time.dtime, tap, false) else none) := by
  unfold State.tcStop
  rw [hstart]
  simp [hb]

include hs

theorem State.tcStart_puts (tap : Nat) (coarse : Bool) : State.PutsOnly (tcFields n) s (s.tcStart n tap coarse) := by
  have restarts : State.PutsOnly (tcFields n) s (s.when (s.cap n).start.isSome (·.bump (R.TC_CNT_RESTART n))) :=
    (State.PutsOnly.refl hs).when _ ((State.PutsOnly.refl hs).bump (R.TC_CNT_RESTART n) (by simp [tcFields]))
  exact restarts.andThen (State.tcOpen_puts restarts.wf n _) (List.Subset.refl _)

/-- A start edge leaves its channel open. -/
theorem State.tcStart_open (tap : Nat) (coarse : Bool) : (s.tcStart n tap coarse).get (R.TC_STAT_OPEN n) = 1 := by
  refine State.tcOpen_get ?_ n (some (s.time.dtime, tap, coarse))
  exact State.when_cases (State.regsWf_put hs _ _) hs

theorem State.tcStop_puts (tap : Nat) (coarse level : Bool) : State.PutsOnly (tcFields n) s (s.tcStop n tap coarse level) := by
  have closes : ∀ {t}, State.PutsOnly (tcFields n) s t → ∀ x, State.PutsOnly (tcFields n) s (t.tcOpen n x) := fun h x =>
    h.andThen (State.tcOpen_puts h.wf n x) (List.Subset.refl _)
  have counts := (State.PutsOnly.refl (l := tcFields n) hs).bump (R.TC_CNT_SUBCNT n) (by simp [tcFields])
  unfold State.tcStop
  dsimp only
  split
  · exact (State.PutsOnly.refl hs).bump (R.TC_CNT_ORPHAN n) (by simp [tcFields])
  · split
    · split
      · exact counts
      · exact closes (counts.andThen (State.tcRecord_puts counts.wf n ..) (List.Subset.refl _)) _
    · exact closes (State.tcRecord_puts hs n ..) _

/-! ## Edges (R532 to R536) -/

theorem State.tcEdge_puts (partner rising : Bool) (tap : Nat) : State.PutsOnly (tcFields n) s (s.tcEdge n partner rising tap) := by
  unfold State.tcEdge
  dsimp only
  split
  · exact (State.PutsOnly.refl hs).when _ (State.tcRecord_puts hs n ..)
  · generalize (if s.get (R.TC_CFG_SRC n) = s.get (R.TC_CFG_PSRC n) then _ else _) = stop
    have stops : State.PutsOnly (tcFields n) s (s.when stop (·.tcStop n (if s.tcCoarse n then 0 else tap) (s.tcCoarse n) rising)) :=
      (State.PutsOnly.refl hs).when _ (State.tcStop_puts hs n ..)
    exact stops.when _ (stops.andThen (State.tcStart_puts stops.wf n ..) (List.Subset.refl _))

end

theorem edgeSel_eq (sel : Nat) (rising : Bool) : edgeSel sel rising = sel.testBit (if rising then 0 else 1) := by
  cases rising <;> rfl

section
variable {s : State} {n : Fin 16} {rising : Bool}

/-- The tap at which an edge of a channel is stamped (R532). -/
def State.tcTap (s : State) (n : Fin 16) (tap : Nat) : Nat := if s.tcCoarse n then 0 else tap

theorem State.tcEdge_records (hmode : s.get (R.TC_CFG_MODE n) = 0)
    (hsel : (s.get (R.TC_CFG_SEDGE n)).testBit (if rising then 0 else 1) = true) (tap : Nat) : s.tcEdge n false rising tap =
      s.tcRecord n s.time.dtime (s.tcTap n tap) (s.tcCoarse n) false false rising 0 := by
  rw [← edgeSel_eq] at hsel
  unfold State.tcEdge
  simp [State.on, hmode, hsel, State.tcTap]

theorem State.tcEdge_starts (hmode : s.get (R.TC_CFG_MODE n) = 1) (hsrc : s.get (R.TC_CFG_SRC n) ≠ s.get (R.TC_CFG_PSRC n))
    (hsel : (s.get (R.TC_CFG_SEDGE n)).testBit (if rising then 0 else 1) = true) (tap : Nat) : s.tcEdge n false rising tap =
      s.tcStart n (s.tcTap n tap) (s.tcCoarse n) := by
  rw [← edgeSel_eq] at hsel
  unfold State.tcEdge
  simp [State.on, hmode, hsrc, hsel, State.tcTap]

theorem State.tcEdge_stops (hmode : s.get (R.TC_CFG_MODE n) = 1) (hsrc : s.get (R.TC_CFG_SRC n) ≠ s.get (R.TC_CFG_PSRC n))
    (hsel : (s.get (R.TC_CFG_PEDGE n)).testBit (if rising then 0 else 1) = true) (tap : Nat) : s.tcEdge n true rising tap =
      s.tcStop n (s.tcTap n tap) (s.tcCoarse n) rising := by
  rw [← edgeSel_eq] at hsel
  unfold State.tcEdge
  simp [State.on, hmode, hsrc, hsel, State.tcTap]

end

/-! ## The end of a beat -/

/-- A fold of which no element does anything. -/
theorem foldl_eq_of_fixes {α β : Type} {f : β → α → β} {l : List α} (h : ∀ b, ∀ a ∈ l, f b a = b) (b : β) : l.foldl f b = b := by
  induction l with
  | nil => rfl
  | cons a l ih => rw [List.foldl_cons, h b a (by simp), ih fun b c hc => h b c (by simp [hc])]

/-- A fold of which one element alone does something. -/
theorem foldl_eq_of_only {α β : Type} {f : β → α → β} {l : List α} (hl : l.Nodup) {n : α} (hn : n ∈ l)
    (h : ∀ b a, a ≠ n → f b a = b) (b : β) : l.foldl f b = f b n := by
  obtain ⟨x, y, rfl⟩ := List.append_of_mem hn
  obtain ⟨hx, hy⟩ : n ∉ x ∧ n ∉ y := by
    rw [List.nodup_middle, List.nodup_cons] at hl
    simpa using hl.1
  rw [List.foldl_append, List.foldl_cons, foldl_eq_of_fixes fun b a ha => h b a fun e => hx (e ▸ ha),
    foldl_eq_of_fixes fun b a ha => h b a fun e => hy (e ▸ ha)]

theorem tcOrder_single (m n : Fin 16) (coarse partner rising : Bool) (tap : Nat) :
    tcOrder m coarse [(n, partner, rising, tap)] = if m = n then [(n, partner, rising, tap)] else [] := by
  unfold tcOrder
  by_cases h : m = n
  · subst h
    cases partner <;> simp
  · simp [h, Ne.symm h]

/-- The state in which the edges of a beat take effect. -/
def State.edgesTaken (s : State) : State := { s with now := { s.now with edges := [] } }

/-- The only edge of a beat takes effect at its end. -/
theorem State.tcBeat_single {s : State} {n : Fin 16} {partner rising : Bool} {tap : Nat} (h : s.now.edges = [(n, partner, rising, tap)]) :
    s.tcBeat = s.edgesTaken.tcEdge n partner rising tap := by
  unfold State.tcBeat
  rw [h]
  simp only [List.isEmpty_cons, Bool.false_eq_true, if_false, tcOrder_single]
  rw [foldl_eq_of_only (List.nodup_finRange 16) (List.mem_finRange n) fun b a ha => by simp [ha]]
  simp [State.edgesTaken]

/-! ## What each command does -/

/-- A source whose edge of this beat is not yet kept has its edge kept (R534). -/
theorem exec_captureEdge_keeps {s : State} (hr : s.pwr.mode = .run) (hrole : s.get R.RST_STRAP_ROLE = 0) {n : Fin 16}
    (hen : s.get (R.TC_CFG_EN n) = 1) {partner : Bool} (hfirst : ∀ e ∈ s.now.edges, ¬ (e.1 = n ∧ e.2.1 = partner)) (rising : Bool)
    (tap : BitVec 5) :
    exec (.captureEdge n partner rising tap) s =
      .next { s with now := { s.now with edges := s.now.edges ++ [(n, partner, rising, tap.toNat)] } } := by
  obtain ⟨-, -, hshadow, -⟩ := State.single_role hrole
  have hwatch : s.watching = true := by simp [State.watching, hr]
  have hon : s.on (R.TC_CFG_EN n) = true := (State.on_iff s rfl).2 hen
  have hnone : s.now.edges.any (fun e => e.1 == n && e.2.1 == partner) = false := by
    rw [List.any_eq_false]
    simpa using hfirst
  show execCaptureEdge n partner rising tap s = _
  unfold execCaptureEdge
  rw [hshadow, hwatch, hon, hnone]
  rfl

theorem exec_captureEdge_disabled {s : State} {n : Fin 16} (hen : s.get (R.TC_CFG_EN n) = 0) (partner rising : Bool) (tap : BitVec 5) :
    exec (.captureEdge n partner rising tap) s = .next s := by
  have hoff : s.on (R.TC_CFG_EN n) = false := by
    unfold State.on
    rw [hen]
    rfl
  show execCaptureEdge n partner rising tap s = _
  unfold execCaptureEdge
  exact if_pos (by simp [hoff])

/-- A pop takes the oldest record and latches its word 1 for the reader (R537). -/
theorem exec_capturePop {s : State} (hs : regsWf s) (m : Master) (n : Fin 16) : ∃ t, exec (.capturePop m n) s = .next t
    ∧ (t.cap n).recs = (s.cap n).recs.drop 1 ∧ ((s.cap n).recs.length ≤ 8 → t.get (R.TC_STAT_LEVEL n) = (s.cap n).recs.length - 1)
    ∧ (∀ e, (s.cap n).recs.head? = some e → (readerOf m, e.2) ∈ (t.cap n).aux) ∧ s.memSame t ∧ t.core = s.core
    ∧ s.regsBut t [RW.TC_STAT n] := by
  have hcap : ∀ f v, ((s.modTc n f).put (R.TC_STAT_LEVEL n) v).cap n = f (s.cap n) := fun f v => State.cap_modTc s n f
  refine ⟨_, rfl, ?_, fun hlen => ?_, fun e he => ?_, ⟨rfl, rfl⟩, rfl, fun a ha => ?_⟩
  · rw [hcap]
  · refine (State.get_put_same (s := s.modTc n _) hs _ _ (by simp)).trans (Nat.mod_eq_of_lt ?_)
    show _ < 2 ^ 4
    omega
  · rw [hcap]
    cases hrecs : (s.cap n).recs with
    | nil => simp [hrecs] at he
    | cons r rest =>
      obtain rfl : r = e := by simpa [hrecs] using he
      exact List.mem_cons_self
  · exact State.reg_put_ne _ _ _ (by simpa using ha)

/-! ## The edge of a beat -/

section
variable {s : State} (hs : regsWf s) {n : Fin 16}
include hs

/-- A record that finds room is the youngest, with the fields it was made of. -/
theorem State.tcRecord_adds (hlen : (s.cap n).recs.length < 8) (dt : Word) {tap len : Nat} (ht : tap < 32) (hl : len < 2 ^ 38)
    (coarse sub interval level : Bool) : ∃ w,
      ((s.tcRecord n dt tap coarse sub interval level len).cap n).recs = (s.cap n).recs ++ [(dt, w)]
      ∧ (getBits w 0 5 = tap ∧ w.getLsbD 5 = coarse ∧ w.getLsbD 7 = interval ∧ w.getLsbD 8 = level ∧ getBits w 10 38 = len)
      ∧ (s.tcRecord n dt tap coarse sub interval level len).get (R.TC_STAT_LEVEL n) = (s.cap n).recs.length + 1 := by
  rw [State.tcRecord_room n hlen]
  refine ⟨_, ?_, recordNat_fields ht hl coarse sub interval level (s.cap n).gap, State.tcEnter_level hs n hlen _ _⟩
  rw [State.tcEnter_cap]

/-- A record that finds no room changes no record and counts in OVR. -/
theorem State.tcRecord_loses (hlen : 8 ≤ (s.cap n).recs.length) (dt : Word) (tap : Nat) (coarse sub interval level : Bool) (len : Nat) :
    ((s.tcRecord n dt tap coarse sub interval level len).cap n).recs = (s.cap n).recs
      ∧ (s.tcRecord n dt tap coarse sub interval level len).get (R.TC_STAT_OVR n)
        = min (s.get (R.TC_STAT_OVR n) + 1) (2 ^ (R.TC_STAT_OVR n).len - 1) := by
  rw [State.tcRecord_full n hlen]
  exact ⟨by rw [State.cap_modTc]; rfl, State.get_bump_same hs _ 1 (by simp)⟩

/-- A fine stop after a fine start records the interval, and starts another one where intervals are chained (R535). -/
theorem State.tcStop_records {b : Word} {t0 tap : Nat} (ht : tap < 32) (hstart : (s.cap n).start = some (b, t0, false)) (hb : b ≠ s.time.dtime)
    (hlen : (s.cap n).recs.length < 8) (level : Bool) : ∃ w,
      ((s.tcStop n tap false level).cap n).recs = (s.cap n).recs ++ [(s.time.dtime, w)] ∧ getBits w 0 5 = tap ∧ w.getLsbD 7 = true
        ∧ getBits w 10 38 = min ((s.time.dtime - b).toNat * 32 + tap - t0) (2 ^ 38 - 1)
        ∧ ((s.tcStop n tap false level).cap n).start = if s.get (R.TC_CFG_CHAIN n) = 1 then some (s.time.dtime, tap, false) else none := by
  obtain ⟨w, hrecs, ⟨htap, -, hinterval, -, hl⟩, -⟩ := State.tcRecord_adds hs hlen s.time.dtime ht
    (len := min ((s.time.dtime - b).toNat * 32 + tap - t0) (2 ^ 38 - 1)) (by omega) false false true level
  rw [State.tcStop_fine n hstart hb, State.tcOpen_cap]
  refine ⟨w, hrecs, htap, hinterval, hl, ?_⟩
  simp only [State.on_iff s (f := R.TC_CFG_CHAIN n) rfl]

end

theorem State.tcTap_lt (s : State) (n : Fin 16) (tap : BitVec 5) : s.tcTap n tap.toNat < 32 := by
  unfold State.tcTap
  split
  · decide
  · exact tap.isLt

/-- Settles O50: each clause is the lemma above about its command, or about what the edge of a beat does at its end. -/
theorem positionAndCapture : Obligations.PositionAndCapture := by
  unfold Obligations.PositionAndCapture
  intro s hwf step
  have hs : regsWf s := ((Memory.wf_iff s).1 hwf).1
  refine ⟨?registers, ?writes, fun d levels hi => exec_lpHallSample_early hi levels, ?samples, ?kept,
    fun n partner rising tap hen => exec_captureEdge_disabled hen partner rising tap, ?edges, exec_capturePop hs⟩
  case registers =>
    intro c levels hrun hrole hen hcmp hphase he2 hm h
    refine ⟨_, exec_hallRegistration_run hrun hrole c levels, ?_⟩
    cases hsec : sectorOf h with
    | none =>
      obtain ⟨⟨hst, hstate, hmem⟩, hinv⟩ := State.hallReg_invalid hen hcmp hm hs h (s.get (R.POS_CFG_HFILT c)) hsec
      exact ⟨hst, hstate, hmem, fun _ => hinv, fun _ _ hn => (nomatch hn)⟩
    | some n =>
      cases href : (s.posn c).ref with
      | none =>
        obtain ⟨hst, hstate, hmem⟩ := State.hallReg_first hen hcmp hm hs h (s.get (R.POS_CFG_HFILT c)) hsec href
        exact ⟨hst, hstate, hmem, fun hn => (nomatch hn), fun _ _ _ hr => (nomatch hr)⟩
      | some r =>
        obtain ⟨⟨hst, hstate, hmem⟩, href', l, counted⟩ :=
          State.hallReg_sector hen hcmp hm hs h (s.get (R.POS_CFG_HFILT c)) hphase he2 hsec href
        refine ⟨hst, hstate, hmem, fun hn => (nomatch hn), ?_⟩
        intro m q hsame hq _ d
        obtain rfl : n = m := Option.some.inj hsame
        obtain rfl : r = q := Option.some.inj hq
        have hd : d < 6 := Nat.mod_lt _ (by decide)
        have hcnt := counted.cnt
        rw [State.posStep_eq s c hd] at hcnt
        exact ⟨href', hcnt, counted.last, fun hskip => counted.skip ((sectorSkip_iff d).2 hskip),
          fun h0 h3 => counted.hit (State.posStep_ne_zero s c hd h0 h3)⟩
  case writes =>
    intro m c v
    exact ⟨fun hb => ⟨congrArg _ (State.writePosSet_barred hb v), congrArg _ (State.writePosAdd_barred hb v)⟩,
      fun hb => ⟨congrArg _ (State.writePosAdd_open hb v), exec_posSet_open hs hb v⟩⟩
  case samples =>
    intro d levels c hi hw hcd hen h hh n r hn hr _
    obtain ⟨t, hexec, ⟨hprev, href, hdelta⟩, hcnt, hmem⟩ := exec_lpHallSample_sector hs hi hw hcd hen hh hn hr
    rw [State.posStep_eq s c (Nat.mod_lt _ (by decide))] at hdelta
    exact ⟨t, hexec, hprev, href, hcnt, hmem, hdelta⟩
  case kept => exact fun n partner rising tap hrun hrole hen hfirst => exec_captureEdge_keeps hrun hrole hen hfirst rising tap
  case edges =>
    intro n partner rising tap hedge hsel
    rw [State.tcBeat_single hedge]
    have puts := State.tcEdge_puts (s := s.edgesTaken) hs n partner rising tap.toNat
    have htap := State.tcTap_lt s n tap
    refine ⟨puts.mem, puts.edges, ?record, fun hmode hsrc => ⟨?start, ?stop⟩⟩
    case record =>
      rintro rfl hmode
      rw [State.tcEdge_records (s := s.edgesTaken) hmode hsel]
      refine ⟨fun hlen => ?_, fun hlen => State.tcRecord_loses (s := s.edgesTaken) hs hlen ..⟩
      obtain ⟨w, hrecs, ⟨hw, hcoarse, -, hlevel, -⟩, hshown⟩ := State.tcRecord_adds (s := s.edgesTaken) (n := n) hs hlen s.time.dtime htap
        (len := 0) (by decide) (s.tcCoarse n) false false rising
      exact ⟨w, hrecs, hw, hcoarse, hlevel, hshown⟩
    case start =>
      rintro rfl
      rw [State.tcEdge_starts (s := s.edgesTaken) hmode hsrc hsel, State.tcStart_cap]
      exact ⟨rfl, rfl, State.tcStart_open (s := s.edgesTaken) hs n _ _⟩
    case stop =>
      rintro b t0 rfl hfine hstart hb hlen
      have hfine' : s.edgesTaken.tcCoarse n = false := hfine
      have htap' : s.edgesTaken.tcTap n tap.toNat = tap.toNat := by rw [State.tcTap, hfine', if_neg (by decide)]
      rw [State.tcEdge_stops (s := s.edgesTaken) hmode hsrc hsel, hfine', htap']
      exact State.tcStop_records (s := s.edgesTaken) hs tap.isLt hstart hb hlen rising

end Sys2Proof.Machine
end

section
/-!
PROOFS. The mailboxes of a cascade (spec/28 R772): what a remote store to the issuer's own mailbox does, and why O59 fails.
-/
namespace Sys2Proof.Machine

/-! ## Writes of a mailbox -/

theorem getBits_whole (v : Word) : getBits v 0 48 = v.toNat := by
  unfold getBits
  rw [Nat.shiftRight_zero, Nat.mod_eq_of_lt v.isLt]

/-- A mailbox is one RW field of all its bits, of keep class W. -/
theorem regRow_mailbox : ∀ k : Chip, regRow (RW.PEER_CSMB k.val) = some ⟨"PEER_CSMB", 0x417014, [(1, 4)], [⟨"W", 0, 48, .rw, .w, 0, .any⟩]⟩ := by
  decide

/-- The mailboxes lie in the PEER block, and none is a register whose write starts an action or a call. -/
theorem mailbox_address : ∀ k : Chip, let a := RW.PEER_CSMB k.val
    region a = .periph ∧ inDbg a = false ∧ a / 0x1000 = 0x417
      ∧ ∀ b ∈ [RW.PEER_TWCMD, RW.PEER_CSCMD, RW.PEER_RSVCA, RW.PEER_RSVCB, RW.PEER_RSVCGO], a ≠ b := by
  decide

/-- What a write of v to mailbox k leaves in it: v less the bits that are noted at its address as set by the hardware in this beat (R17). -/
def State.mailed (s : State) (k : Chip) (v : Word) : Word := v &&& ~~~ spGet (fun _ => 0) s.now.w1c (RW.PEER_CSMB k.val)

theorem State.writePlain_mailbox (s : State) (k : Chip) (v : Word) :
    s.writePlain (RW.PEER_CSMB k.val) v = s.setReg (RW.PEER_CSMB k.val) (s.mailed k v) := by
  have whole : ∀ w x : Word, writeFields [⟨"W", 0, 48, .rw, .w, 0, .any⟩] w x = x := fun w x => by
    show setBits w 0 48 (getBits x 0 48) = x
    rw [getBits_whole, setBits_whole]
  unfold State.writePlain
  rw [regRow_mailbox]
  dsimp only
  rw [whole]
  exact if_neg (by simp)

/-- A store of chip p to its own mailbox also asserts the PEER line (R772). -/
theorem State.writeReg_ownMailbox (s : State) (p : Chip) (v : Word) : s.writeReg (.remote p) (RW.PEER_CSMB p.val) v =
    (s.setReg (RW.PEER_CSMB p.val) (s.mailed p v)).assertEv 125 := by
  obtain ⟨-, -, hblock, hplain⟩ := mailbox_address p
  have hpeer : s.writeReg (.remote p) (RW.PEER_CSMB p.val) v = s.writePeer (.remote p) (RW.PEER_CSMB p.val) v := by
    unfold State.writeReg
    rw [regRow_mailbox, hblock]
    rfl
  rw [hpeer, ← State.writePlain_mailbox]
  unfold State.writePeer
  rw [if_neg (hplain _ (by simp)), if_neg (hplain _ (by simp)), if_neg (hplain _ (by simp))]
  simp

theorem State.remoteServe_ownMailbox (s : State) (p : Chip) (v : Word) : s.remoteServe p (RW.PEER_CSMB p.val) (some v) =
    ((0, 0), (s.setReg (RW.PEER_CSMB p.val) (s.mailed p v)).assertEv 125) := by
  obtain ⟨hregion, hdbg, -, hplain⟩ := mailbox_address p
  rw [← State.writeReg_ownMailbox]
  unfold State.remoteServe
  rw [hregion, regRow_mailbox, hdbg, if_neg (by simp), if_neg (by decide)]
  refine if_neg ?_
  rintro ⟨-, h | h | h⟩ <;> exact hplain _ (by simp) h

/-- A new request of chip p, a store to its own mailbox here, is served (R306, R769, R772). -/
theorem exec_remoteAccessServe_ownMailbox {s : State} {p : Chip} {n : Nat} (hs : regsWf s) (hrole : s.get R.RST_STRAP_ROLE = 3)
    (hpos : s.get R.PEER_CSSTAT_POS ≠ p.val) (hup : s.portUp p.val = true) (hserved : s.portServed = true) (hnew : s.repeated p n = false)
    {a : BitVec 24} (ha : a.toNat = RW.PEER_CSMB p.val) (v : Word) :
    ∃ t, exec (.remoteAccessServe ⟨p, n⟩ a (some v)) s = .next t ∧ t.reg a.toNat = s.mailed p v := by
  have hexec : exec (.remoteAccessServe ⟨p, n⟩ a (some v)) s =
      let r := (s.modLink (fun l => { l with served := l.served.set p (some n) })).remoteServe p a.toNat (some v)
      .next (r.2.linkOut (decide (s.chipPos < p.val)) .remoteReply [Word.ofN p.val, Word.ofN r.1.1, r.1.2]) :=
    if_pos (by simp [State.cascade, State.chipPos, hrole, hpos, hup, hserved, hnew])
  rw [ha, State.remoteServe_ownMailbox] at hexec
  refine ⟨_, hexec, ?_⟩
  rw [ha]
  exact State.reg_setReg_same (s := s.modLink _) hs _ _

/-! ## The counterexample -/

/-- Follower 1 of a running cascade with port A up, in whose beat bit 0 of the lead's mailbox is noted as a bit that the hardware has set. -/
def notedMailbox : State :=
  { ((State.reset.put R.RST_STRAP_ROLE 3).put R.PEER_CSSTAT_POS 1).put R.PEER_CSSTAT_LINKA 1 with
    pwr := { mode := .run, boot := .user }
    now := { w1c := [(RW.PEER_CSMB 0, 1)] } }

theorem notedMailbox_serves : Memory.wf notedMailbox = true ∧ notedMailbox.get R.RST_STRAP_ROLE = 3 ∧ notedMailbox.get R.PEER_CSSTAT_POS = 1
    ∧ notedMailbox.portUp 0 = true ∧ notedMailbox.portServed = true ∧ notedMailbox.repeated 0 0 = false := by decide

theorem notedMailbox_mailed : notedMailbox.mailed 0 1 = 0 := by decide

/-- Refutes O59: a store loses the bits that the present beat notes as set by the hardware (R17), and the clause of the mailbox store does not
exclude states that note bits at the mailbox. In `notedMailbox` the lead stores 1 to its mailbox, and the mailbox holds 0. -/
theorem not_cascadeRules : ¬ Obligations.CascadeRules := by
  unfold Obligations.CascadeRules
  intro h
  obtain ⟨hwf, hrole, hpos, hup, hserved, hnew⟩ := notedMailbox_serves
  have hother : notedMailbox.get R.PEER_CSSTAT_POS ≠ (0 : Chip).val := by rw [hpos]; decide
  obtain ⟨-, -, -, -, -, -, -, -, -, -, -, serves, -⟩ := h notedMailbox hwf hrole rfl
  obtain ⟨-, stores, -⟩ := serves 0 0 0x417014 1 hnew hother hup hserved
  obtain ⟨t, ht, -, hclaimed, -⟩ := stores rfl
  obtain ⟨u, hu, hkept⟩ := exec_remoteAccessServe_ownMailbox ((Memory.wf_iff _).1 hwf).1 hrole hother hup hserved hnew
    (a := 0x417014) rfl 1
  obtain rfl : u = t := Host.Outcome.next.inj (hu.symm.trans ht)
  rw [hclaimed, notedMailbox_mailed] at hkept
  exact absurd hkept (by decide)

end Sys2Proof.Machine
end
